-- ==== Sys2Proof/Word.lean ====
section
/-!
DEFINITION. The words and the small numbered things of the VZ318 hub: bytes and multi-byte fields as they stand on
the links and on the unit bus, hub time, sets of notice classes, and the index types of the hub's tables
(spec/00_scope.md "Kiosk numbers and slots").
-/

namespace Sys2Proof

/-- One byte on a link or on the unit bus. -/
abbrev Byte := BitVec 8

/-- A two-byte field (sent most significant byte first, Conventions "Byte order"). -/
abbrev Half := BitVec 16

/-- A four-byte field of a request. -/
abbrev Word := BitVec 32

/-- Hub time: the unsigned 32-bit millisecond counter of R1. -/
abbrev Time := BitVec 32

/-- A set of the twelve notice classes (R171): class n is bit n. -/
abbrev ClassSet := BitVec 12

/-- A kiosk, 0 to 7. -/
abbrev Kiosk := Fin 8

/-- A serial link: 0 to 7 are K0 to K7, 8 is S (the numbering of LINK STATUS, R195). -/
abbrev Link := Fin 9

/-- A unit slot, 0 to 11 (R135). -/
abbrev Slot := Fin 12

/-- A zone index, 0 to 31 (R2). -/
abbrev ZoneIx := Fin 32

/-- A hub contact number, 0 to 39 (R23). -/
abbrev ContactNo := Fin 40

/-- A panel's own number for a contact, 0 to 15 (R23). -/
abbrev RawId := Fin 16

/-- A request slot of a link, 0 to 3 (R186). -/
abbrev ReqSlot := Fin 4

end Sys2Proof
end

