-- ==== Sys2Proof/Syntax.lean ====
section
/-!
DEFINITION. The commands of the hub: one constructor for each row of spec/opcode_table.json.

A request command is one whole request frame taken on a link (R186): it carries the link, the TAG and the fields of the
payload, byte for byte as spec/11_frame_and_record_formats.md (11.4) lays them out. A field a request carries on S alone
(the kinds marked K in 11.4) is an `Option`: `none` is the shorter payload. The other commands are the events of
spec/95_what_each_step_holds.md: a byte on a link, the end of a frame, the end of a transaction on the unit bus with what
the unit did on the wires, the expiry of a timer, a change of an attention line, the resets.
-/

namespace Sys2Proof

/-- A zone record of ZONE SET as its 18 bytes give it (11.4 "Records within payloads"). -/
structure ZoneRecord where
  index : Byte
  state : Byte
  panel : Byte
  left : Half
  top : Half
  width : Half
  height : Half
  rotation : Byte
  logicalWidth : Half
  logicalHeight : Half
  deadBand : Byte
  home : Byte
  deriving DecidableEq, Repr

/-- What a unit did on the wires until a transaction ended by itself (R155 to R157). `nackAt` is the place, counting
from 0 in wire order, of the first byte the hub sent that no unit acknowledged, if any. `received` is the answer the
unit sends in the second part of a READ: count byte, data bytes, check byte. -/
structure UnitAnswer where
  nackAt : Option Nat
  received : List Byte
  deriving DecidableEq, Repr

/-- The commands, one constructor per row of spec/opcode_table.json, in the table's order. -/
inductive Instr where
  /-- POWER_ON (R198). -/
  | powerOn
  /-- RESET_PIN_ASSERT (R198). -/
  | resetPinAssert
  /-- FULL_RESET_COMPLETE (R198). -/
  | fullResetComplete
  /-- RESET_FULL (R198): RESET of kind FULL. -/
  | resetFull (link : Link) (tag : Byte)
  /-- RESET_SOFT (R198): RESET of kind SOFT. -/
  | resetSoft (link : Link) (tag : Byte)
  /-- SOFT_RESET_COMPLETE (R198). -/
  | softResetComplete
  /-- LINK_BYTE_RECEIVED (R184). -/
  | linkByteReceived (link : Link) (b : Byte)
  /-- CHARACTER_ERROR (R184). -/
  | characterError (link : Link)
  /-- TRANSMIT_END (R189). -/
  | transmitEnd (link : Link)
  /-- ECHO (R194). -/
  | echo (link : Link) (tag : Byte) (data : List Byte)
  /-- HUB_IDENT (R194). -/
  | hubIdent (link : Link) (tag : Byte)
  /-- LINK_STATUS (R195). -/
  | linkStatus (link : Link) (tag : Byte) (target : Option Byte)
  /-- CLEAR_KIOSK (R196). -/
  | clearKiosk (link : Link) (tag : Byte) (kiosk : Option Byte)
  /-- MAINTAIN_ON (R197). -/
  | maintainOn (link : Link) (tag : Byte) (kiosk : Byte)
  /-- MAINTAIN_OFF (R197). -/
  | maintainOff (link : Link) (tag : Byte) (kiosk : Byte)
  /-- ZONE_SET (R9). -/
  | zoneSet (link : Link) (tag : Byte) (records : List ZoneRecord)
  /-- ZONE_CLEAR (R17). -/
  | zoneClear (link : Link) (tag : Byte) (indices : List Byte)
  /-- ZONE_LIST (R19). -/
  | zoneList (link : Link) (tag : Byte) (panel : Byte) (first : Byte)
  /-- TOUCH_LIST (R47). -/
  | touchList (link : Link) (tag : Byte) (kiosk : Option Byte) (first : Byte)
  /-- CLAIM (R54). -/
  | claim (link : Link) (tag : Byte) (kind : Byte) (number : Byte) (lease : Word) (waitLimit : Word)
  /-- RENEW (R57). -/
  | renew (link : Link) (tag : Byte) (claimId : Byte)
  /-- RELEASE (R58, R59). -/
  | release (link : Link) (tag : Byte) (claimId : Byte)
  /-- LEASE_EXPIRY (R62). -/
  | leaseExpiry (claimId : Byte)
  /-- WAIT_LIMIT_EXPIRY (R63). -/
  | waitLimitExpiry (claimId : Byte)
  /-- FORCE_RELEASE (R66). -/
  | forceRelease (link : Link) (tag : Byte) (claimId : Byte)
  /-- CLAIM_STATUS_ONE (R67). -/
  | claimStatusOne (link : Link) (tag : Byte) (claimId : Byte) (kiosk : Option Byte)
  /-- CLAIM_STATUS_LIST (R67). -/
  | claimStatusList (link : Link) (tag : Byte) (claimId : Byte) (kiosk : Option Byte)
  /-- PRINT_OPEN (R82). -/
  | printOpen (link : Link) (tag : Byte) (target : Byte)
  /-- PRINT_DATA (R83). -/
  | printData (link : Link) (tag : Byte) (jobId : Half) (data : List Byte)
  /-- PRINT_CLOSE (R85). -/
  | printClose (link : Link) (tag : Byte) (jobId : Half)
  /-- PRINT_CANCEL (R86, R87). -/
  | printCancel (link : Link) (tag : Byte) (jobId : Half)
  /-- FILL_STALL_EXPIRY (R88). -/
  | fillStallExpiry (jobId : Half)
  /-- JOB_STATUS (R91). -/
  | jobStatus (link : Link) (tag : Byte) (jobId : Half) (collect : Byte)
  /-- SPOOL_STATUS (R92). -/
  | spoolStatus (link : Link) (tag : Byte) (kiosk : Option Byte)
  /-- QUOTA_SET (R93). -/
  | quotaSet (link : Link) (tag : Byte) (kiosk : Byte) (quota : Half)
  /-- FILL_LIMIT_SET (R94). -/
  | fillLimitSet (link : Link) (tag : Byte) (limit : Word)
  /-- MARK_START_COMPLETE (R102). -/
  | markStartComplete (answer : UnitAnswer)
  /-- CREDIT_READ_COMPLETE (R103). -/
  | creditReadComplete (answer : UnitAnswer)
  /-- FEED_COMPLETE (R105). -/
  | feedComplete (answer : UnitAnswer)
  /-- MARK_END_COMPLETE (R106). -/
  | markEndComplete (answer : UnitAnswer)
  /-- PSTATE_READ_COMPLETE (R107). -/
  | pstateReadComplete (answer : UnitAnswer)
  /-- MARK_ABORT_COMPLETE (R109). -/
  | markAbortComplete (answer : UnitAnswer)
  /-- SCAN_START (R121, R122). -/
  | scanStart (link : Link) (tag : Byte) (slot : Byte) (x y w h : Half) (resolution : Byte) (mode : Byte) (credit : Byte)
  /-- SCAN_CREDIT (R128). -/
  | scanCredit (link : Link) (tag : Byte) (slot : Byte) (n : Byte)
  /-- SCAN_STOP (R129). -/
  | scanStop (link : Link) (tag : Byte) (slot : Byte)
  /-- SCAN_STATUS (R133). -/
  | scanStatus (link : Link) (tag : Byte) (slot : Byte)
  /-- SSET_COMPLETE (R122). -/
  | ssetComplete (answer : UnitAnswer)
  /-- SGO_COMPLETE (R122). -/
  | sgoComplete (answer : UnitAnswer)
  /-- AVAIL_READ_COMPLETE (R126). -/
  | availReadComplete (answer : UnitAnswer)
  /-- PULL_COMPLETE (R126). -/
  | pullComplete (answer : UnitAnswer)
  /-- SSTATE_READ_COMPLETE (R127). -/
  | sstateReadComplete (answer : UnitAnswer)
  /-- SHALT_COMPLETE (R129). -/
  | shaltComplete (answer : UnitAnswer)
  /-- UNIT_DEFINE (R137). -/
  | unitDefine (link : Link) (tag : Byte) (slot : Byte) (address : Byte) (kind : Byte) (mode : Byte) (enable : Byte)
  /-- UNIT_REMOVE (R142). -/
  | unitRemove (link : Link) (tag : Byte) (slot : Byte)
  /-- UNIT_STATUS (R143). -/
  | unitStatus (link : Link) (tag : Byte)
  /-- ATTN_SET (R149). -/
  | attnSet (link : Link) (tag : Byte) (slot : Byte) (mode : Byte) (enable : Byte)
  /-- PING_COMPLETE (R138). -/
  | pingComplete (answer : UnitAnswer)
  /-- RESTART_COMPLETE (R138). -/
  | restartComplete (answer : UnitAnswer)
  /-- IDENT_COMPLETE (R138). -/
  | identComplete (answer : UnitAnswer)
  /-- REPROBE_TIMER_EXPIRY (R139). -/
  | reprobeTimerExpiry (slot : Slot)
  /-- ATTN_LINE_CHANGE (R144): the line of the slot is now at this level (true is high). -/
  | attnLineChange (slot : Slot) (high : Bool)
  /-- CAUSE_POLL_COMPLETE (R148). -/
  | causePollComplete (answer : UnitAnswer)
  /-- CONTACTS_READ_COMPLETE (R27). -/
  | contactsReadComplete (answer : UnitAnswer)
  /-- BUS_RAW_PING (R167). -/
  | busRawPing (link : Link) (tag : Byte) (address : Byte) (command : Byte)
  /-- BUS_RAW_READ (R167). -/
  | busRawRead (link : Link) (tag : Byte) (address : Byte) (command : Byte)
  /-- BUS_RAW_WRITE (R167). -/
  | busRawWrite (link : Link) (tag : Byte) (address : Byte) (command : Byte) (data : List Byte)
  /-- BUS_RAW_COMPLETE (R167). -/
  | busRawComplete (answer : UnitAnswer)
  /-- BUS_ABORT (R168). -/
  | busAbort (link : Link) (tag : Byte)
  /-- STALL_TIMER_EXPIRY (R160): the bytes that had crossed the wires when the timer ran out. -/
  | stallTimerExpiry (sent : Nat) (received : List Byte)
  /-- RELEASE_SEQUENCE_END (R161). -/
  | releaseSequenceEnd
  /-- RELEASE_WAIT_TIMEOUT (R161). -/
  | releaseWaitTimeout
  /-- NOTICE_ARM (R176). -/
  | noticeArm (link : Link) (tag : Byte) (classes : Half)
  /-- NOTICE_DISARM (R176). -/
  | noticeDisarm (link : Link) (tag : Byte) (classes : Half)
  /-- NOTICE_HOLD (R177). -/
  | noticeHold (link : Link) (tag : Byte)
  /-- NOTICE_RELEASE (R177). -/
  | noticeRelease (link : Link) (tag : Byte)
  /-- NOTICE_PEEK (R178). -/
  | noticePeek (link : Link) (tag : Byte) (kiosk : Option Byte)
  /-- NOTICE_TAKE (R178). -/
  | noticeTake (link : Link) (tag : Byte)
  /-- NOTICE_MAINTAIN_MASK (R179). -/
  | noticeMaintainMask (link : Link) (tag : Byte) (kiosk : Byte) (classes : Half)
  /-- FORCE_NOTICE (R180). -/
  | forceNotice (link : Link) (tag : Byte) (kiosk : Byte) (classes : Half) (word : Half)
  deriving DecidableEq, Repr

end Sys2Proof
end

