-- ==== Sys2Proof/Decode.lean ====
section
/-!
DEFINITION. The command a table word spells. No row of spec/opcode_table.json gives bits: requests come in frames, which
`Machine/LinkEvents.lean` reads byte by byte, and the other commands are events. So no word spells a command (notes/assumptions/25.md).
-/

namespace Sys2Proof

/-- The command of a table word: none, since no row has bits. -/
def decodeTableWord (_nbits _w : Nat) : Option Instr := none

end Sys2Proof
end

