-- ==== Sys2Proof/Config.lean ====
section
/-!
DEFINITION. What the spec leaves open: the free values. Each is a constant with no body, so that no proof can know
its value; a claim about the model holds whatever it is.
-/

namespace Sys2Proof

/-- FREE VALUE (notes/assumptions/6.md, DESIGN CHOICE). The bytes of a unit's answer that had crossed the unit bus when
BUS ABORT cut a transaction short (R168 ends it "at once", at no stated byte). The argument is the number of free
values drawn before it. The model cuts it to what an answer can hold, its check byte included (R157). -/
opaque Config.abortReceived : Nat → List Byte

/-- FREE VALUE (notes/assumptions/6.md, DESIGN CHOICE). How many bytes the hub had sent when BUS ABORT cut a transaction
short. -/
opaque Config.abortSent : Nat → Nat

/-- FREE VALUE (notes/assumptions/15.md, DESIGN CHOICE). What a four-byte counter field of a reply carries once its
counter has passed 2^32 - 1, the end of the range R75 and R118 give it; the spec states no value there. -/
opaque Config.countPast32 : Nat → BitVec 32

/-- FREE VALUE (notes/assumptions/16.md, DESIGN CHOICE). What the two-byte re-probe time of a unit record carries when the
expiry has been passed and not yet taken (R143 gives a difference modulo 2^32, 11.4 a two-byte field and the sentence
that a larger value cannot arise). -/
opaque Config.reprobePast16 : Nat → BitVec 16

end Sys2Proof
end

