-- ==== Sys2Proof/Machine/State.lean ====
section
/-!
DEFINITION. The whole state of the hub as plain data: every block's tables, queues, flags and counters (the block
diagram of spec/00_scope.md and the state rules of each chapter), the input pins, and the queue of commands that are
waiting. `State.reset` is the hub right after a full reset.
-/

namespace Sys2Proof.Machine

/-- Nothing stops the hub: the spec names no condition in which it ceases to run, so this type has no constructor and
no step can fault (notes/assumptions/22.md). -/
inductive Fault where
  deriving DecidableEq, Repr

/-- Why a command has no meaning in the model. -/
inductive Refusal where
  /-- Raised by `exec` alone, for a row of the table that has no meaning yet (there is none). Safe: the run stops. -/
  | notModelled (mnemonic : String)
  deriving DecidableEq, Repr

/-! ### Zone Map (chapter 1) -/

/-- One entry of the zone table that is ENABLED or DISABLED (R2, R3). An UNUSED entry describes no zone. -/
structure Zone where
  enabled : Bool
  panel : Slot
  left : Nat
  top : Nat
  width : Nat
  height : Nat
  rotation : Fin 4
  logicalWidth : Nat
  logicalHeight : Nat
  deadBand : Nat
  home : Option Kiosk
  deriving DecidableEq, Repr

/-! ### Contact Tracker (chapter 2) -/

/-- The last produced position and last EDGE of a contact (R23). -/
structure Produced where
  x : Nat
  y : Nat
  edge : Bool
  deriving DecidableEq, Repr

/-- One entry in use of the contact table (R23). `live` is LIVE against MUTE. `last` is unset for a contact captured
MUTE. -/
structure Contact where
  panel : Slot
  rawId : RawId
  zone : Option ZoneIx
  owner : Option Kiosk
  live : Bool
  last : Option Produced
  deriving DecidableEq, Repr

/-- The panel engine of a slot (R26). -/
structure PanelEngine where
  readWanted : Bool
  readCapture : Option Time
  outstanding : Bool
  deriving DecidableEq, Repr

/-- The phase of a touch event (R45). -/
inductive Phase where
  | down | move | up | cancel
  deriving DecidableEq, Repr

/-- A touch event in a touch queue (R45, R191). -/
structure TouchEvent where
  contact : ContactNo
  phase : Phase
  zone : Option ZoneIx
  x : Nat
  y : Nat
  time : Half
  edge : Bool
  deriving DecidableEq, Repr

/-! ### Claim Manager (chapter 3) -/

/-- A claimable thing: a scanner slot or a zone index (R49). -/
inductive Resource where
  | scanner (slot : Slot)
  | zone (index : ZoneIx)
  deriving DecidableEq, Repr

/-- One claim record (R50). `held` is HELD against WAITING. -/
structure Claim where
  id : Nat
  kiosk : Kiosk
  resource : Resource
  held : Bool
  lease : Nat
  waitLimit : Nat
  expiry : Time
  deriving DecidableEq, Repr

/-! ### Spooler (chapter 4) -/

/-- The eight job states (R76). -/
inductive JobState where
  | filling | queued | feeding | draining | cancelling | done | failed | cancelled
  deriving DecidableEq, Repr

/-- Why a job FAILED (R75). -/
inductive JobCause where
  | unitLost | unitRemoved | printerAbort | fillStall
  deriving DecidableEq, Repr

/-- One job record (R75). `anyTarget` says that the target is ANY; `slot` is the target slot or the assigned slot.
`stallEnd` is the end cause STALL. -/
structure Job where
  id : Nat
  kiosk : Kiosk
  anyTarget : Bool
  slot : Slot
  state : JobState
  isOpen : Bool
  chain : List Nat
  spooled : Nat
  fed : Nat
  fill : Nat
  lastData : Time
  stallEnd : Bool
  pages : Option Half
  cause : Option JobCause
  deriving DecidableEq, Repr

/-- A kiosk's quota, held count and want-room flag (R73, R74). -/
structure KioskSpool where
  quota : Nat
  held : Nat
  wantRoom : Bool
  deriving DecidableEq, Repr

/-! ### The transactions of the engines -/

/-- The transactions the blocks post, by name (R159), and the three of the service pass-through (R167). -/
inductive TxnName where
  | ping | restart | ident | cause
  | credit | feed | markStart | markEnd | markAbort | pstate
  | sset | sgo | avail | pull | shalt | sstate
  | contacts
  | rawPing | rawRead | rawWrite
  deriving DecidableEq, Repr

/-! ### Feed Engines (chapter 5) -/

/-- Where a Feed Engine stands in its job (R99). -/
inductive FeedStep where
  | none | startMark | stream | endMark | endWait | abortMark
  deriving DecidableEq, Repr

/-- A printer's pause cause (R112). -/
inductive PauseCause where
  | paperOut | jam | coverOpen
  deriving DecidableEq, Repr

/-- A Feed Engine (R98). -/
structure FeedEngine where
  credit : Nat
  creditKnown : Bool
  creditWanted : Bool
  paused : Bool
  pauseCause : Option PauseCause
  step : FeedStep
  job : Option Nat
  markHeld : Bool
  pagesWanted : Bool
  outstanding : Option TxnName
  deriving DecidableEq, Repr

/-! ### Scan Engines (chapter 6) -/

/-- The five states of a scan record (R119). -/
inductive ScanState where
  | idle | preparing | running | ending | halting
  deriving DecidableEq, Repr

/-- How a scan ended (R118). `none` is NONE. -/
inductive ScanOutcome where
  | none | done | cancelled | lapsed | unitLost | unitFault
  deriving DecidableEq, Repr

/-- The colour mode of a scan (R118). -/
inductive ScanMode where
  | gray8 | colour24 | line1
  deriving DecidableEq, Repr

/-- The setup write owed or outstanding in PREPARING (R118). -/
inductive SetupStep where
  | sset | sgo
  deriving DecidableEq, Repr

/-- A scan record (R118). `lastKiosk` is the MODEL's own: the kiosk of the current or last scan, in whose queue the frames
of that scan stand after the record is IDLE (R193, R133; notes/assumptions/28.md). -/
structure ScanRecord where
  state : ScanState
  ownerClaim : Option Nat
  kiosk : Option Kiosk
  x : Nat
  y : Nat
  w : Nat
  h : Nat
  resolution : Nat
  mode : ScanMode
  credit : Nat
  nextSeq : Half
  delivered : Nat
  available : Nat
  total : Option Half
  haltOutcome : Option ScanOutcome
  lastOutcome : ScanOutcome
  availWanted : Bool
  stateWanted : Bool
  setup : Option SetupStep
  haltOwed : Bool
  outstanding : Option TxnName
  lastKiosk : Option Kiosk
  deriving DecidableEq, Repr

/-- A SCAN DATA frame waiting in a scan frame queue (R193). -/
structure ScanFrame where
  slot : Slot
  seq : Half
  data : List Byte
  deriving DecidableEq, Repr

/-! ### Unit Table and Attention Unit (chapter 7) -/

/-- What a slot is defined to hold (R135). -/
inductive UnitKind where
  | printer | scanner | panel
  deriving DecidableEq, Repr

/-- The four defined states of a slot (R136). -/
inductive UnitState where
  | probing | ready | lost | mismatch
  deriving DecidableEq, Repr

/-- How a slot's attention line is read (R144). -/
inductive AttnMode where
  | levelLow | levelHigh | edgeFall | edgeRise
  deriving DecidableEq, Repr

/-- The probe transaction owed or outstanding (R135). -/
inductive ProbeStep where
  | ping | restart | ident
  deriving DecidableEq, Repr

/-- What a unit said of itself (R135, R203). -/
structure Ident where
  kind : Byte
  model : Half
  revision : Byte
  cap1 : Half
  cap2 : Half
  deriving DecidableEq, Repr

/-- The definition of a slot that is not UNDEFINED, with its state (R135, R136). -/
structure UnitDef where
  address : Nat
  kind : UnitKind
  state : UnitState
  deriving DecidableEq, Repr

/-- One unit slot (R135). `definition` is absent in state UNDEFINED. -/
structure UnitSlot where
  definition : Option UnitDef
  mode : AttnMode
  enable : Bool
  failures : Nat
  probe : Option ProbeStep
  reprobe : Option Time
  ident : Option Ident
  deriving DecidableEq, Repr

/-- The Attention Unit's state of a slot (R144). -/
structure Attention where
  pending : Bool
  capture : Time
  deriving DecidableEq, Repr

/-! ### Unit Bus Controller (chapter 8) -/

/-- The block that posted a transaction (R153). -/
inductive Owner where
  | cause | engine | probe | service
  deriving DecidableEq, Repr

/-- The kind of a transaction (R153). -/
inductive BusKind where
  | ping | read | write
  deriving DecidableEq, Repr

/-- The rank of a posting (R164). -/
inductive Rank where
  | service | panel | scanner | printer | probe
  deriving DecidableEq, Repr

/-- How a transaction ended ("Outcomes at a glance", chapter 8). -/
inductive BusOutcome where
  | ok | noAnswer | refused | checkFail | overlong | short | stalled | aborted
  deriving DecidableEq, Repr

/-- A posting on the board (R163). Its slot is its place. -/
structure Posting where
  owner : Owner
  kind : BusKind
  address : Nat
  command : Byte
  data : List Byte
  minCount : Nat
  rank : Rank
  aging : Nat
  deriving DecidableEq, Repr

/-- The bytes sent and received so far and the running check value (R153 "progress"). -/
structure Progress where
  sent : List Byte
  received : List Byte
  check : Byte
  deriving DecidableEq, Repr

/-- The transaction in flight (R153). `stallAt` is the expiry of the stall timer of its first byte (R160). -/
structure Txn where
  owner : Owner
  slot : Option Slot
  kind : BusKind
  address : Nat
  command : Byte
  data : List Byte
  minCount : Nat
  capture : Time
  orphaned : Bool
  progress : Progress
  stallAt : Time
  deriving DecidableEq, Repr

/-- The three states of the controller (R153). RECOVERING carries the hub time at which its wait for the clock line
ends (R161). -/
inductive BusState where
  | idle
  | running (txn : Txn)
  | recovering (expiry : Time)
  deriving DecidableEq, Repr

/-- The slot last granted in each rank (R165). -/
structure Pointers where
  panel : Slot
  scanner : Slot
  printer : Slot
  probe : Slot
  deriving DecidableEq, Repr

/-! ### Notice Controller (chapter 9) -/

/-- A kiosk's pending set P, enable set E, hold flag H, maintenance mask M and forced-notice slot (R172). -/
structure NoticeState where
  pending : ClassSet
  enabled : ClassSet
  hold : Bool
  mask : ClassSet
  forced : Option (ClassSet × Half)
  deriving DecidableEq, Repr

/-! ### Link Interface (chapter 10) -/

/-- The receiver of a link (R184). In BODY: the LEN, and the bytes of KIND, TAG, payload and check received so far. -/
inductive Receiver where
  | hunt
  | length
  | body (len : Byte) (got : List Byte)
  deriving DecidableEq, Repr

/-- A request held in a request slot (R186). -/
structure Request where
  kind : Byte
  tag : Byte
  ready : Bool
  deriving DecidableEq, Repr

/-- A ready reply (R188). `kind` is the request's KIND plus 80h. -/
structure Reply where
  slot : ReqSlot
  kind : Byte
  tag : Byte
  payload : List Byte
  deriving DecidableEq, Repr

/-- The frame a transmitter is sending: the request slot a reply frees at its end, and the bytes on the wire. -/
structure Sending where
  slot : Option ReqSlot
  bytes : List Byte
  deriving DecidableEq, Repr

/-- The state of one link (chapter 10). The transmitter is free when nothing is being sent. -/
structure LinkState where
  receiver : Receiver
  requests : Vector (Option Request) 4
  replies : List Reply
  lenOverlong : Bool
  check : Bool
  dropped : Bool
  sending : Option Sending
  deriving DecidableEq, Repr

/-- What the Link Interface holds for a kiosk link beside its link state (chapter 10). -/
structure KioskLink where
  touch : List TouchEvent
  scan : List ScanFrame
  streak : Nat
  gap : Bool
  maintenance : Bool
  deriving DecidableEq, Repr

/-- Whether a reset is going on (R198). A soft reset carries the request slot of its RESET SOFT, and whether the
release sequence it began has ended. -/
inductive ResetPhase where
  | running
  | full
  | soft (slot : ReqSlot) (released : Bool)
  deriving DecidableEq, Repr

/-- The hub. -/
structure State where
  /-- The commands that are waiting, first in, first out. -/
  pending : List Instr
  /-- Hub time (R1). -/
  hubTime : Time
  /-- Whether a reset is going on (R198). -/
  phase : ResetPhase
  /-- The RESET input is held low (R198). -/
  resetLow : Bool
  /-- Power-on detection holds the hub in reset (R198). -/
  powerOnHold : Bool
  /-- The level of each attention input, true for high (R144). -/
  attnLine : Vector Bool 12
  /-- The zone table (R2); `none` is UNUSED. -/
  zones : Vector (Option Zone) 32
  /-- The contact table (R23); `none` is free. -/
  contacts : Vector (Option Contact) 40
  /-- The ignored set of each slot (R24). -/
  ignored : Vector (List RawId) 12
  /-- The panel engine of each slot (R26). -/
  panels : Vector PanelEngine 12
  /-- The claim table, in ascending claim id (R50). -/
  claims : List Claim
  /-- The ids of the WAITING claims in the order their CLAIMs were taken: the wait queue of a resource is the part of
  this list whose claims name it (R52). -/
  waits : List Nat
  /-- The next claim id (R51). -/
  nextClaim : Nat
  /-- The bytes of the spool pool, in canonical form (R72). -/
  spool : List Host.Cell
  /-- The free list (R72). -/
  free : List Nat
  /-- The job table, in ascending job id (R75, R79). -/
  jobs : List Job
  /-- The terminal list (R79). -/
  terminal : List Nat
  /-- The job queue of each printer slot (R80). -/
  printQueue : Vector (List Nat) 12
  /-- The next job id (R78). -/
  nextJob : Nat
  /-- Each kiosk's quota, held count and want-room flag (R73, R74). -/
  kioskSpool : Vector KioskSpool 8
  /-- The fill limit in ms (R88, R94). -/
  fillLimit : Nat
  /-- The Feed Engine of each slot (R98). -/
  feeds : Vector FeedEngine 12
  /-- The scan record of each slot (R118). -/
  scans : Vector ScanRecord 12
  /-- The Unit Table (R135). -/
  units : Vector UnitSlot 12
  /-- The Attention Unit (R144). -/
  attn : Vector Attention 12
  /-- The state of the Unit Bus Controller (R153). -/
  bus : BusState
  /-- The slot places of the posting board (R163). -/
  board : Vector (Option Posting) 12
  /-- The service place of the posting board (R163). -/
  servicePlace : Option Posting
  /-- The rank pointers (R165). -/
  pointers : Pointers
  /-- The request slot on S of the BUS RAW that is outstanding (R167). -/
  busRaw : Option ReqSlot
  /-- The Notice Controller's state of each kiosk (R172). -/
  notices : Vector NoticeState 8
  /-- The state of each link (chapter 10). -/
  links : Vector LinkState 9
  /-- The queues, streak, gap flag and maintenance flag of each kiosk link (chapter 10). -/
  kiosks : Vector KioskLink 8
  /-- The MODEL's own counter: how many free values have been drawn (notes/assumptions/6.md). -/
  freeDrawn : Nat
  deriving DecidableEq, Repr

/-! ### Reset values -/

/-- A panel engine after a reset (R48). -/
def PanelEngine.reset : PanelEngine := { readWanted := false, readCapture := none, outstanding := false }

/-- A Feed Engine after a reset (R117). -/
def FeedEngine.reset : FeedEngine :=
  { credit := 0, creditKnown := false, creditWanted := false, paused := false, pauseCause := none, step := .none,
    job := none, markHeld := false, pagesWanted := false, outstanding := none }

/-- A scan record after a reset (R134). -/
def ScanRecord.reset : ScanRecord :=
  { state := .idle, ownerClaim := none, kiosk := none, x := 0, y := 0, w := 0, h := 0, resolution := 1, mode := .gray8,
    credit := 0, nextSeq := 0, delivered := 0, available := 0, total := none, haltOutcome := none, lastOutcome := .none,
    availWanted := false, stateWanted := false, setup := none, haltOwed := false, outstanding := none
    lastKiosk := none }

/-- A unit slot after a full reset (R150, R152). -/
def UnitSlot.reset : UnitSlot :=
  { definition := none, mode := .levelLow, enable := false, failures := 0, probe := none, reprobe := none, ident := none }

/-- The Attention Unit's state of a slot after a reset (R152). -/
def Attention.reset : Attention := { pending := false, capture := 0 }

/-- A kiosk's spool figures after a full reset (R96). -/
def KioskSpool.reset : KioskSpool := { quota := 256, held := 0, wantRoom := false }

/-- The notice classes as sets (R171). RESTARTED is class 0. -/
def restartedClass : ClassSet := 0x001#12

/-- A kiosk's notice state after a full reset (R182). -/
def NoticeState.reset : NoticeState :=
  { pending := restartedClass, enabled := restartedClass, hold := false, mask := 0, forced := none }

/-- A link after a reset (R199). -/
def LinkState.reset : LinkState :=
  { receiver := .hunt, requests := Vector.replicate 4 none, replies := [], lenOverlong := false, check := false,
    dropped := false, sending := none }

/-- The queues and flags of a kiosk link after a reset (R199). -/
def KioskLink.reset : KioskLink := { touch := [], scan := [], streak := 0, gap := false, maintenance := false }

/-- The rank pointers after a reset: each names slot 0 (R169). -/
def Pointers.reset : Pointers := { panel := 0, scanner := 0, printer := 0, probe := 0 }

/-- The hub right after a full reset (R1, R21, R48, R71, R96, R117, R134, R150, R152, R169, R182, R199). The input pins
are not the hub's: every attention line and the RESET input are high (notes/assumptions/8.md). -/
def State.reset : State :=
  { pending := [], hubTime := 0, phase := .running, resetLow := false, powerOnHold := false,
    attnLine := Vector.replicate 12 true,
    zones := Vector.replicate 32 none,
    contacts := Vector.replicate 40 none, ignored := Vector.replicate 12 [], panels := Vector.replicate 12 .reset,
    claims := [], waits := [], nextClaim := 1,
    spool := [], free := List.range 1024, jobs := [], terminal := [], printQueue := Vector.replicate 12 [], nextJob := 1,
    kioskSpool := Vector.replicate 8 .reset, fillLimit := 15000,
    feeds := Vector.replicate 12 .reset, scans := Vector.replicate 12 .reset,
    units := Vector.replicate 12 .reset, attn := Vector.replicate 12 .reset,
    bus := .idle, board := Vector.replicate 12 none, servicePlace := none, pointers := .reset, busRaw := none,
    notices := Vector.replicate 8 .reset, links := Vector.replicate 9 .reset, kiosks := Vector.replicate 8 .reset,
    freeDrawn := 0 }

end Sys2Proof.Machine
end

