-- ==== Sys2Proof/Machine/Ops.lean ====
section
/-!
DEFINITION. The named operations over the state that the blocks share: the update of one place of a table, the index
lists of the tables, comparison of times (R1), byte order (Conventions), the spool memory (R72), latching of notice
classes (R171), touch queues (R191, R192), lookups of slots, claims and jobs, and the queueing of replies (R188).
-/

namespace Sys2Proof.Machine

/-- What a command answers. -/
abbrev Answer := Host.Outcome State Fault Refusal

/-! ### Tables -/

/-- Change one place of a table. -/
def upd {α : Type} {n : Nat} (v : Vector α n) (i : Fin n) (f : α → α) : Vector α n := v.set i (f v[i])

/-- Change every place of a table. -/
def mapAll {α β : Type} {n : Nat} (v : Vector α n) (f : α → β) : Vector β n := Vector.ofFn fun i => f v[i]

/-- Every index of a table of n places, in ascending order. -/
def indices (n : Nat) : List (Fin n) := List.finRange n

/-- A number as an index of a table, when it is one. -/
def index? (n : Nat) (x : Nat) : Option (Fin n) := if h : x < n then some ⟨x, h⟩ else none

/-- Do something for each member of a list in order. -/
def forEach {α : Type} (l : List α) (f : α → State → State) (s : State) : State := l.foldl (fun t a => f a t) s

/-! ### Time (R1) -/

/-- A time is reached when hub time minus it, modulo 2^32, is below 2^31 (R1). -/
def reached (now t : Time) : Bool := decide ((now - t).toNat < 2 ^ 31)

/-- The expiry of a timer set now for a length of ms (R1). -/
def after (now : Time) (ms : Nat) : Time := now + BitVec.ofNat 32 ms

/-! ### Byte order (Conventions: most significant byte first) -/

/-- A one-byte field. -/
def u8 (n : Nat) : List Byte := [BitVec.ofNat 8 n]

/-- A two-byte field. -/
def u16 (h : Half) : List Byte := [(h >>> 8).setWidth 8, h.setWidth 8]

/-- A two-byte field of a number. -/
def u16n (n : Nat) : List Byte := u16 (BitVec.ofNat 16 n)

/-- A four-byte field. -/
def u32 (w : Word) : List Byte := [(w >>> 24).setWidth 8, (w >>> 16).setWidth 8, (w >>> 8).setWidth 8, w.setWidth 8]

/-- A four-byte field of a number. -/
def u32n (n : Nat) : List Byte := u32 (BitVec.ofNat 32 n)

/-- A four-byte counter field: past its range (R75, R118) the value is a free value (notes/assumptions/15.md). -/
def counter32 (n : Nat) : List Byte := u32 (if n < 2 ^ 32 then BitVec.ofNat 32 n else Config.countPast32 n)

/-- A two-byte field read most significant byte first. -/
def join16 (hi lo : Byte) : Half := hi ++ lo

/-- A four-byte field read most significant byte first. -/
def join32 (a b c d : Byte) : Word := a ++ b ++ c ++ d

/-- The byte at a position of a payload or an answer; a position beyond the end is never read (R200, R203). -/
def byteAt (p : List Byte) (i : Nat) : Byte := p.getD i 0

/-- The two-byte field at a position. -/
def halfAt (p : List Byte) (i : Nat) : Half := join16 (byteAt p i) (byteAt p (i + 1))

/-- The four-byte field at a position. -/
def wordAt (p : List Byte) (i : Nat) : Word :=
  join32 (byteAt p i) (byteAt p (i + 1)) (byteAt p (i + 2)) (byteAt p (i + 3))

/-- An index field, FFh for none (11.3). -/
def orNone {n : Nat} (x : Option (Fin n)) : List Byte := u8 (x.elim 255 Fin.val)

/-- A flag as a byte of a reply: 01h set, 00h clear (DESIGN CHOICE, notes/assumptions/32.md). -/
def flagByte (b : Bool) : List Byte := u8 b.toNat

/-- Flags packed from bit 0 upwards; the bits that a layout does not name are 0 (DESIGN CHOICE, notes/assumptions/33.md). -/
def packFlags : List Bool → Nat
  | [] => 0
  | b :: bs => b.toNat + 2 * packFlags bs

/-- A flag byte of a request: 00h clear, any other value set (11.3). -/
def isSet (b : Byte) : Bool := decide (b ≠ 0)

/-! ### Spool memory (R72) -/

/-- What a byte of the spool memory that nothing has written reads as (notes/assumptions/9.md). -/
def Memory.unlisted : Byte := 0

/-- Read one byte. -/
def Memory.read : List Host.Cell → Nat → Byte
  | [], _ => Memory.unlisted
  | (b, v) :: m, a => if a = b then v else Memory.read m a

/-- Write one byte, keeping the canonical form. -/
def Memory.write : List Host.Cell → Nat → Byte → List Host.Cell
  | [], a, v => if v = Memory.unlisted then [] else [(a, v)]
  | (b, w) :: m, a, v =>
    if a < b then (if v = Memory.unlisted then (b, w) :: m else (a, v) :: (b, w) :: m)
    else if a = b then (if v = Memory.unlisted then m else (a, v) :: m)
    else (b, w) :: Memory.write m a v

/-- The canonical form: addresses strictly rising, no entry equal to what an unlisted address reads as. -/
def Memory.wf (m : List Host.Cell) : Bool :=
  decide (m.Pairwise fun c d => c.1 < d.1) && m.all fun c => c.2 != Memory.unlisted

/-- The address of a byte of a spool block: 48 bytes to a block (R72). -/
def blockAddress (block offset : Nat) : Nat := 48 * block + offset

/-- The first n bytes of a spool block. -/
def readBlock (m : List Host.Cell) (block n : Nat) : List Byte :=
  (List.range n).map fun k => Memory.read m (blockAddress block k)

/-! ### Changing one record of the state -/

def modNotice (k : Kiosk) (f : NoticeState → NoticeState) (s : State) : State :=
  { s with notices := upd s.notices k f }

def modKiosk (k : Kiosk) (f : KioskLink → KioskLink) (s : State) : State :=
  { s with kiosks := upd s.kiosks k f }

def modLink (l : Link) (f : LinkState → LinkState) (s : State) : State :=
  { s with links := upd s.links l f }

def modFeed (i : Slot) (f : FeedEngine → FeedEngine) (s : State) : State :=
  { s with feeds := upd s.feeds i f }

def modScan (i : Slot) (f : ScanRecord → ScanRecord) (s : State) : State :=
  { s with scans := upd s.scans i f }

def modPanel (i : Slot) (f : PanelEngine → PanelEngine) (s : State) : State :=
  { s with panels := upd s.panels i f }

def modUnit (i : Slot) (f : UnitSlot → UnitSlot) (s : State) : State :=
  { s with units := upd s.units i f }

def modAttn (i : Slot) (f : Attention → Attention) (s : State) : State :=
  { s with attn := upd s.attn i f }

def modQuota (k : Kiosk) (f : KioskSpool → KioskSpool) (s : State) : State :=
  { s with kioskSpool := upd s.kioskSpool k f }

/-! ### Notices (R171) -/

/-- The twelve classes by number (R171). -/
inductive NoticeClass where
  | restarted | claimGranted | claimLost | jobDone | jobFailed | jobHeld | jobResumed
  | scanDone | scanFailed | spoolRoom | zoneChanged | unitChanged
  deriving DecidableEq, Repr

/-- The number of a class (R171). -/
def NoticeClass.number : NoticeClass → Nat
  | .restarted => 0
  | .claimGranted => 1
  | .claimLost => 2
  | .jobDone => 3
  | .jobFailed => 4
  | .jobHeld => 5
  | .jobResumed => 6
  | .scanDone => 7
  | .scanFailed => 8
  | .spoolRoom => 9
  | .zoneChanged => 10
  | .unitChanged => 11

/-- The set that holds one class. -/
def NoticeClass.set (c : NoticeClass) : ClassSet := 1#12 <<< c.number

/-- Latch a class in a kiosk's pending set (R171). -/
def latch (k : Kiosk) (c : NoticeClass) (s : State) : State :=
  modNotice k (fun n => { n with pending := n.pending ||| c.set }) s

/-- Latch a class for a kiosk, if there is one. -/
def latch? (k : Option Kiosk) (c : NoticeClass) (s : State) : State := k.elim s fun k => latch k c s

/-- Latch a class for every kiosk, 0 to 7 (R171). -/
def latchAll (c : NoticeClass) (s : State) : State := forEach (indices 8) (fun k => latch k c) s

/-! ### Touch queues (R191, R192) -/

/-- Put the position, time and EDGE of a MOVE into the last waiting event of its contact (R191). -/
def replaceLast (e : TouchEvent) : List TouchEvent → List TouchEvent
  | [] => []
  | x :: xs =>
    if x.contact = e.contact && !xs.any (fun y => y.contact = e.contact) then
      { x with x := e.x, y := e.y, time := e.time, edge := e.edge } :: xs
    else x :: replaceLast e xs

/-- An arriving MOVE coalesces when the last event of its contact that waits is a MOVE (R191). -/
def coalesces (e : TouchEvent) (q : List TouchEvent) : Bool :=
  match e.phase, (q.filter fun x => x.contact = e.contact).getLast? with
  | .move, some x => decide (x.phase = .move)
  | _, _ => false

/-- An event arrives at a kiosk's touch queue (R191, R192). -/
def enqueueTouch (e : TouchEvent) (k : KioskLink) : KioskLink :=
  if coalesces e k.touch then { k with touch := replaceLast e k.touch }
  else if k.touch.length < 16 then { k with touch := k.touch ++ [e] }
  else if e.phase = .move then { k with gap := true }
  else if k.touch.any (fun x => x.phase = .move) then
    { k with touch := k.touch.eraseP (fun x => x.phase = .move) ++ [e], gap := true }
  else { k with gap := true }

/-- Hand a touch event to the queue of its owner (R45, R191). -/
def deliver (k : Kiosk) (e : TouchEvent) (s : State) : State := modKiosk k (enqueueTouch e) s

/-! ### Lookups -/

/-- The kind a slot is defined with, whatever its state (R136 "defined with kind"). -/
def definedKind (s : State) (i : Slot) : Option UnitKind := s.units[i].definition.map UnitDef.kind

/-- The state of a slot; none is UNDEFINED (R136). -/
def unitState (s : State) (i : Slot) : Option UnitState := s.units[i].definition.map UnitDef.state

/-- Whether a slot is READY. -/
def isReady (s : State) (i : Slot) : Bool := decide (unitState s i = some .ready)

/-- The claim record with an id (R50). -/
def claim? (s : State) (id : Nat) : Option Claim := s.claims.find? fun c => c.id = id

/-- The HELD claim on a resource (R52). -/
def holder? (s : State) (r : Resource) : Option Claim := s.claims.find? fun c => c.resource = r && c.held

/-- The claim a kiosk has on a resource (R50). -/
def claimOf? (s : State) (k : Kiosk) (r : Resource) : Option Claim :=
  s.claims.find? fun c => c.resource = r && c.kiosk = k

/-- The wait queue of a resource, head first (R52). -/
def waitQueue (s : State) (r : Resource) : List Nat :=
  s.waits.filter fun id => (claim? s id).any fun c => c.resource = r

/-- The job record with an id (R75). -/
def job? (s : State) (id : Nat) : Option Job := s.jobs.find? fun j => j.id = id

/-- Change the job record with an id. -/
def modJob (id : Nat) (f : Job → Job) (s : State) : State :=
  { s with jobs := s.jobs.map fun j => if j.id = id then f j else j }

/-- The head job of a printer queue (R80). -/
def headJob? (s : State) (i : Slot) : Option Job := (s.printQueue[i]).head?.bind (job? s)

/-- The place of a member of a queue, counting from 1 at the head. -/
def position? (q : List Nat) (id : Nat) : Option Nat := (q.findIdx? fun x => x = id).map (· + 1)

/-- The frames waiting of a scanner slot in a kiosk's scan frame queue (R120, R193). -/
def framesWaiting (s : State) (k : Kiosk) (i : Slot) : Nat := (s.kiosks[k].scan.filter fun f => f.slot = i).length

/-- The kiosk of a kiosk link; none for S. -/
def kioskOf (l : Link) : Option Kiosk := index? 8 l.val

/-- The service link. -/
def serviceLink : Link := 8

/-! ### Replies (R188) -/

/-- A reply becomes ready: it joins the tail of its link's reply queue, its KIND the request's plus 80h (R201, for a KIND
of 80h and above notes/assumptions/14.md). -/
def queueReply (l : Link) (r : ReqSlot) (payload : List Byte) (s : State) : State :=
  match s.links[l].requests[r] with
  | none => s
  | some q =>
    modLink l (fun k => { k with
      requests := upd k.requests r (fun _ => some { q with ready := true })
      replies := k.replies ++ [{ slot := r, kind := q.kind + 0x80#8, tag := q.tag, payload := payload }] }) s

end Sys2Proof.Machine
end

