-- ==== Sys2Proof/Machine/Flags.lean ====
section
/-!
DEFINITION. The check computations of the links (R183) and of the unit bus (R158), the fault flags of a link (R185), the
cause flags of the unit kinds (11.6), and class sets in requests (R200).
-/

namespace Sys2Proof.Machine

/-- One bit step of a check: shift left, dropping the top bit, and combine with the polynomial when that bit was set
(R158, R183). -/
def crcStep {n : Nat} (poly : BitVec n) (v : BitVec n) : BitVec n := if v.msb then (v <<< 1) ^^^ poly else v <<< 1

/-- k bit steps. -/
def crcSteps {n : Nat} (poly : BitVec n) : Nat → BitVec n → BitVec n
  | 0, v => v
  | k + 1, v => crcSteps poly k (crcStep poly v)

/-- One byte of the unit bus check (R158: polynomial 31h). -/
def crc8Byte (v b : Byte) : Byte := crcSteps 0x31#8 8 (v ^^^ b)

/-- The unit bus check of bytes in wire order (R158: initial value FFh). -/
def crc8 (bytes : List Byte) : Byte := bytes.foldl crc8Byte 0xFF#8

/-- One byte of the link check (R183: polynomial 1021h, combined with the high byte). -/
def crc16Byte (v : Half) (b : Byte) : Half := crcSteps 0x1021#16 8 (v ^^^ (b ++ 0#8))

/-- The link check of bytes in frame order (R183: initial value FFFFh). -/
def crc16 (bytes : List Byte) : Half := bytes.foldl crc16Byte 0xFFFF#16

/-- Set LEN_OVERLONG (R185). -/
def faultOverlong (l : Link) (s : State) : State := modLink l (fun k => { k with lenOverlong := true }) s

/-- Set CHECK (R185). -/
def faultCheck (l : Link) (s : State) : State := modLink l (fun k => { k with check := true }) s

/-- Set DROPPED (R185). -/
def faultDropped (l : Link) (s : State) : State := modLink l (fun k => { k with dropped := true }) s

/-- The three fault flags cleared, as LINK STATUS does (R195). -/
def clearFaults (l : Link) (s : State) : State :=
  modLink l (fun k => { k with lenOverlong := false, check := false, dropped := false }) s

/-- A class set of a request: none when it names a class above 11 (R200). -/
def classes? (h : Half) : Option ClassSet := if h.toNat < 2 ^ 12 then some (h.setWidth 12) else none

/-- A class set in a reply or a notice frame: two bytes, class n in bit n (11.3). -/
def classBytes (c : ClassSet) : List Byte := u16 (c.setWidth 16)

/-- The cause flags of a printer, in the order of their bits (11.6). -/
structure PrinterCauses where
  credit : Bool
  jobEnd : Bool
  jobAborted : Bool
  paperOut : Bool
  jam : Bool
  coverOpen : Bool
  cleared : Bool
  deriving DecidableEq, Repr

def printerCauses (b : Byte) : PrinterCauses :=
  { credit := b.getLsbD 0, jobEnd := b.getLsbD 1, jobAborted := b.getLsbD 2, paperOut := b.getLsbD 3,
    jam := b.getLsbD 4, coverOpen := b.getLsbD 5, cleared := b.getLsbD 6 }

/-- Whether a cause read sets no flag of a printer. -/
def PrinterCauses.noFlag (c : PrinterCauses) : Bool :=
  !(c.credit || c.jobEnd || c.jobAborted || c.paperOut || c.jam || c.coverOpen || c.cleared)

/-- The cause flags of a scanner (11.6): DATA, END, FAULT. -/
structure ScannerCauses where
  data : Bool
  finish : Bool
  fault : Bool
  deriving DecidableEq, Repr

def scannerCauses (b : Byte) : ScannerCauses :=
  { data := b.getLsbD 0, finish := b.getLsbD 1, fault := b.getLsbD 2 }

/-- The cause flags of a panel (11.6): CONTACTS, FAULT. -/
structure PanelCauses where
  contacts : Bool
  fault : Bool
  deriving DecidableEq, Repr

def panelCauses (b : Byte) : PanelCauses := { contacts := b.getLsbD 0, fault := b.getLsbD 1 }

end Sys2Proof.Machine
end

