-- ==== Sys2Proof/Machine/Touch.lean ====
section
/-!
DEFINITION. The Zone Map's lookups (R4 to R7) and the Contact Tracker (chapter 2): coordinate mapping, the dead-band,
muting, and the processing of contact records.
-/

namespace Sys2Proof.Machine

/-! ### Zone Map lookups -/

/-- The owner of a zone, derived from the entry and the claim table (R4). -/
def zoneOwner (s : State) (z : ZoneIx) : Option Kiosk :=
  match s.zones[z] with
  | none => none
  | some e =>
    match e.home with
    | some k => some k
    | none => (holder? s (.zone z)).map Claim.kiosk

/-- Whether an index names a claimable zone: ENABLED or DISABLED, with no home kiosk (R5). -/
def claimableZone (s : State) (z : ZoneIx) : Bool := (s.zones[z]).any fun e => e.home.isNone

/-- Whether a raw point lies in a zone (R6). -/
def Zone.contains (e : Zone) (x y : Nat) : Bool :=
  decide (e.left ≤ x ∧ x < e.left + e.width ∧ e.top ≤ y ∧ y < e.top + e.height)

/-- Point lookup: the lowest-numbered ENABLED entry of the panel that contains the point (R7). -/
def pointLookup (s : State) (panel : Slot) (x y : Nat) : Option ZoneIx :=
  (indices 32).find? fun z => (s.zones[z]).any fun e => e.enabled && decide (e.panel = panel) && e.contains x y

/-! ### Coordinate mapping (R35 to R37) -/

/-- The clamp of one axis: the offset brought into 0 to extent - 1, and whether it changed (R35). -/
def clampAxis (raw origin extent : Nat) : Nat × Bool :=
  if raw < origin then (0, true)
  else if extent ≤ raw - origin then (extent - 1, true)
  else (raw - origin, false)

/-- The rotated offsets and extents u, v, Eu, Ev (R36). -/
def rotate (e : Zone) (dx dy : Nat) : Nat × Nat × Nat × Nat :=
  match e.rotation with
  | 0 => (dx, dy, e.width, e.height)
  | 1 => (dy, e.width - 1 - dx, e.height, e.width)
  | 2 => (e.width - 1 - dx, e.height - 1 - dy, e.width, e.height)
  | 3 => (e.height - 1 - dy, dx, e.height, e.width)

/-- The scale of one axis: the centre of the raw cell, rounded down (R37). -/
def scaleAxis (u logical extent : Nat) : Nat := (2 * u + 1) * logical / (2 * extent)

/-- The four steps offset, clamp, rotate, scale (R35 to R37). -/
def mapPosition (e : Zone) (x y : Nat) : Produced :=
  let cx := clampAxis x e.left e.width
  let cy := clampAxis y e.top e.height
  let r := rotate e cx.1 cy.1
  { x := scaleAxis r.1 e.logicalWidth r.2.2.1
    y := scaleAxis r.2.1 e.logicalHeight r.2.2.2
    edge := cx.2 || cy.2 }

/-- The absolute difference of two positions. -/
def distance (a b : Nat) : Nat := (a - b) + (b - a)

/-- The dead-band test: whether a mapped MOVE is produced (R38). -/
def moveProduced (deadBand : Nat) (last new : Produced) : Bool :=
  (last.edge != new.edge) || decide (deadBand ≤ distance new.x last.x) || decide (deadBand ≤ distance new.y last.y)

/-! ### The contact table -/

/-- Put something into an entry of the contact table. -/
def setContact (n : ContactNo) (c : Option Contact) (s : State) : State :=
  { s with contacts := upd s.contacts n fun _ => c }

/-- The entry of a panel and raw id (R25). -/
def entry? (s : State) (panel : Slot) (id : RawId) : Option ContactNo :=
  (indices 40).find? fun n => (s.contacts[n]).any fun c => decide (c.panel = panel) && decide (c.rawId = id)

/-- The free entry with the lowest number (R23). -/
def freeEntry? (s : State) : Option ContactNo := (indices 40).find? fun n => (s.contacts[n]).isNone

/-- Whether an id is in a panel's ignored set (R24). -/
def isIgnored (s : State) (panel : Slot) (id : RawId) : Bool := decide (id ∈ s.ignored[panel])

/-- An id joins a panel's ignored set, which holds it at most once (R24). -/
def ignore (panel : Slot) (id : RawId) (s : State) : State :=
  { s with ignored := upd s.ignored panel fun l => if id ∈ l then l else l ++ [id] }

/-- An id leaves a panel's ignored set (R24). -/
def unignore (panel : Slot) (id : RawId) (s : State) : State :=
  { s with ignored := upd s.ignored panel fun l => l.filter fun x => x ≠ id }

/-- The touch event of a contact (R45). -/
def touchEvent (n : ContactNo) (c : Contact) (phase : Phase) (p : Produced) (time : Time) : TouchEvent :=
  { contact := n, phase := phase, zone := c.zone, x := p.x, y := p.y, time := time.setWidth 16, edge := p.edge }

/-- Produce an event for a contact, to its owner (R45). -/
def produce (n : ContactNo) (c : Contact) (phase : Phase) (p : Produced) (time : Time) (s : State) : State :=
  match c.owner with
  | none => s
  | some k => deliver k (touchEvent n c phase p time) s

/-- Produce the CANCEL of a contact: its last produced position and EDGE, hub time now (R28, R39). -/
def produceCancel (n : ContactNo) (c : Contact) (s : State) : State :=
  match c.last with
  | none => s
  | some p => produce n c .cancel p s.hubTime s

/-! ### Muting (section 2.6) -/

/-- Make one entry MUTE when it is LIVE and fits, with a CANCEL when one is sent (R41 to R43). -/
def muteEntry (fits : Contact → Bool) (cancel : Bool) (n : ContactNo) (s : State) : State :=
  match s.contacts[n] with
  | none => s
  | some c =>
    if c.live && fits c then
      let s := setContact n (some { c with live := false }) s
      if cancel then produceCancel n c s else s
    else s

/-- Mute every LIVE contact that fits, in ascending contact number (R41 to R43). -/
def muteContacts (fits : Contact → Bool) (cancel : Bool) (s : State) : State :=
  forEach (indices 40) (muteEntry fits cancel) s

/-- Mute the contacts captured in a zone (R41); for CLEAR KIOSK with no CANCEL (R16, R42). -/
def muteZone (z : ZoneIx) (cancel : Bool) (s : State) : State :=
  muteContacts (fun c => decide (c.zone = some z)) cancel s

/-- Mute the contacts of a kiosk at CLEAR KIOSK, with no CANCEL (R42). -/
def muteKiosk (k : Kiosk) (s : State) : State := muteContacts (fun c => decide (c.owner = some k)) false s

/-- Mute the contacts of a panel at its FAULT (R43). -/
def mutePanel (i : Slot) (s : State) : State := muteContacts (fun c => decide (c.panel = i)) true s

/-- Free one entry when it is of the panel, with a CANCEL when it was LIVE (R44). -/
def freeOfPanel (i : Slot) (n : ContactNo) (s : State) : State :=
  match s.contacts[n] with
  | none => s
  | some c =>
    if c.panel = i then
      let s := setContact n none s
      if c.live then produceCancel n c s else s
    else s

/-- A panel is lost or removed: its entries are freed, its ignored set emptied and its panel engine cleared (R44). -/
def panelGone (i : Slot) (s : State) : State :=
  let s := forEach (indices 40) (freeOfPanel i) s
  modPanel i (fun _ => .reset) { s with ignored := upd s.ignored i fun _ => [] }

/-! ### Contact records (section 2.3) -/

/-- A contact record of a CONTACTS answer (11.6). -/
structure ContactRecord where
  phase : Nat
  rawId : Nat
  x : Nat
  y : Nat
  deriving DecidableEq, Repr

/-- The record that starts at a position of the answer (11.6): phase in bits 7 to 5, raw id in bits 4 to 0. -/
def contactRecord (d : List Byte) (at_ : Nat) : ContactRecord :=
  { phase := (byteAt d at_).toNat / 32, rawId := (byteAt d at_).toNat % 32,
    x := (halfAt d (at_ + 1)).toNat, y := (halfAt d (at_ + 3)).toNat }

/-- Capture a new contact at the lowest free entry, or put its id into the ignored set (R29). -/
def captureContact (panel : Slot) (id : RawId) (x y : Nat) (time : Time) (s : State) : State :=
  let s := unignore panel id s
  match freeEntry? s with
  | none => ignore panel id s
  | some n =>
    let zone := pointLookup s panel x y
    let entry : Contact :=
      { panel := panel, rawId := id, zone := zone, owner := none, live := false, last := none }
    match zone, zone.bind (zoneOwner s), zone.bind (fun z => s.zones[z]) with
    | some _, some k, some e =>
      let p := mapPosition e x y
      let c : Contact := { entry with owner := some k, live := true, last := some p }
      produce n c .down p time (setContact n (some c) s)
    | _, _, _ => setContact n (some entry) s

/-- A DOWN: an old contact of the id ends first (R29, R30). -/
def contactDown (panel : Slot) (id : RawId) (x y : Nat) (time : Time) (s : State) : State :=
  match entry? s panel id with
  | none => captureContact panel id x y time s
  | some n =>
    match s.contacts[n] with
    | none => captureContact panel id x y time s
    | some c =>
      let s := setContact n none s
      captureContact panel id x y time (if c.live then produceCancel n c s else s)

/-- A MOVE of a captured contact: mapped and tested when it is LIVE (R31, R38). -/
def contactMoveEntry (n : ContactNo) (c : Contact) (x y : Nat) (time : Time) (s : State) : State :=
  match c.live, c.last, c.zone.bind (fun z => s.zones[z]) with
  | true, some last, some e =>
    let p := mapPosition e x y
    if moveProduced e.deadBand last p then
      produce n c .move p time (setContact n (some { c with last := some p }) s)
    else s
  | _, _, _ => s

/-- A MOVE (R31, R32). -/
def contactMove (panel : Slot) (id : RawId) (x y : Nat) (time : Time) (s : State) : State :=
  match entry? s panel id with
  | none => if isIgnored s panel id then s else captureContact panel id x y time s
  | some n =>
    match s.contacts[n] with
    | none => s
    | some c => contactMoveEntry n c x y time s

/-- An UP (R32, R33). -/
def contactUp (panel : Slot) (id : RawId) (x y : Nat) (time : Time) (s : State) : State :=
  match entry? s panel id with
  | none => unignore panel id s
  | some n =>
    match s.contacts[n] with
    | none => s
    | some c =>
      let s' := setContact n none s
      match c.live, c.zone.bind (fun z => s.zones[z]) with
      | true, some e => produce n c .up (mapPosition e x y) time s'
      | _, _ => s'

/-- Process one record; one with a phase, raw id or coordinate out of range is ignored (R34). -/
def processRecord (panel : Slot) (time : Time) (r : ContactRecord) (s : State) : State :=
  match index? 16 r.rawId with
  | none => s
  | some id =>
    if 4095 < r.x ∨ 4095 < r.y then s
    else match r.phase with
      | 1 => contactDown panel id r.x r.y time s
      | 2 => contactMove panel id r.x r.y time s
      | 3 => contactUp panel id r.x r.y time s
      | _ => s

/-- The records of an answer that passes its own count (R27). -/
def contactRecords (d : List Byte) : List ContactRecord :=
  (List.range ((byteAt d 0).toNat % 128)).map fun k => contactRecord d (1 + 5 * k)

/-- Whether a CONTACTS answer holds 1 + 5n bytes with n at most 9 (R27). -/
def contactsFit (d : List Byte) : Bool :=
  decide ((byteAt d 0).toNat % 128 ≤ 9 ∧ d.length = 1 + 5 * ((byteAt d 0).toNat % 128))

/-- Act on the data of a CONTACTS read that completed OK (R27). While no read is wanted the read capture time is none
(notes/assumptions/30.md). -/
def processContacts (panel : Slot) (d : List Byte) (s : State) : State :=
  let time := (s.panels[panel].readCapture).getD 0
  let s := modPanel panel (fun e => { e with readWanted := false, readCapture := none }) s
  if contactsFit d then
    let s := forEach (contactRecords d) (processRecord panel time) s
    if 128 ≤ (byteAt d 0).toNat then
      modPanel panel (fun e => { e with readWanted := true, readCapture := some time }) s
    else s
  else s

end Sys2Proof.Machine
end

