-- ==== Sys2Proof/Machine/Spool.lean ====
section
/-!
DEFINITION. The Spooler (chapter 4): blocks and held counts, job endings, the any-printer choice, acceptance of data,
cancelling and stalls, and the reports of the Feed Engines (R90).
-/

namespace Sys2Proof.Machine

/-- The ids 1 to last in turn from a counter: the first that no record has (R51, R78). The fuel is the number of records
plus one. -/
def freshId (used : Nat → Bool) (last : Nat) : Nat → Nat → Nat
  | 0, v => v
  | k + 1, v => if used v then freshId used last k (if v = last then 1 else v + 1) else v

/-- The id after one, round the end (R51, R78). -/
def nextId (last v : Nat) : Nat := if v = last then 1 else v + 1

/-- Whether a job is terminal (R76). -/
def JobState.isTerminal : JobState → Bool
  | .done => true
  | .failed => true
  | .cancelled => true
  | _ => false

/-- The job's unfed spooled bytes (R75). -/
def Job.unfed (j : Job) : Nat := j.spooled - j.fed

/-- The job's full blocks: all its blocks when the fill of the last is 48, all but the last otherwise (R102). -/
def Job.fullBlocks (j : Job) : Nat := if j.fill = 48 then j.chain.length else j.chain.length - 1

/-- The want-room test of one kiosk (R74). -/
def wantRoomTest (k : Kiosk) (s : State) : State :=
  let q := s.kioskSpool[k]
  if q.wantRoom && decide (q.held < q.quota) then
    latch k .spoolRoom (modQuota k (fun q => { q with wantRoom := false }) s)
  else s

/-- Free blocks of a kiosk's job: they join the tail of the free list in chain order, the held count falls, and the
want-room test follows, as R77 step 3 says at the ending of a job whose chain is empty too (R72, R73, R74;
notes/assumptions/13.md). -/
def freeBlocks (k : Kiosk) (blocks : List Nat) (s : State) : State :=
  forEach (indices 8) wantRoomTest
    (modQuota k (fun q => { q with held := q.held - blocks.length }) { s with free := s.free ++ blocks })

/-- A job becomes terminal (R77). The end cause goes back to none, as R75 says it is set while the job is CANCELLING
(notes/assumptions/27.md). The counts of bytes spooled and bytes fed stay as they stand, so that their difference is no longer
the bytes in the freed chain (DEDUCED, notes/assumptions/31.md). -/
def endJob (id : Nat) (state : JobState) (pages : Option Half) (cause : Option JobCause) (s : State) : State :=
  match job? s id with
  | none => s
  | some j =>
    let s := modJob id (fun j => { j with
      state := state, isOpen := false, chain := [], fill := 0, stallEnd := false, pages := pages, cause := cause }) s
    let s := { s with printQueue := upd s.printQueue j.slot fun q => q.filter fun x => x ≠ id }
    let s := freeBlocks j.kiosk j.chain s
    let s := { s with terminal := s.terminal ++ [id] }
    match state with
    | .done => latch j.kiosk .jobDone s
    | .failed => latch j.kiosk .jobFailed s
    | _ => s

/-- A job FAILED with a cause (R77). -/
def failJob (id : Nat) (cause : JobCause) (s : State) : State := endJob id .failed none (some cause) s

/-- A CANCELLING job ends by its end cause (R87). -/
def endCancelling (j : Job) (s : State) : State :=
  if j.stallEnd then failJob j.id .fillStall s else endJob j.id .cancelled none none s

/-! ### The any-printer choice (R81) -/

/-- The sum of the unfed spooled bytes of every job in a queue (R81). -/
def queueLoad (s : State) (i : Slot) : Nat := ((s.printQueue[i]).map fun id => ((job? s id).map Job.unfed).getD 0).sum

/-- Whether a slot is a candidate of the any-printer choice (R81). -/
def printerCandidate (s : State) (excluded : Option Slot) (i : Slot) : Bool :=
  decide (definedKind s i = some .printer) && isReady s i && decide ((s.printQueue[i]).length < 8) &&
    decide (excluded ≠ some i)

/-- The first of a list of slots with the smallest load. -/
def leastLoaded (load : Slot → Nat) : List Slot → Option Slot
  | [] => none
  | i :: is =>
    match leastLoaded load is with
    | none => some i
    | some j => if load i ≤ load j then some i else some j

/-- The any-printer choice: the candidate with the smallest sum, the lowest slot on a tie (R81). -/
def anyPrinter (s : State) (excluded : Option Slot) : Option Slot :=
  leastLoaded (queueLoad s) ((indices 12).filter (printerCandidate s excluded))

/-! ### Acceptance of data (R83) -/

/-- The accepted count of a PRINT DATA of n bytes (R83). -/
def acceptedCount (s : State) (j : Job) (n : Nat) : Nat :=
  let f := if j.chain.isEmpty then 0 else 48 - j.fill
  let a := min s.free.length ((s.kioskSpool[j.kiosk]).quota - (s.kioskSpool[j.kiosk]).held)
  min n (f + 48 * a)

/-- What PRINT DATA writes: the spool memory, the free list, the chain and the fill of its last block. -/
structure Writing where
  spool : List Host.Cell
  free : List Nat
  chain : List Nat
  fill : Nat
  deriving DecidableEq, Repr

/-- Write one accepted byte: into the last block while it has room, else into a new block from the head of the free list
(R83). -/
def writeByte (w : Writing) (b : Byte) : Writing :=
  match w.chain.getLast?, decide (w.fill < 48) with
  | some last, true =>
    { w with spool := Memory.write w.spool (blockAddress last w.fill) b, fill := w.fill + 1 }
  | _, _ =>
    match w.free with
    | [] => w
    | block :: rest =>
      { spool := Memory.write w.spool (blockAddress block 0) b, free := rest, chain := w.chain ++ [block], fill := 1 }

/-- Write the accepted bytes of a job (R83). -/
def writeBytes (s : State) (j : Job) (bytes : List Byte) : Writing :=
  bytes.foldl writeByte { spool := s.spool, free := s.free, chain := j.chain, fill := j.fill }

/-- Accept bytes into an open job: chain, fill, bytes spooled, held count and last-data time (R83). -/
def acceptData (j : Job) (bytes : List Byte) (s : State) : State :=
  let w := writeBytes s j bytes
  let taken := w.chain.length - j.chain.length
  let s := { s with spool := w.spool, free := w.free }
  let s := modQuota j.kiosk (fun q => { q with held := q.held + taken }) s
  modJob j.id (fun j => { j with
    chain := w.chain, fill := w.fill, spooled := j.spooled + bytes.length, lastData := s.hubTime }) s

/-! ### Reports of the Feed Engines (R90) -/

/-- "feeding started" (R90). -/
def reportStarted (i : Slot) (s : State) : State :=
  match headJob? s i with
  | none => s
  | some j =>
    match j.state with
    | .filling => modJob j.id (fun j => { j with state := .feeding }) s
    | .queued => modJob j.id (fun j => { j with state := .feeding }) s
    | _ => s

/-- "block fed" (R90). -/
def reportFed (i : Slot) (s : State) : State :=
  match headJob? s i with
  | none => s
  | some j =>
    match j.state, j.chain with
    | .feeding, block :: rest =>
      let held := if rest.isEmpty then j.fill else 48
      let s := modJob j.id (fun j => { j with
        chain := rest, fed := j.fed + held, fill := if rest.isEmpty then 0 else j.fill }) s
      freeBlocks j.kiosk [block] s
    | _, _ => s

/-- "end mark completed" (R90). -/
def reportEndMark (i : Slot) (s : State) : State :=
  match headJob? s i with
  | none => s
  | some j =>
    if j.state = .feeding && !j.isOpen && j.chain.isEmpty then modJob j.id (fun j => { j with state := .draining }) s
    else s

/-- "printer reported job end, with pages" (R90). -/
def reportJobEnd (i : Slot) (pages : Half) (s : State) : State :=
  match headJob? s i with
  | none => s
  | some j => if j.state = .draining then endJob j.id .done (some pages) none s else s

/-- "printer reported job aborted" (R90). -/
def reportAborted (i : Slot) (s : State) : State :=
  match headJob? s i with
  | none => s
  | some j =>
    match j.state with
    | .feeding => failJob j.id .printerAbort s
    | .draining => failJob j.id .printerAbort s
    | _ => s

/-- "abort ended" (R90, R87). -/
def reportAbortEnded (i : Slot) (s : State) : State :=
  match headJob? s i with
  | none => s
  | some j => if j.state = .cancelling then endCancelling j s else s

/-- "printer lost" or "printer removed" about the head job (R90). -/
def reportGone (i : Slot) (cause : JobCause) (s : State) : State :=
  match headJob? s i with
  | none => s
  | some j =>
    match j.state with
    | .feeding => failJob j.id cause s
    | .draining => failJob j.id cause s
    | .cancelling => endCancelling j s
    | _ => s

/-- "printer removed" about a job left in the queue (R90). -/
def reportLeft (id : Nat) (s : State) : State :=
  match job? s id with
  | none => s
  | some j =>
    match j.state with
    | .filling => failJob id .unitRemoved s
    | .queued => failJob id .unitRemoved s
    | _ => s

/-- "job moved to another printer" (R90). -/
def moveJob (id : Nat) (from_ to_ : Slot) (s : State) : State :=
  let s := { s with printQueue := upd s.printQueue from_ fun q => q.filter fun x => x ≠ id }
  let s := { s with printQueue := upd s.printQueue to_ fun q => q ++ [id] }
  modJob id (fun j => { j with slot := to_ }) s

/-- Move one ANY job of a lost or removed printer, when the choice gives a printer (R114 stage 2). -/
def moveAnyJob (i : Slot) (id : Nat) (s : State) : State :=
  match job? s id with
  | none => s
  | some j =>
    if j.anyTarget && (decide (j.state = .filling) || decide (j.state = .queued)) then
      match anyPrinter s (some i) with
      | none => s
      | some k => moveJob id i k s
    else s

/-! ### Cancelling and stalling -/

/-- Whether a job is known to its printer and not yet CANCELLING: FEEDING or DRAINING. -/
def Job.onPrinter (j : Job) : Bool := decide (j.state = .feeding) || decide (j.state = .draining)

/-- A FEEDING or DRAINING job becomes CANCELLING, and its Feed Engine moves to ABORT_MARK (R87, R88, R109). -/
def startCancelling (j : Job) (stall : Bool) (s : State) : State :=
  let s := modJob j.id (fun j => { j with state := .cancelling, isOpen := false, stallEnd := stall }) s
  modFeed j.slot (fun e => { e with step := .abortMark, job := some j.id, markHeld := false, pagesWanted := false }) s

/-- Cancel a job in its state, as PRINT CANCEL and CLEAR KIOSK do (R86, R87, R95). -/
def cancelJob (j : Job) (s : State) : State :=
  match j.state with
  | .filling => endJob j.id .cancelled none none s
  | .queued => endJob j.id .cancelled none none s
  | .feeding => startCancelling j false s
  | .draining => startCancelling j false s
  | _ => s

/-- The fill-stall timer's expiry time of a job (R88). -/
def stallTime (s : State) (j : Job) : Time := after j.lastData s.fillLimit

/-- An open job stalls (R88). -/
def stallJob (j : Job) (s : State) : State :=
  match j.state with
  | .filling => failJob j.id .fillStall s
  | .feeding => startCancelling j true s
  | _ => s

/-- Insert a job record in ascending job id. -/
def insertJob (j : Job) : List Job → List Job
  | [] => [j]
  | x :: xs => if j.id < x.id then j :: x :: xs else x :: insertJob j xs

/-- Remove a terminal record from the job table and the terminal list (R79, R91). -/
def removeRecord (id : Nat) (s : State) : State :=
  { s with jobs := s.jobs.filter (fun j => j.id ≠ id), terminal := s.terminal.filter fun x => x ≠ id }

/-- Reclaim the record at the head of the terminal list when the table holds 24 records (R79, R82). -/
def reclaim (s : State) : State :=
  if s.jobs.length < 24 then s
  else match s.terminal with
    | [] => s
    | id :: _ => removeRecord id s

/-- Create a FILLING job at the tail of a printer's queue (R82); answers its id. -/
def createJob (k : Kiosk) (any : Bool) (i : Slot) (s : State) : Nat × State :=
  let s := reclaim s
  let id := freshId (fun v => s.jobs.any fun j => j.id = v) 65535 (s.jobs.length + 1) s.nextJob
  let j : Job :=
    { id := id, kiosk := k, anyTarget := any, slot := i, state := .filling, isOpen := true, chain := [], spooled := 0,
      fed := 0, fill := 0, lastData := s.hubTime, stallEnd := false, pages := none, cause := none }
  (id, { s with
    jobs := insertJob j s.jobs
    nextJob := nextId 65535 id
    printQueue := upd s.printQueue i fun q => q ++ [id] })

end Sys2Proof.Machine
end

