-- ==== Sys2Proof/Machine/Feed.lean ====
section
/-!
DEFINITION. The Feed Engines (chapter 5): the choice of work (R100), the start condition (R102), what an engine does
with the outcome of each transaction, the printer's causes (R111 to R113), and loss and removal (R114, R115).
-/

namespace Sys2Proof.Machine

/-! ### Choosing work -/

/-- A block is feedable: the first of the chain, full or the last of a closed job (R104). The step is tested by the
work table. -/
def Job.feedable (j : Job) : Bool :=
  match j.chain with
  | [] => false
  | [_] => decide (j.fill = 48) || !j.isOpen
  | _ :: _ :: _ => true

/-- The start condition of the head job (R102); READY is tested where work is chosen. -/
def startCondition (e : FeedEngine) (j : Job) : Bool :=
  (decide (j.state = .filling) || decide (j.state = .queued)) && (!j.isOpen || decide (8 ≤ j.fullBlocks)) &&
    !e.paused && !e.markHeld

/-- The work table of a Feed Engine against the head job of its queue: the first line that applies (R100). -/
def feedWork (e : FeedEngine) (head : Option Job) : Option TxnName :=
  let feedable := head.any Job.feedable
  if e.step = .abortMark then some .markAbort
  else if e.step = .endWait && e.pagesWanted then some .pstate
  else if e.step = .stream && e.creditWanted && feedable then some .credit
  else if e.step = .none && head.any (startCondition e) then some .markStart
  else if e.step = .startMark && !e.paused && !e.markHeld then some .markStart
  else if e.step = .stream && !e.paused && e.creditKnown && decide (0 < e.credit) && feedable then some .feed
  else if e.step = .stream && !e.paused && head.any (fun j => !j.isOpen && j.chain.isEmpty) then some .markEnd
  else if e.step = .endMark && !e.paused && !e.markHeld then some .markEnd
  else none

/-- The bytes of the first block of a job: 48 for a full block, the fill for the last of a closed job (R100). -/
def feedBytes (s : State) (j : Job) : List Byte :=
  match j.chain with
  | [] => []
  | [b] => readBlock s.spool b j.fill
  | b :: _ :: _ => readBlock s.spool b 48

/-- What the engine's own state becomes when a transaction is posted (R100, R102, R106). -/
def feedPosted (w : TxnName) (head : Option Job) (e : FeedEngine) : FeedEngine :=
  match w with
  | .markStart =>
    { e with outstanding := some w, step := .startMark, job := if e.step = .none then head.map Job.id else e.job }
  | .markEnd => { e with outstanding := some w, step := .endMark }
  | _ => { e with outstanding := some w }

/-! ### Outcomes -/

/-- The credit one lower, when it is known (R101, R105). -/
def FeedEngine.spend (e : FeedEngine) : FeedEngine := if e.creditKnown then { e with credit := e.credit - 1 } else e

/-- Credit becomes unknown and 0 (R103). -/
def FeedEngine.forget (e : FeedEngine) : FeedEngine := { e with credit := 0, creditKnown := false }

/-- The engine's outstanding transaction has ended (R101). -/
def feedEnded (i : Slot) (s : State) : State := modFeed i (fun e => { e with outstanding := none }) s

/-- MARK START completed (R102). -/
def actMarkStart (i : Slot) (o : BusOutcome) (s : State) : State :=
  if (s.feeds[i]).step = .startMark then
    match o with
    | .ok => modFeed i (fun e => { e with step := .stream, creditWanted := e.creditWanted || !e.creditKnown }) s
    | .refused => modFeed i (fun e => { e with markHeld := true }) s
    | _ => s
  else s

/-- CREDIT read completed (R103). -/
def actCredit (i : Slot) (o : BusOutcome) (d : List Byte) (s : State) : State :=
  if (s.feeds[i]).step = .stream && decide (o = .ok) then
    modFeed i (fun e => { e with credit := (byteAt d 0).toNat, creditKnown := true, creditWanted := false }) s
  else s

/-- FEED completed (R105; in ABORT_MARK R101). -/
def actFeed (i : Slot) (o : BusOutcome) (s : State) : State :=
  match (s.feeds[i]).step, o with
  | .stream, .ok =>
    modFeed i (fun e => let e := e.spend; { e with creditWanted := e.creditWanted || decide (e.credit = 0) })
      (reportFed i s)
  | .stream, .refused => modFeed i (fun e => { e with credit := 0, creditKnown := true, creditWanted := true }) s
  | .abortMark, .ok => modFeed i FeedEngine.spend s
  | _, _ => s

/-- MARK END completed (R106). -/
def actMarkEnd (i : Slot) (o : BusOutcome) (s : State) : State :=
  if (s.feeds[i]).step = .endMark then
    match o with
    | .ok => modFeed i (fun e => { e with step := .endWait, pagesWanted := false }) (reportEndMark i s)
    | .refused => modFeed i (fun e => { e with markHeld := true }) s
    | _ => s
  else s

/-- PSTATE read completed (R107): the page count is at bytes 1 and 2 (R203). -/
def actPstate (i : Slot) (o : BusOutcome) (d : List Byte) (s : State) : State :=
  if (s.feeds[i]).step = .endWait && (s.feeds[i]).pagesWanted && decide (o = .ok) && decide (4 ≤ d.length) then
    modFeed i (fun e => { e with step := .none, job := none, pagesWanted := false }) (reportJobEnd i (halfAt d 1) s)
  else s

/-- MARK ABORT completed, whatever its outcome (R109). -/
def actMarkAbort (i : Slot) (s : State) : State :=
  if (s.feeds[i]).step = .abortMark then
    modFeed i (fun e => { e.forget with step := .none, job := none }) (reportAbortEnded i s)
  else s

/-- A Feed Engine acts on the outcome of its transaction (R101). -/
def feedAct (i : Slot) (w : TxnName) (o : BusOutcome) (d : List Byte) (s : State) : State :=
  let s := feedEnded i s
  match w with
  | .markStart => actMarkStart i o s
  | .credit => actCredit i o d s
  | .feed => actFeed i o s
  | .markEnd => actMarkEnd i o s
  | .pstate => actPstate i o d s
  | .markAbort => actMarkAbort i s
  | _ => s

/-! ### Printer causes -/

/-- Whether the engine is in one of the four steps in which a pause concerns its job (R112, R113). -/
def FeedStep.concerned : FeedStep → Bool
  | .startMark => true
  | .stream => true
  | .endMark => true
  | .endWait => true
  | _ => false

/-- The kiosk of the engine's job. -/
def feedKiosk (s : State) (i : Slot) : Option Kiosk := ((s.feeds[i]).job.bind (job? s)).map Job.kiosk

/-- JOB_ABORTED (R108). -/
def causeAborted (i : Slot) (s : State) : State :=
  if (s.feeds[i]).step.concerned then
    modFeed i (fun e => { e.forget with step := .none, job := none, markHeld := false, pagesWanted := false })
      (reportAborted i s)
  else s

/-- JOB_END (R107). -/
def causeJobEnd (i : Slot) (s : State) : State :=
  match (s.feeds[i]).step with
  | .endWait => modFeed i (fun e => { e with pagesWanted := true }) s
  | .endMark =>
    modFeed i (fun e => { e with step := .endWait, pagesWanted := true, markHeld := false }) (reportEndMark i s)
  | _ => s

/-- The last pause condition of a report, in the order PAPER_OUT, JAM, COVER_OPEN (R112). -/
def reportedPause (c : PrinterCauses) : Option PauseCause :=
  if c.coverOpen then some .coverOpen else if c.jam then some .jam else if c.paperOut then some .paperOut else none

/-- PAPER_OUT, JAM, COVER_OPEN (R112). -/
def causePause (i : Slot) (c : PrinterCauses) (s : State) : State :=
  match reportedPause c with
  | none => s
  | some p =>
    let changed := decide ((s.feeds[i]).pauseCause ≠ some p)
    let s' := modFeed i (fun e => { e with paused := true, pauseCause := some p }) s
    if changed && (s.feeds[i]).step.concerned then latch? (feedKiosk s i) .jobHeld s' else s'

/-- CLEARED (R113). -/
def causeCleared (i : Slot) (s : State) : State :=
  if (s.feeds[i]).paused then
    let s' := modFeed i (fun e => { e.forget with paused := false, pauseCause := none, creditWanted := true }) s
    if (s.feeds[i]).step.concerned then latch? (feedKiosk s i) .jobResumed s' else s'
  else s

/-- A printer's cause flags: mark held is cleared, since the printer has reported, then the flags are treated in their order;
a bit that names no flag of a printer is ignored (R111, R203). A byte with no flag set changes nothing, mark held included
(R148; notes/assumptions/26.md). -/
def printerCause (i : Slot) (b : Byte) (s : State) : State :=
  let c := printerCauses b
  let s := modFeed i (fun e => { e with
    markHeld := e.markHeld && c.noFlag, creditWanted := e.creditWanted || c.credit }) s
  let s := if c.jobAborted then causeAborted i s else s
  let s := if c.jobEnd then causeJobEnd i s else s
  let s := causePause i c s
  if c.cleared then causeCleared i s else s

/-! ### Loss and removal -/

/-- The head job is ended by its state and the ANY jobs are moved; the engine takes its reset values (R114). -/
def printerGone (i : Slot) (cause : JobCause) (s : State) : State :=
  let s := reportGone i cause s
  let s := forEach (s.printQueue[i]) (moveAnyJob i) s
  modFeed i (fun _ => .reset) s

/-- The printer slot is LOST (R114). -/
def printerLost (i : Slot) (s : State) : State := printerGone i .unitLost s

/-- The printer slot is removed (R115). -/
def printerRemoved (i : Slot) (s : State) : State :=
  let s := printerGone i .unitRemoved s
  forEach (s.printQueue[i]) reportLeft s

end Sys2Proof.Machine
end

