-- ==== Sys2Proof/Machine/Scan.lean ====
section
/-!
DEFINITION. The Scan Engines (chapter 6): the work table (R123), what an engine does with the outcome of each
transaction, the scanner's causes (R125), halts (R129, R130), and loss and removal (R132).
-/

namespace Sys2Proof.Machine

/-- PREPARING, RUNNING or ENDING. -/
def ScanState.active : ScanState → Bool
  | .preparing => true
  | .running => true
  | .ending => true
  | _ => false

/-- RUNNING or ENDING. -/
def ScanState.pulling : ScanState → Bool
  | .running => true
  | .ending => true
  | _ => false

/-- The work table of a Scan Engine: the first line that applies (R123). -/
def scanWork (r : ScanRecord) : Option TxnName :=
  if r.state = .halting && r.haltOwed then some .shalt
  else if r.state = .preparing && decide (r.setup = some .sset) then some .sset
  else if r.state = .preparing && decide (r.setup = some .sgo) then some .sgo
  else if r.state = .running && r.stateWanted then some .sstate
  else if r.state.pulling && r.availWanted then some .avail
  else if r.state.pulling && decide (0 < r.available) && decide (0 < r.credit) then some .pull
  else none

/-- What the record becomes when a transaction is posted (R123). -/
def scanPosted (w : TxnName) (r : ScanRecord) : ScanRecord :=
  match w with
  | .shalt => { r with outstanding := some w, haltOwed := false }
  | _ => { r with outstanding := some w }

/-- The code of a scan mode (11.3). -/
def ScanMode.code : ScanMode → Nat
  | .gray8 => 1
  | .colour24 => 2
  | .line1 => 3

/-- The ten bytes of SSET: the clamped settings (R203, 11.6). -/
def ssetBytes (r : ScanRecord) : List Byte :=
  u16n r.x ++ u16n r.y ++ u16n r.w ++ u16n r.h ++ u8 r.resolution ++ u8 r.mode.code

/-! ### Frames in the queue -/

/-- Discard the frames waiting of a slot from a kiosk's scan frame queue (R129, R132, R193). -/
def discardFrames (k : Option Kiosk) (i : Slot) (s : State) : State :=
  k.elim s fun k => modKiosk k (fun q => { q with scan := q.scan.filter fun f => f.slot ≠ i }) s

/-! ### Halts -/

/-- A scan is halted with an outcome (R125, R129, R130). -/
def haltScan (i : Slot) (o : ScanOutcome) (s : State) : State :=
  modScan i (fun r => { r with state := .halting, haltOutcome := some o, haltOwed := true }) s

/-- The halt ends: the SHALT completed, whatever its outcome (R129). -/
def endHalt (i : Slot) (s : State) : State :=
  let r := s.scans[i]
  let s := discardFrames r.kiosk i s
  modScan i (fun r => { r with
    state := .idle, lastOutcome := r.haltOutcome.getD .none, haltOutcome := none, ownerClaim := none, kiosk := none,
    credit := 0, available := 0, availWanted := false, stateWanted := false }) s

/-- The owner claim of a scan ends, by release or by lapse (R130). -/
def scanClaimEnd (i : Slot) (lapse : Bool) (s : State) : State :=
  let r := s.scans[i]
  let s := modScan i (fun r => { r with ownerClaim := none }) s
  if r.state.active then
    if lapse then latch? r.kiosk .scanFailed (haltScan i .lapsed s) else haltScan i .cancelled s
  else if lapse && decide (r.state = .halting) && decide (r.haltOutcome = some .cancelled) then
    latch? r.kiosk .scanFailed (modScan i (fun r => { r with haltOutcome := some .lapsed }) s)
  else s

/-! ### Outcomes -/

/-- The engine's outstanding transaction has ended (R124). -/
def scanEnded (i : Slot) (s : State) : State := modScan i (fun r => { r with outstanding := none }) s

/-- The scan fails in setup (R122). -/
def setupFailed (i : Slot) (s : State) : State :=
  latch? (s.scans[i]).kiosk .scanFailed
    (modScan i (fun r => { r with
      state := .idle, lastOutcome := .unitFault, ownerClaim := none, kiosk := none, credit := 0, setup := none }) s)

/-- SSET completed (R122). -/
def actSset (i : Slot) (o : BusOutcome) (s : State) : State :=
  if (s.scans[i]).state = .preparing && decide ((s.scans[i]).setup = some .sset) then
    if o = .ok then modScan i (fun r => { r with setup := some .sgo }) s else setupFailed i s
  else s

/-- SGO completed (R122). -/
def actSgo (i : Slot) (o : BusOutcome) (s : State) : State :=
  if (s.scans[i]).state = .preparing && decide ((s.scans[i]).setup = some .sgo) then
    if o = .ok then modScan i (fun r => { r with setup := none, state := .running }) s else setupFailed i s
  else s

/-- The scan is done (R127). -/
def scanDone (i : Slot) (s : State) : State :=
  latch? (s.scans[i]).kiosk .scanDone
    (modScan i (fun r => { r with
      state := .idle, lastOutcome := .done, ownerClaim := none, kiosk := none, credit := 0 }) s)

/-- AVAIL read completed (R126, R127). -/
def actAvail (i : Slot) (o : BusOutcome) (d : List Byte) (s : State) : State :=
  if (s.scans[i]).state.pulling && decide (o = .ok) then
    let n := (byteAt d 0).toNat
    let s' := modScan i (fun r => { r with available := n, availWanted := false }) s
    if (s.scans[i]).state = .ending && decide (n = 0) then scanDone i s' else s'
  else s

/-- PULL completed (R126). -/
def actPull (i : Slot) (o : BusOutcome) (d : List Byte) (s : State) : State :=
  let r := s.scans[i]
  if r.state.pulling then
    match o with
    | .ok =>
      let s := r.kiosk.elim s fun k =>
        modKiosk k (fun q => { q with scan := q.scan ++ [{ slot := i, seq := r.nextSeq, data := d }] }) s
      modScan i (fun r => { r with
        credit := r.credit - 1, available := r.available - 1, nextSeq := r.nextSeq + 1, delivered := r.delivered + 1,
        availWanted := r.availWanted || (decide (r.state = .ending) && decide (r.available - 1 = 0)) }) s
    | .refused =>
      modScan i (fun r => { r with available := 0, availWanted := r.availWanted || decide (r.state = .ending) }) s
    | _ => s
  else s

/-- SSTATE read completed (R127): the total is at bytes 1 and 2 (R203). -/
def actSstate (i : Slot) (o : BusOutcome) (d : List Byte) (s : State) : State :=
  if (s.scans[i]).state = .running && decide (o = .ok) && decide (3 ≤ d.length) then
    modScan i (fun r => { r with total := some (halfAt d 1), stateWanted := false, state := .ending, availWanted := true }) s
  else s

/-- SHALT completed, whatever its outcome (R129). -/
def actShalt (i : Slot) (s : State) : State := if (s.scans[i]).state = .halting then endHalt i s else s

/-- A Scan Engine acts on the outcome of its transaction (R124). -/
def scanAct (i : Slot) (w : TxnName) (o : BusOutcome) (d : List Byte) (s : State) : State :=
  let s := scanEnded i s
  match w with
  | .sset => actSset i o s
  | .sgo => actSgo i o s
  | .avail => actAvail i o d s
  | .pull => actPull i o d s
  | .sstate => actSstate i o d s
  | .shalt => actShalt i s
  | _ => s

/-! ### Scanner causes -/

/-- A scanner's cause flags in the order FAULT, DATA, END (R125). -/
def scannerCause (i : Slot) (b : Byte) (s : State) : State :=
  let c := scannerCauses b
  let s :=
    if c.fault && (s.scans[i]).state.active then latch? (s.scans[i]).kiosk .scanFailed (haltScan i .unitFault s) else s
  let s :=
    if c.data && (s.scans[i]).state.active then modScan i (fun r => { r with availWanted := true }) s else s
  if c.finish && (decide ((s.scans[i]).state = .preparing) || decide ((s.scans[i]).state = .running)) then
    modScan i (fun r => { r with stateWanted := true }) s
  else s

/-! ### Loss and removal -/

/-- The record after its slot is lost or removed while a scan was on (R132). -/
def ScanRecord.cleared (r : ScanRecord) (o : ScanOutcome) : ScanRecord :=
  { r with
    state := .idle, lastOutcome := o, ownerClaim := none, kiosk := none, haltOutcome := none, haltOwed := false,
    setup := none, availWanted := false, stateWanted := false, credit := 0, available := 0, outstanding := none }

/-- The scanner slot is LOST or removed (R132). -/
def scannerGone (i : Slot) (s : State) : State :=
  let r := s.scans[i]
  if r.state.active then
    latch? r.kiosk .scanFailed (modScan i (fun r => r.cleared .unitLost) (discardFrames r.kiosk i s))
  else if r.state = .halting then
    modScan i (fun r => r.cleared (r.haltOutcome.getD .none)) (discardFrames r.kiosk i s)
  else scanEnded i s

end Sys2Proof.Machine
end

