-- ==== Sys2Proof/Machine/Claims.lean ====
section
/-!
DEFINITION. The Claim Manager's operations (chapter 3): existence of a resource, creating a claim, removing one with its
release effects (R60), granting the head waiter (R61), resource removal (R68), and the claim part of CLEAR KIOSK (R70);
and the Zone Map's changes that remove claims (R12, R13, R17, R18).
-/

namespace Sys2Proof.Machine

/-- The resource a kind byte and a number name, when the kind is known: none inside for a number that names nothing
(R49, R54). -/
def resource? (kind number : Byte) : Option (Option Resource) :=
  if kind = 1 then some ((index? 12 number.toNat).map .scanner)
  else if kind = 2 then some ((index? 32 number.toNat).map .zone)
  else none

/-- Whether a resource exists (R49). -/
def resourceExists (s : State) : Resource → Bool
  | .scanner i => decide (definedKind s i = some .scanner)
  | .zone z => claimableZone s z

/-- Why a HELD claim is removed (R60). -/
inductive Removal where
  | release
  | clearKiosk
  | lapse
  | resourceGone
  deriving DecidableEq, Repr

/-- The Zone Map is told that a HELD claim on a zone began or ended (R15, R16). -/
def ownerChange (r : Resource) (cancel : Bool) (s : State) : State :=
  match r with
  | .zone z => muteZone z cancel s
  | .scanner _ => s

/-- Insert a claim record in ascending claim id (R50). -/
def insertClaim (c : Claim) : List Claim → List Claim
  | [] => [c]
  | x :: xs => if c.id < x.id then c :: x :: xs else x :: insertClaim c xs

/-- Take a claim out of the table and out of its queue. -/
def dropClaim (id : Nat) (s : State) : State :=
  { s with claims := s.claims.filter (fun c => c.id ≠ id), waits := s.waits.filter fun x => x ≠ id }

/-- Change the claim record with an id. -/
def modClaim (id : Nat) (f : Claim → Claim) (s : State) : State :=
  { s with claims := s.claims.map fun c => if c.id = id then f c else c }

/-- The head waiter, if there is one, is granted the resource (R61). -/
def grantHead (r : Resource) (s : State) : State :=
  match waitQueue s r with
  | [] => s
  | id :: _ =>
    match claim? s id with
    | none => s
    | some c =>
      let s := modClaim id (fun c => { c with held := true, expiry := after s.hubTime c.lease }) s
      let s := { s with waits := s.waits.filter fun x => x ≠ id }
      ownerChange r true (latch c.kiosk .claimGranted s)

/-- The Scan Engine is told of the end of its owner claim (R60 stage 2). -/
def tellScan (c : Claim) (lapse : Bool) (s : State) : State :=
  match c.resource with
  | .scanner i => if (s.scans[i]).ownerClaim = some c.id then scanClaimEnd i lapse s else s
  | .zone _ => s

/-- Remove a HELD claim, with the release effects of its cause (R60). -/
def removeHeld (c : Claim) (why : Removal) (s : State) : State :=
  let s := dropClaim c.id s
  let s := ownerChange c.resource (decide (why ≠ .clearKiosk)) s
  match why with
  | .release => grantHead c.resource (tellScan c false s)
  | .clearKiosk => grantHead c.resource (tellScan c false s)
  | .lapse => grantHead c.resource (latch c.kiosk .claimLost (tellScan c true s))
  | .resourceGone => latch c.kiosk .claimLost (tellScan c false s)

/-- Remove a WAITING claim, with CLAIM_LOST or silently (R59, R63, R66, R70). -/
def removeWaiting (c : Claim) (lost : Bool) (s : State) : State :=
  let s := dropClaim c.id s
  if lost then latch c.kiosk .claimLost s else s

/-- Remove every claim on a resource: the holder first, then the waiters from head to tail (R68). -/
def removeResource (r : Resource) (s : State) : State :=
  let s := (holder? s r).elim s fun c => removeHeld c .resourceGone s
  forEach (waitQueue s r) (fun id s => (claim? s id).elim s fun c => removeWaiting c true s) s

/-- The claims of a kiosk that are HELD, or that are WAITING, in ascending claim id. -/
def claimsOf (s : State) (k : Kiosk) (held : Bool) : List Claim :=
  s.claims.filter fun c => c.kiosk = k && c.held == held

/-- CLEAR KIOSK removes the kiosk's WAITING claims and then its HELD claims (R70). -/
def clearClaims (k : Kiosk) (s : State) : State :=
  let s := forEach (claimsOf s k false) (fun c => removeWaiting c false) s
  forEach (claimsOf s k true) (fun c => removeHeld c .clearKiosk) s

/-- Create a claim with an id drawn by R51; answers the id. -/
def createClaim (k : Kiosk) (r : Resource) (held : Bool) (lease waitLimit : Nat) (s : State) : Nat × State :=
  let id := freshId (fun v => s.claims.any fun c => c.id = v) 255 (s.claims.length + 1) s.nextClaim
  let c : Claim :=
    { id := id, kiosk := k, resource := r, held := held, lease := lease, waitLimit := waitLimit,
      expiry := after s.hubTime (if held then lease else waitLimit) }
  (id, { s with
    claims := insertClaim c s.claims
    nextClaim := nextId 255 id
    waits := if held then s.waits else s.waits ++ [id] })

/-! ### Changes of the zone table -/

/-- Latch ZONE_CHANGED for the old owner, and for the new one when it is another kiosk (R12 stage 5). -/
def zoneChanged (old new : Option Kiosk) (s : State) : State :=
  let s := latch? old .zoneChanged s
  if new = old then s else latch? new .zoneChanged s

/-- Whether an entry is an open zone: a resource (R5). -/
def Zone.isOpen (e : Option Zone) : Bool := e.any fun e => e.home.isNone

/-- Write an entry with the stages of R12. The claims on it are removed when it stops being a resource (R13), which it
does when it was open and the new entry is not; clearing it always does that to an open zone (R17). -/
def changeZone (z : ZoneIx) (entry : Option Zone) (s : State) : State :=
  let old := zoneOwner s z
  let wasOpen := Zone.isOpen s.zones[z]
  let s := muteZone z true s
  let s := if wasOpen && !Zone.isOpen entry then removeResource (.zone z) s else s
  let s := { s with zones := upd s.zones z fun _ => entry }
  zoneChanged old (zoneOwner s z) s

/-- Apply one record of a ZONE SET batch: a change of dead-band alone, or none, is not material (R11). -/
def applyZone (z : ZoneIx) (e : Zone) (s : State) : State :=
  match s.zones[z] with
  | none => changeZone z (some e) s
  | some old =>
    if { old with deadBand := e.deadBand } = e then { s with zones := upd s.zones z fun _ => some e }
    else changeZone z (some e) s

/-- Clear one entry; an UNUSED one is passed over (R17). -/
def clearZone (z : ZoneIx) (s : State) : State :=
  if (s.zones[z]).isNone then s else changeZone z none s

/-- Clear one entry when it lies on a panel (R18). -/
def clearZoneOf (i : Slot) (z : ZoneIx) (s : State) : State :=
  if (s.zones[z]).any (fun e => decide (e.panel = i)) then clearZone z s else s

/-- Clear every zone of a removed panel, in index order (R18). -/
def clearPanelZones (i : Slot) (s : State) : State := forEach (indices 32) (clearZoneOf i) s

end Sys2Proof.Machine
end

