-- ==== Sys2Proof/Machine/Bus.lean ====
section
/-!
DEFINITION. The unit bus (chapter 8): what the hub sends, how each outcome is found from what the unit did on the wires
(R154 to R159), the postings of each block (R163, R164), the work choices (R100, R123, R26, R147), the grant (R165, R166)
and the attention latches (R144, R145).
-/

namespace Sys2Proof.Machine

/-! ### On the wires -/

/-- The address byte: the address in bits 7 to 1, the direction in bit 0 (11.6). -/
def addressByte (address : Nat) (read : Bool) : Byte := BitVec.ofNat 8 (2 * address + read.toNat)

/-- The bytes a WRITE's check covers (R156). -/
def writeCovered (t : Txn) : List Byte := addressByte t.address false :: t.command :: u8 t.data.length ++ t.data

/-- Every byte the hub sends, in wire order (R155 to R157). -/
def sentBytes (t : Txn) : List Byte :=
  match t.kind with
  | .ping => [addressByte t.address false]
  | .write => writeCovered t ++ [crc8 (writeCovered t)]
  | .read => [addressByte t.address false, t.command, addressByte t.address true]

/-- A byte of the answer the unit did not drive: the lines are open-drain and read high (notes/assumptions/7.md). -/
def undriven : Byte := 0xFF

/-- The count byte of an answer (R157). -/
def answerCount (received : List Byte) : Byte := received.getD 0 undriven

/-- The data bytes of an answer of n (R157). -/
def answerData (received : List Byte) (n : Nat) : List Byte := (List.range n).map fun k => received.getD (1 + k) undriven

/-- The check byte of an answer of n data bytes (R157). -/
def answerCheck (received : List Byte) (n : Nat) : Byte := received.getD (1 + n) undriven

/-- Whether a READ gets as far as its answer: neither address byte nor the command was refused (R157). -/
def answerReached (a : UnitAnswer) : Bool :=
  match a.nackAt with
  | none => true
  | some k => decide (3 ≤ k)

/-- The bytes of the answer the hub reads: the count alone when it is out of range, else count, data and check (R157). -/
def readAnswer (t : Txn) (a : UnitAnswer) : List Byte :=
  if answerReached a then
    let count := answerCount a.received
    if 48 < count.toNat ∨ count.toNat < t.minCount then [count]
    else count :: answerData a.received count.toNat ++ [answerCheck a.received count.toNat]
  else []

/-- The progress of a transaction that ended by itself (R153, R156, R157): at the first byte not acknowledged the hub sends
no further byte. -/
def wireProgress (t : Txn) (a : UnitAnswer) : Progress :=
  let sent := match a.nackAt with
    | none => sentBytes t
    | some k => (sentBytes t).take (k + 1)
  let received := match t.kind with
    | .read => readAnswer t a
    | _ => []
  { sent := sent, received := received, check := crc8 (sent ++ received.take (1 + (answerCount received).toNat)) }

/-- The bytes a READ had received when it was cut short: a count byte, then at most that many data bytes and the check byte,
none after a count the hub does not accept. The check byte is among them when the READ was cut short in that byte's acknowledge
bit or before its stop condition (R157, R160, R167, R168). -/
def cutReceived (t : Txn) (received : List Byte) : List Byte :=
  match t.kind, received with
  | .read, count :: rest =>
    if 48 < count.toNat ∨ count.toNat < t.minCount then [count] else count :: rest.take (count.toNat + 1)
  | _, _ => []

/-- The progress of a transaction that was cut short (R160, R168). The check byte received is not in the running check
(R158). -/
def cutProgress (t : Txn) (sent : Nat) (received : List Byte) : Progress :=
  let sent := (sentBytes t).take sent
  let received := if sent.length = (sentBytes t).length then cutReceived t received else []
  { sent := sent, received := received, check := crc8 (sent ++ received.take (1 + (answerCount received).toNat)) }

/-- The outcome of a PING (R155). -/
def pingOutcome (a : UnitAnswer) : BusOutcome := if a.nackAt = some 0 then .noAnswer else .ok

/-- The outcome of a WRITE of n data bytes: the first byte not acknowledged (R156). -/
def writeOutcome (n : Nat) (a : UnitAnswer) : BusOutcome :=
  match a.nackAt with
  | none => .ok
  | some k =>
    if k = 0 then .noAnswer
    else if k < n + 3 then .refused
    else if k = n + 3 then .checkFail
    else .ok

/-- The outcome of a READ (R157). -/
def readOutcome (t : Txn) (a : UnitAnswer) : BusOutcome :=
  if a.nackAt = some 0 then .noAnswer
  else if !answerReached a then .refused
  else
    let count := answerCount a.received
    if 48 < count.toNat then .overlong
    else if count.toNat < t.minCount then .short
    else if crc8 (sentBytes t ++ (count :: answerData a.received count.toNat)) = answerCheck a.received count.toNat then .ok
    else .checkFail

/-- The outcome of a transaction that ended by itself (R155 to R157). -/
def wireOutcome (t : Txn) (a : UnitAnswer) : BusOutcome :=
  match t.kind with
  | .ping => pingOutcome a
  | .write => writeOutcome t.data.length a
  | .read => readOutcome t a

/-- The data of an OK READ (R157). -/
def okData (t : Txn) (o : BusOutcome) : List Byte :=
  if t.kind = .read && decide (o = .ok) then (t.progress.received.drop 1).take (answerCount t.progress.received).toNat
  else []

/-! ### Names of transactions -/

/-- The command code of each transaction of the hub's own (R159). -/
def TxnName.command : TxnName → Byte
  | .ident => 0x01
  | .restart => 0x02
  | .cause => 0x03
  | .credit => 0x10
  | .feed => 0x11
  | .markStart => 0x12
  | .markEnd => 0x12
  | .markAbort => 0x12
  | .pstate => 0x13
  | .sset => 0x20
  | .sgo => 0x21
  | .avail => 0x22
  | .pull => 0x23
  | .shalt => 0x24
  | .sstate => 0x25
  | .contacts => 0x30
  | _ => 0

/-- The kind of each transaction (R159). -/
def TxnName.kind : TxnName → BusKind
  | .ping => .ping
  | .rawPing => .ping
  | .restart => .write
  | .feed => .write
  | .markStart => .write
  | .markEnd => .write
  | .markAbort => .write
  | .sset => .write
  | .sgo => .write
  | .shalt => .write
  | .rawWrite => .write
  | _ => .read

/-- The least count of each READ (R159). -/
def TxnName.minCount : TxnName → Nat
  | .ident => 8
  | .cause => 1
  | .credit => 1
  | .pstate => 4
  | .avail => 1
  | .pull => 1
  | .sstate => 3
  | .contacts => 1
  | _ => 0

/-- The mark a MARK write carries (11.6). -/
def markName (mark : Byte) : TxnName := if mark = 1 then .markStart else if mark = 2 then .markEnd else .markAbort

/-- An engine's transaction by its command code and data (R159, 11.6). -/
def engineName (command : Byte) (data : List Byte) : TxnName :=
  if command = 0x10 then .credit
  else if command = 0x11 then .feed
  else if command = 0x12 then markName (byteAt data 0)
  else if command = 0x13 then .pstate
  else if command = 0x20 then .sset
  else if command = 0x21 then .sgo
  else if command = 0x22 then .avail
  else if command = 0x23 then .pull
  else if command = 0x24 then .shalt
  else if command = 0x25 then .sstate
  else .contacts

/-- The name of the transaction in flight. -/
def Txn.name (t : Txn) : TxnName :=
  match t.owner with
  | .cause => .cause
  | .probe =>
    match t.kind with
    | .ping => .ping
    | .write => .restart
    | .read => .ident
  | .engine => engineName t.command t.data
  | .service =>
    match t.kind with
    | .ping => .rawPing
    | .write => .rawWrite
    | .read => .rawRead

/-! ### Postings -/

/-- The rank of a READY slot's postings, by its kind (R164). -/
def kindRank : UnitKind → Rank
  | .panel => .panel
  | .scanner => .scanner
  | .printer => .printer

/-- The defined address of a slot (R154). -/
def slotAddress (s : State) (i : Slot) : Nat := ((s.units[i]).definition.map UnitDef.address).getD 0

/-- The posting of one of the hub's own transactions (R163). -/
def posting (s : State) (i : Slot) (owner : Owner) (rank : Rank) (w : TxnName) (data : List Byte) : Posting :=
  { owner := owner, kind := w.kind, address := slotAddress s i, command := w.command, data := data,
    minCount := w.minCount, rank := rank, aging := 0 }

/-- Fill the place of a slot (R163). -/
def place (i : Slot) (p : Posting) (s : State) : State := { s with board := upd s.board i fun _ => some p }

/-- Withdraw the posting of a slot (R163). -/
def withdraw (i : Slot) (s : State) : State := { s with board := upd s.board i fun _ => none }

/-- The name of a probe step's transaction (R138). -/
def ProbeStep.name : ProbeStep → TxnName
  | .ping => .ping
  | .restart => .restart
  | .ident => .ident

/-- Post a probe step at probe rank (R138, R164). RESTART carries the byte 00h. -/
def postProbe (i : Slot) (p : ProbeStep) (s : State) : State :=
  place i (posting s i .probe .probe p.name (if p = .restart then [0] else [])) s

/-- Post the cause poll of a slot (R147). -/
def postCause (i : Slot) (k : UnitKind) (s : State) : State := place i (posting s i .cause (kindRank k) .cause []) s

/-- The three bytes of a MARK: the mark and the job id (11.6). -/
def markBytes (mark : Nat) (id : Option Nat) : List Byte := u8 mark ++ u16n (id.getD 0)

/-- The write data of a Feed Engine's transaction, copied when it is posted (R100). -/
def feedData (s : State) (i : Slot) (w : TxnName) : List Byte :=
  match w with
  | .markStart => markBytes 1 (s.feeds[i]).job
  | .markEnd => markBytes 2 (s.feeds[i]).job
  | .markAbort => markBytes 3 (s.feeds[i]).job
  | .feed => ((headJob? s i).map (feedBytes s)).getD []
  | _ => []

/-- A Feed Engine chooses its next transaction (R100); posting the start mark of a new job reports "feeding started"
(R102). -/
def chooseFeed (i : Slot) (s : State) : State :=
  if (s.feeds[i]).outstanding.isSome then s
  else match feedWork s.feeds[i] (headJob? s i) with
    | none => s
    | some w =>
      let starts := decide (w = .markStart) && decide ((s.feeds[i]).step = .none)
      let s := modFeed i (feedPosted w (headJob? s i)) s
      let s := if starts then reportStarted i s else s
      place i (posting s i .engine .printer w (feedData s i w)) s

/-- The write data of a Scan Engine's transaction (R159, R203). -/
def scanData (r : ScanRecord) (w : TxnName) : List Byte :=
  match w with
  | .sset => ssetBytes r
  | .sgo => [0]
  | .shalt => [0]
  | _ => []

/-- A Scan Engine chooses its next transaction (R123). -/
def chooseScan (i : Slot) (s : State) : State :=
  if (s.scans[i]).outstanding.isSome then s
  else match scanWork s.scans[i] with
    | none => s
    | some w => place i (posting s i .engine .scanner w (scanData s.scans[i] w)) (modScan i (scanPosted w) s)

/-- A panel engine posts a wanted CONTACTS read (R26). -/
def choosePanel (i : Slot) (s : State) : State :=
  if (s.panels[i]).readWanted && !(s.panels[i]).outstanding then
    place i (posting s i .engine .panel .contacts []) (modPanel i (fun e => { e with outstanding := true }) s)
  else s

/-- The engine of a slot chooses its work, by the slot's kind. -/
def chooseWork (i : Slot) (k : UnitKind) (s : State) : State :=
  match k with
  | .printer => chooseFeed i s
  | .scanner => chooseScan i s
  | .panel => choosePanel i s

/-- A READY slot's empty place is taken by an eligible cause poll, else by its engine's work (R147, R100, R123, R26). -/
def fillPlace (i : Slot) (s : State) : State :=
  match (s.units[i]).definition with
  | none => s
  | some d =>
    if d.state = .ready && (s.board[i]).isNone then
      if (s.units[i]).enable && (s.attn[i]).pending then postCause i d.kind s else chooseWork i d.kind s
    else s

/-! ### Attention latches -/

/-- Whether the line of a slot is active in its level mode (R144). -/
def lineActive (s : State) (i : Slot) : Bool :=
  match (s.units[i]).mode with
  | .levelLow => !s.attnLine[i]
  | .levelHigh => s.attnLine[i]
  | _ => false

/-- Whether a cause poll of a slot is in flight (R145; an orphaned one counts, notes/assumptions/17.md). -/
def pollInFlight (s : State) (i : Slot) : Bool :=
  match s.bus with
  | .running t => decide (t.owner = .cause) && decide (t.slot = some i)
  | _ => false

/-- The pending flag goes from clear to set, with the capture time (R146). -/
def call (i : Slot) (s : State) : State :=
  modAttn i (fun a => if a.pending then a else { pending := true, capture := s.hubTime }) s

/-- The level rule of a slot (R145). -/
def levelRule (i : Slot) (s : State) : State :=
  if lineActive s i && !(s.attn[i]).pending && !pollInFlight s i then call i s else s

/-! ### Grants -/

/-- The rank a posting competes in: an aged one in panel rank (R166). -/
def Posting.effectiveRank (p : Posting) : Rank := if p.aging = 16 then .panel else p.rank

/-- Whether a slot's posting competes in a rank. -/
def competes (s : State) (r : Rank) (i : Slot) : Bool := (s.board[i]).any fun p => decide (p.effectiveRank = r)

/-- The pointer of a rank (R165). -/
def Pointers.at (p : Pointers) : Rank → Slot
  | .scanner => p.scanner
  | .printer => p.printer
  | .probe => p.probe
  | _ => p.panel

/-- Move the pointer of a rank (R165). -/
def Pointers.move (p : Pointers) (r : Rank) (i : Slot) : Pointers :=
  match r with
  | .scanner => { p with scanner := i }
  | .printer => { p with printer := i }
  | .probe => { p with probe := i }
  | _ => { p with panel := i }

/-- The lowest-numbered competing slot above the pointer, else the lowest at or below it (R165). -/
def rotationPick (s : State) (r : Rank) : Option Slot :=
  let ptr := s.pointers.at r
  match (indices 12).find? (fun i => decide (ptr < i) && competes s r i) with
  | some i => some i
  | none => (indices 12).find? fun i => decide (i ≤ ptr) && competes s r i

/-- The rank and slot to grant: the highest rank that holds a posting (R165). -/
def grantChoice (s : State) : Option (Rank × Slot) :=
  [Rank.panel, .scanner, .printer, .probe].findSome? fun r => (rotationPick s r).map fun i => (r, i)

/-- Every posting that waits gains 1 on its aging count, up to 16 (R166). -/
def ageBoard (b : Vector (Option Posting) 12) : Vector (Option Posting) 12 :=
  mapAll b fun p => p.map fun p => { p with aging := min 16 (p.aging + 1) }

/-- The record of the transaction in flight (R153). -/
def Posting.start (p : Posting) (slot : Option Slot) (capture now : Time) : Txn :=
  { owner := p.owner, slot := slot, kind := p.kind, address := p.address, command := p.command, data := p.data,
    minCount := p.minCount, capture := capture, orphaned := false,
    progress := { sent := [], received := [], check := 0xFF }, stallAt := after now 30 }

/-- Grant the service posting (R165). -/
def grantService (p : Posting) (s : State) : State :=
  { s with servicePlace := none, board := ageBoard s.board, bus := .running (p.start none 0 s.hubTime) }

/-- Grant a slot's posting; a cause poll takes the capture time held and clears the pending flag (R165, R147; with the flag
clear already, notes/assumptions/34.md). -/
def grantSlot (r : Rank) (i : Slot) (p : Posting) (s : State) : State :=
  let s := { s with
    board := ageBoard (upd s.board i fun _ => none)
    pointers := s.pointers.move r i
    bus := .running (p.start (some i) (if p.owner = .cause then (s.attn[i]).capture else 0) s.hubTime) }
  if p.owner = .cause then modAttn i (fun a => { a with pending := false }) s else s

/-- A grant, when the controller is IDLE and the board holds a posting (R165). -/
def grant (s : State) : State :=
  match s.bus with
  | .idle =>
    match s.servicePlace with
    | some p => grantService p s
    | none =>
      match grantChoice s with
      | none => s
      | some (r, i) =>
        match s.board[i] with
        | none => s
        | some p => grantSlot r i p s
  | _ => s

/-- The level rules of every slot (R145). -/
def levelRules (s : State) : State := forEach (indices 12) levelRule s

/-- The level rules, the postings, the grant and the postings into the place it freed, at the end of an event
(notes/assumptions/3.md). -/
def settleBus (s : State) : State :=
  let s := levelRules s
  let s := forEach (indices 12) fillPlace s
  let s := grant s
  forEach (indices 12) fillPlace s

end Sys2Proof.Machine
end

