-- ==== Sys2Proof/Machine/Units.lean ====
section
/-!
DEFINITION. The Unit Table and the Attention Unit (chapter 7) and the handing on of outcomes (R162): probing, READY,
failure count and loss, cause polls, and what every completion command shares; with the reply of a BUS RAW (R167).
-/

namespace Sys2Proof.Machine

/-- Change the state of a defined slot. -/
def setUnitState (st : UnitState) (u : UnitSlot) : UnitSlot :=
  { u with definition := u.definition.map fun d => { d with state := st } }

/-! ### Probing (R138 to R140) -/

/-- The slot becomes LOST, or stays LOST, with the re-probe timer set (R138, R139, R141). -/
def setLost (i : Slot) (s : State) : State :=
  modUnit i (fun u => { setUnitState .lost u with probe := some .ping, reprobe := some (after s.hubTime 2000) }) s

/-- The next probe step is owed and posted (R138). -/
def probeNext (i : Slot) (p : ProbeStep) (s : State) : State :=
  postProbe i p (modUnit i (fun u => { u with probe := some p }) s)

/-- The fields of an IDENT answer (R203, 11.6). -/
def identOf (d : List Byte) : Ident :=
  { kind := byteAt d 0, model := halfAt d 1, revision := byteAt d 3, cap1 := halfAt d 4, cap2 := halfAt d 6 }

/-- The code of a unit kind (11.3). -/
def UnitKind.code : UnitKind → Byte
  | .printer => 1
  | .scanner => 2
  | .panel => 3

/-- The slot becomes READY (R140): the count and timer, the pending flag, UNIT_CHANGED, and the panel engine's read
cleared (R26). The engine chooses its work when the event's postings are made. -/
def becomeReady (i : Slot) (s : State) : State :=
  let s := modUnit i (fun u => { setUnitState .ready u with failures := 0, reprobe := none }) s
  let s := levelRule i (modAttn i (fun a => { a with pending := false }) s)
  modPanel i (fun _ => .reset) (latchAll .unitChanged s)

/-- An IDENT read completed OK (R138). -/
def identified (i : Slot) (d : List Byte) (s : State) : State :=
  let s := modUnit i (fun u => { u with ident := some (identOf d), probe := none }) s
  if definedKind s i = none then s
  else if (definedKind s i).map UnitKind.code = some (identOf d).kind then becomeReady i s
  else modUnit i (fun u => { setUnitState .mismatch u with reprobe := none }) s

/-- The Unit Table acts on the outcome of a probe step (R138). -/
def probeAct (i : Slot) (w : TxnName) (o : BusOutcome) (d : List Byte) (s : State) : State :=
  if o = .ok then
    match w with
    | .ping => probeNext i .restart s
    | .restart => probeNext i .ident s
    | _ => identified i d s
  else setLost i s

/-! ### Cause polls (R148) -/

/-- The panel engine's part of a cause read (R26). -/
def panelCause (i : Slot) (b : Byte) (capture : Time) (s : State) : State :=
  let c := panelCauses b
  let s := if c.fault then mutePanel i s else s
  if c.contacts && !(s.panels[i]).readWanted then
    modPanel i (fun e => { e with readWanted := true, readCapture := some capture }) s
  else s

/-- The flags of a cause read go to the slot's engine by the slot's kind (R148). -/
def causeToEngine (i : Slot) (b : Byte) (capture : Time) (s : State) : State :=
  match definedKind s i with
  | some .printer => printerCause i b s
  | some .scanner => scannerCause i b s
  | some .panel => panelCause i b capture s
  | none => s

/-- The Attention Unit acts on the outcome of a cause poll; then the level rule is tested (R148). -/
def causeAct (i : Slot) (o : BusOutcome) (d : List Byte) (capture : Time) (s : State) : State :=
  let s :=
    if o = .ok then causeToEngine i (byteAt d 0) capture s
    else modAttn i (fun _ => { pending := true, capture := capture }) s
  levelRule i s

/-! ### Engines -/

/-- The panel engine acts on the outcome of its CONTACTS read (R27). -/
def panelAct (i : Slot) (o : BusOutcome) (d : List Byte) (s : State) : State :=
  let s := modPanel i (fun e => { e with outstanding := false }) s
  if o = .ok then processContacts i d s else s

/-- The slot's engine acts on the outcome of its work, by the slot's kind (R162). -/
def engineAct (i : Slot) (w : TxnName) (o : BusOutcome) (d : List Byte) (s : State) : State :=
  match definedKind s i with
  | some .printer => feedAct i w o d s
  | some .scanner => scanAct i w o d s
  | some .panel => panelAct i o d s
  | none => s

/-! ### Failure count and loss (R141) -/

/-- The engine of a lost slot tears down its work (R141 stage 2). -/
def tearDown (i : Slot) (s : State) : State :=
  match definedKind s i with
  | some .printer => printerLost i s
  | some .scanner => scannerGone i s
  | some .panel => panelGone i s
  | none => s

/-- A READY slot becomes LOST (R141). -/
def slotLost (i : Slot) (s : State) : State :=
  let s := setLost i s
  latchAll .unitChanged (tearDown i (withdraw i s))

/-- A failure raises the count of a slot, and the slot is LOST when the count reaches 3 (R141). -/
def raiseFailures (i : Slot) (s : State) : State :=
  let s := modUnit i (fun u => { u with failures := min 3 (u.failures + 1) }) s
  if (s.units[i]).failures = 3 then slotLost i s else s

/-- The Unit Table counts an outcome of a READY slot's transaction (R141). -/
def countFailure (i : Slot) (o : BusOutcome) (s : State) : State :=
  if isReady s i then
    match o with
    | .ok => modUnit i (fun u => { u with failures := 0 }) s
    | .refused => s
    | .aborted => s
    | _ => raiseFailures i s
  else s

/-! ### Handing on (R162) -/

/-- The code of an outcome (11.3). -/
def BusOutcome.code : BusOutcome → Nat
  | .ok => 0
  | .noAnswer => 1
  | .refused => 2
  | .checkFail => 3
  | .overlong => 4
  | .short => 5
  | .stalled => 6
  | .aborted => 7

/-- The reply of a BUS RAW: its outcome, what was present, and the bytes received (R167, 11.4). -/
def rawReply (t : Txn) (o : BusOutcome) : List Byte :=
  let r := t.progress.received
  let n := (r.headD 0).toNat
  let count := decide (r ≠ [])
  let checks := decide (n ≤ 48) && decide (r.length = n + 2)
  u8 0 ++ u8 o.code ++ u8 (packFlags [count, checks]) ++ [r.headD 0] ++
    (if checks then [r.getD (1 + n) 0, t.progress.check] else [0, 0]) ++ (r.drop 1).take (if n ≤ 48 then n else 0)

/-- The Link Interface sends the BUS RAW reply (R162, R167). When a BUS ABORT ends the BUS RAW this reply is ready first:
the outcome is handed on before the abort is answered (notes/assumptions/29.md). -/
def rawAct (t : Txn) (o : BusOutcome) (s : State) : State :=
  s.busRaw.elim s fun r => queueReply serviceLink r (rawReply t o) { s with busRaw := none }

/-- The outcome goes to the block that posted the transaction, which may post its next one at once; then a READY slot's
outcome is counted (R162 stages 2 and 3). -/
def handOn (t : Txn) (o : BusOutcome) (s : State) : State :=
  if t.orphaned then s
  else match t.owner, t.slot with
    | .cause, some i => countFailure i o (fillPlace i (causeAct i o (okData t o) t.capture s))
    | .engine, some i => countFailure i o (fillPlace i (engineAct i t.name o (okData t o) s))
    | .probe, some i => probeAct i t.name o (okData t o) s
    | .service, _ => rawAct t o s
    | _, none => s

/-- The state of the controller after an outcome (R162 stage 4). -/
def busAfter (o : BusOutcome) (now : Time) : BusState :=
  match o with
  | .stalled => .recovering (after now 30)
  | .aborted => .recovering (after now 30)
  | _ => .idle

/-- A transaction ends with an outcome (R162). -/
def endTransaction (t : Txn) (o : BusOutcome) (s : State) : State :=
  handOn t o { s with bus := busAfter o s.hubTime }

/-- A transaction of the given name ends by itself with what the unit did on the wires. With no such transaction in
flight the event cannot happen and nothing changes (notes/assumptions/4.md). -/
def complete (w : TxnName) (a : UnitAnswer) (s : State) : State :=
  match s.bus with
  | .running t =>
    if t.name = w then
      let t := { t with progress := wireProgress t a }
      endTransaction t (wireOutcome t a) s
    else s
  | _ => s

end Sys2Proof.Machine
end

