-- ==== Sys2Proof/Machine/Transmit.lean ====
section
/-!
DEFINITION. The transmitters (R189, R190): the frame each free transmitter chooses, the bytes of a frame (11.1, 11.5,
R202), when a notice is due (R173), and `settle`, which ends every event: the postings and the grant of the unit bus, then
the choices of the transmitters (notes/assumptions/3.md).
-/

namespace Sys2Proof.Machine

/-! ### Notices -/

/-- The classes a notice frame would carry now (R173, R174). -/
def carried (n : NoticeState) (maintenance : Bool) : ClassSet :=
  if maintenance then n.pending &&& n.enabled &&& n.mask else n.pending &&& n.enabled

/-- Whether a notice is due (R173). -/
def noticeDue (n : NoticeState) (maintenance : Bool) : Bool :=
  (maintenance || !n.hold) && decide (carried n maintenance ≠ 0)

/-- The notice state after its frame is built: the carried classes leave P and E (R174). -/
def noticeBuilt (n : NoticeState) (c : ClassSet) : NoticeState :=
  { n with pending := n.pending &&& ~~~c, enabled := n.enabled &&& ~~~c }

/-! ### Frames on the wire -/

/-- The bytes a link frame's check covers: LEN, KIND, TAG, payload (R183). -/
def frameBody (kind tag : Byte) (payload : List Byte) : List Byte := u8 payload.length ++ kind :: tag :: payload

/-- The bytes of a frame (11.1). -/
def frameBytes (kind tag : Byte) (payload : List Byte) : List Byte :=
  0x5A :: frameBody kind tag payload ++ u16 (crc16 (frameBody kind tag payload))

/-- A notice frame (11.5, R202). -/
def noticeFrame (forced : Bool) (c : ClassSet) (word : Half) : List Byte :=
  frameBytes 0x70 0 (u8 (packFlags [forced]) ++ classBytes c ++ u16 word)

/-- The code of a touch phase (11.3). -/
def Phase.code : Phase → Nat
  | .down => 1
  | .move => 2
  | .up => 3
  | .cancel => 4

/-- A touch frame (11.5, R202). -/
def touchFrame (e : TouchEvent) (gap : Bool) : List Byte :=
  frameBytes 0x71 0 (u8 e.contact.val ++ u8 e.phase.code ++ orNone e.zone ++ u16n e.x ++ u16n e.y ++ u16 e.time ++
    u8 (packFlags [e.edge, gap]))

/-- A scan data frame (11.5, R202). -/
def scanDataFrame (f : ScanFrame) : List Byte := frameBytes 0x72 0 (u8 f.slot.val ++ u16 f.seq ++ f.data)

/-! ### Choosing a frame (R189) -/

/-- The transmitter of a link becomes sending. -/
def send (l : Link) (slot : Option ReqSlot) (bytes : List Byte) (s : State) : State :=
  modLink l (fun k => { k with sending := some { slot := slot, bytes := bytes } }) s

/-- The reply at the head leaves the queue (R189 line 1). -/
def sendReply (l : Link) (r : Reply) (s : State) : State :=
  send l (some r.slot) (frameBytes r.kind r.tag r.payload) (modLink l (fun k => { k with replies := k.replies.tail }) s)

/-- The forced notice is built from its slot, which becomes empty (R180, R189 line 2). -/
def sendForced (l : Link) (k : Kiosk) (c : ClassSet) (word : Half) (s : State) : State :=
  send l none (noticeFrame true c word) (modNotice k (fun n => { n with forced := none }) s)

/-- A notice frame is built (R174, R189 line 3). -/
def sendNotice (l : Link) (k : Kiosk) (s : State) : State :=
  let c := carried s.notices[k] (s.kiosks[k]).maintenance
  send l none (noticeFrame false c 0) (modNotice k (fun n => noticeBuilt n c) s)

/-- The event at the head of the touch queue is sent; the frame carries GAP when the gap flag is set (R189 line 5, R192). -/
def sendTouch (l : Link) (k : Kiosk) (e : TouchEvent) (s : State) : State :=
  send l none (touchFrame e (s.kiosks[k]).gap)
    (modKiosk k (fun q => { q with touch := q.touch.tail, gap := false, streak := min 4 (q.streak + 1) }) s)

/-- The frame at the head of the scan frame queue is sent (R189 lines 4 and 6). -/
def sendScan (l : Link) (k : Kiosk) (f : ScanFrame) (s : State) : State :=
  send l none (scanDataFrame f) (modKiosk k (fun q => { q with scan := q.scan.tail, streak := 0 }) s)

/-- Lines 2 to 6 of the table of R189, for a kiosk link. -/
def chooseUnasked (l : Link) (k : Kiosk) (s : State) : State :=
  let q := s.kiosks[k]
  match (s.notices[k]).forced with
  | some (c, word) => sendForced l k c word s
  | none =>
    if noticeDue s.notices[k] q.maintenance then sendNotice l k s
    else match decide (q.streak = 4), q.scan, q.touch with
      | true, f :: _, _ => sendScan l k f s
      | _, _, e :: _ => sendTouch l k e s
      | _, f :: _, [] => sendScan l k f s
      | _, [], [] => s

/-- A free transmitter with a frame waiting chooses one (R189). -/
def transmit (l : Link) (s : State) : State :=
  if (s.links[l]).sending.isSome then s
  else match (s.links[l]).replies with
    | r :: _ => sendReply l r s
    | [] => (kioskOf l).elim s fun k => chooseUnasked l k s

/-- The end of every event: the unit bus, then the transmitters. While a reset lasts nothing is posted, granted or chosen to
be sent (R170, R198); while a soft reset lasts the level rules are tested (R152; notes/assumptions/11.md). -/
def settle (s : State) : State :=
  match s.phase with
  | .full => s
  | .soft _ _ => levelRules s
  | .running => forEach (indices 9) transmit (settleBus s)

end Sys2Proof.Machine
end

