-- ==== Sys2Proof/Machine/Operands.lean ====
section
/-!
DEFINITION. Requests as the Link Interface takes them: the KIND codes (11.2), which link may send which (R187), the
lengths of payloads (11.4, R200), the checks of R187, and the taking of a request into a slot (R186, R188).
-/

namespace Sys2Proof.Machine

/-- The request kinds (11.2). -/
inductive ReqKind where
  | echo | hubIdent | linkStatus | clearKiosk | maintain | reset
  | zoneSet | zoneClear | zoneList | touchList
  | claim | renew | release | claimStatus | forceRelease
  | printOpen | printData | printClose | printCancel | jobStatus | spoolStatus | quotaSet | fillLimitSet
  | scanStart | scanCredit | scanStop | scanStatus
  | unitDefine | unitRemove | attnSet | unitStatus | busRaw | busAbort
  | noticeArm | noticeDisarm | noticeHold | noticeRelease | noticePeek | noticeTake | noticeMaintainMask | forceNotice
  deriving DecidableEq, Repr

/-- The KIND code of each request kind (11.2). -/
def ReqKind.code : ReqKind → Byte
  | .echo => 0x01
  | .hubIdent => 0x02
  | .linkStatus => 0x03
  | .clearKiosk => 0x04
  | .maintain => 0x05
  | .reset => 0x06
  | .zoneSet => 0x10
  | .zoneClear => 0x11
  | .zoneList => 0x12
  | .touchList => 0x13
  | .claim => 0x20
  | .renew => 0x21
  | .release => 0x22
  | .claimStatus => 0x23
  | .forceRelease => 0x24
  | .printOpen => 0x30
  | .printData => 0x31
  | .printClose => 0x32
  | .printCancel => 0x33
  | .jobStatus => 0x34
  | .spoolStatus => 0x35
  | .quotaSet => 0x36
  | .fillLimitSet => 0x37
  | .scanStart => 0x40
  | .scanCredit => 0x41
  | .scanStop => 0x42
  | .scanStatus => 0x43
  | .unitDefine => 0x50
  | .unitRemove => 0x51
  | .attnSet => 0x52
  | .unitStatus => 0x53
  | .busRaw => 0x54
  | .busAbort => 0x55
  | .noticeArm => 0x60
  | .noticeDisarm => 0x61
  | .noticeHold => 0x62
  | .noticeRelease => 0x63
  | .noticePeek => 0x64
  | .noticeTake => 0x65
  | .noticeMaintainMask => 0x66
  | .forceNotice => 0x67

/-- Every request kind, in the order of the codes. -/
def ReqKind.all : List ReqKind :=
  [.echo, .hubIdent, .linkStatus, .clearKiosk, .maintain, .reset, .zoneSet, .zoneClear, .zoneList, .touchList,
    .claim, .renew, .release, .claimStatus, .forceRelease,
    .printOpen, .printData, .printClose, .printCancel, .jobStatus, .spoolStatus, .quotaSet, .fillLimitSet,
    .scanStart, .scanCredit, .scanStop, .scanStatus,
    .unitDefine, .unitRemove, .attnSet, .unitStatus, .busRaw, .busAbort,
    .noticeArm, .noticeDisarm, .noticeHold, .noticeRelease, .noticePeek, .noticeTake, .noticeMaintainMask,
    .forceNotice]

/-- The request kind of a KIND code; none is no request kind (11.2). -/
def ReqKind.ofCode (b : Byte) : Option ReqKind := ReqKind.all.find? fun k => k.code = b

/-- Which links take a request (R187). -/
inductive Access where
  | kioskOnly
  | serviceOnly
  | every
  deriving DecidableEq, Repr

/-- The table of R187. -/
def ReqKind.access : ReqKind → Access
  | .claim => .kioskOnly
  | .renew => .kioskOnly
  | .release => .kioskOnly
  | .printOpen => .kioskOnly
  | .printData => .kioskOnly
  | .printClose => .kioskOnly
  | .printCancel => .kioskOnly
  | .scanStart => .kioskOnly
  | .scanCredit => .kioskOnly
  | .scanStop => .kioskOnly
  | .noticeArm => .kioskOnly
  | .noticeDisarm => .kioskOnly
  | .noticeHold => .kioskOnly
  | .noticeRelease => .kioskOnly
  | .noticeTake => .kioskOnly
  | .zoneSet => .serviceOnly
  | .zoneClear => .serviceOnly
  | .forceRelease => .serviceOnly
  | .quotaSet => .serviceOnly
  | .fillLimitSet => .serviceOnly
  | .unitDefine => .serviceOnly
  | .unitRemove => .serviceOnly
  | .attnSet => .serviceOnly
  | .busRaw => .serviceOnly
  | .busAbort => .serviceOnly
  | .noticeMaintainMask => .serviceOnly
  | .forceNotice => .serviceOnly
  | .maintain => .serviceOnly
  | .reset => .serviceOnly
  | .zoneList => .every
  | .touchList => .every
  | .claimStatus => .every
  | .jobStatus => .every
  | .spoolStatus => .every
  | .scanStatus => .every
  | .unitStatus => .every
  | .noticePeek => .every
  | .echo => .every
  | .hubIdent => .every
  | .linkStatus => .every
  | .clearKiosk => .every

/-- Whether a request of this kind is refused on this link (R187 check 2). -/
def deniedOn (l : Link) (k : ReqKind) : Bool :=
  match k.access with
  | .kioskOnly => decide (l = serviceLink)
  | .serviceOnly => decide (l ≠ serviceLink)
  | .every => false

/-- The kinds a kiosk in maintenance is refused (R187 check 4). -/
def ReqKind.heldBack : ReqKind → Bool
  | .claim => true
  | .printOpen => true
  | .printData => true
  | .scanStart => true
  | _ => false

/-- Whether a link is that of a kiosk in maintenance. -/
def inMaintenance (s : State) (l : Link) : Bool := (kioskOf l).any fun k => (s.kiosks[k]).maintenance

/-- The payload length of the kinds with a fixed length on a link: one byte more on S for the kinds marked K (11.4). -/
def ReqKind.fixedLength (k : ReqKind) (service : Bool) : Option Nat :=
  match k with
  | .echo => none
  | .zoneSet => none
  | .zoneClear => none
  | .printData => none
  | .busRaw => none
  | .hubIdent => some 0
  | .linkStatus => some service.toNat
  | .clearKiosk => some service.toNat
  | .maintain => some 2
  | .reset => some 1
  | .zoneList => some 2
  | .touchList => some (1 + service.toNat)
  | .claim => some 10
  | .renew => some 1
  | .release => some 1
  | .claimStatus => some (2 + service.toNat)
  | .forceRelease => some 1
  | .printOpen => some 1
  | .printClose => some 2
  | .printCancel => some 2
  | .jobStatus => some 3
  | .spoolStatus => some service.toNat
  | .quotaSet => some 3
  | .fillLimitSet => some 4
  | .scanStart => some 12
  | .scanCredit => some 2
  | .scanStop => some 1
  | .scanStatus => some 1
  | .unitDefine => some 5
  | .unitRemove => some 1
  | .attnSet => some 3
  | .unitStatus => some 0
  | .busAbort => some 0
  | .noticeArm => some 2
  | .noticeDisarm => some 2
  | .noticeHold => some 0
  | .noticeRelease => some 0
  | .noticePeek => some service.toNat
  | .noticeTake => some 0
  | .noticeMaintainMask => some 3
  | .forceNotice => some 5

/-- Whether a payload of n bytes, with these first two bytes, has a length its kind allows on a link (R187 check 3,
R200): a count byte in its range with exactly that many records, or data within its range. -/
def lengthAgrees (k : ReqKind) (service : Bool) (n : Nat) (first : Byte) : Bool :=
  match k.fixedLength service with
  | some m => decide (n = m)
  | none =>
    match k with
    | .echo => decide (n ≤ 199)
    | .zoneSet => decide (1 ≤ n ∧ 1 ≤ first.toNat ∧ first.toNat ≤ 6 ∧ n = 1 + 18 * first.toNat)
    | .zoneClear => decide (1 ≤ n ∧ 1 ≤ first.toNat ∧ first.toNat ≤ 32 ∧ n = 1 + first.toNat)
    | .printData => decide (3 ≤ n ∧ n ≤ 194)
    | _ => if first = 3 then decide (4 ≤ n ∧ n ≤ 51) else decide (n = 3)

/-- What the block that owns a request answers: a reply payload at once, or none yet (R188). -/
inductive BlockAnswer where
  | now (payload : List Byte)
  | later
  deriving DecidableEq, Repr

/-- The statuses by number (R188). -/
inductive Status where
  | ok | partial_ | queued | busy | full | noSuch | notYours | badState | badArg | denied | malformed
  deriving DecidableEq, Repr

/-- The number of a status (R188). -/
def Status.number : Status → Nat
  | .ok => 0
  | .partial_ => 1
  | .queued => 2
  | .busy => 3
  | .full => 4
  | .noSuch => 5
  | .notYours => 6
  | .badState => 7
  | .badArg => 8
  | .denied => 9
  | .malformed => 10

/-- A reply payload: the status byte and what follows it (R201). -/
def reply (st : Status) (rest : List Byte) : List Byte := u8 st.number ++ rest

/-- A request as it arrives: its link, KIND and TAG, its payload length, whether the length agrees with the kind. -/
structure Arrival where
  link : Link
  code : Byte
  tag : Byte
  length : Nat
  agrees : Bool
  deriving DecidableEq, Repr

/-- The checks of R187 in order; none when every check passes, else the refusal's payload. -/
def checkRequest (s : State) (a : Arrival) : Option (List Byte) :=
  match ReqKind.ofCode a.code with
  | none => some (reply .malformed (u8 1))
  | some k =>
    if deniedOn a.link k then some (reply .denied (u8 2))
    else if !a.agrees then some (reply .malformed (u8 3))
    else if inMaintenance s a.link && k.heldBack then some (reply .denied (u8 4))
    else none

/-- The lowest-numbered free request slot of a link (R186). -/
def freeSlot? (s : State) (l : Link) : Option ReqSlot := (indices 4).find? fun r => ((s.links[l]).requests[r]).isNone

/-- A request takes a slot (R186). -/
def holdSlot (a : Arrival) (r : ReqSlot) (s : State) : State :=
  modLink a.link (fun k => { k with
    requests := upd k.requests r fun _ => some { kind := a.code, tag := a.tag, ready := false } }) s

/-- Dispatch a request held in a slot: the checks, then its block, then its reply (R187, R188). -/
def dispatch (a : Arrival) (r : ReqSlot) (block : ReqSlot → State → State × BlockAnswer) (s : State) : State :=
  match checkRequest s a with
  | some payload => queueReply a.link r payload s
  | none =>
    match block r s with
    | (s', .now payload) => queueReply a.link r payload s'
    | (s', .later) => s'

/-- A frame with a good check arrives (R186). While a reset lasts its bytes were discarded (R198); a frame whose LEN is
above 200 is discarded with LEN_OVERLONG (R185); with no free slot it is dropped. -/
def arrive (a : Arrival) (block : ReqSlot → State → State × BlockAnswer) (s : State) : State :=
  if s.phase ≠ .running then s
  else if 200 < a.length then faultOverlong a.link s
  else match freeSlot? s a.link with
    | none => faultDropped a.link s
    | some r => dispatch a r block (holdSlot a r s)

/-- A request block that answers at once and needs no slot. -/
def atOnce (f : State → State × List Byte) (_ : ReqSlot) (s : State) : State × BlockAnswer :=
  let out := f s
  (out.1, .now out.2)

/-- A request block that changes nothing. -/
def query (f : State → List Byte) (_ : ReqSlot) (s : State) : State × BlockAnswer := (s, .now (f s))

/-- A block of a kiosk-only request, for the kiosk of the link; on S check 2 has refused it. -/
def forKiosk (l : Link) (f : Kiosk → State → State × List Byte) (s : State) : State × List Byte :=
  match kioskOf l with
  | some k => f k s
  | none => (s, reply .denied (u8 2))

/-- The kiosk a request marked K is about: the link's, or the one named on S; none is BAD_ARG (11.4). -/
def subject (l : Link) (named : Option Byte) : Option Kiosk :=
  match kioskOf l with
  | some k => some k
  | none => named.bind fun b => index? 8 b.toNat

/-- The arrival of a request of a fixed length, or with an optional byte that S alone carries. -/
def fixed (l : Link) (tag : Byte) (k : ReqKind) : Arrival :=
  { link := l, code := k.code, tag := tag, length := (k.fixedLength (decide (l = serviceLink))).getD 0, agrees := true }

/-- The arrival of a request marked K, given whether the byte of S is there: its length agrees exactly when that byte is
there on S and not there on a kiosk link. -/
def fixedK (l : Link) (tag : Byte) (k : ReqKind) (named : Option Byte) : Arrival :=
  { link := l, code := k.code, tag := tag, length := (k.fixedLength named.isSome).getD 0,
    agrees := named.isSome == decide (l = serviceLink) }

/-- The arrival of a request with a list, of this payload length and first byte. -/
def listed (l : Link) (tag : Byte) (k : ReqKind) (length : Nat) (first : Byte) : Arrival :=
  { link := l, code := k.code, tag := tag, length := length,
    agrees := lengthAgrees k (decide (l = serviceLink)) length first }

end Sys2Proof.Machine
end

