-- ==== Sys2Proof/Machine/ZoneRequests.lean ====
section
/-!
DEFINITION. The commands of chapters 1 and 2: ZONE SET, ZONE CLEAR, ZONE LIST, TOUCH LIST and the completion of a CONTACTS
read.
-/

namespace Sys2Proof.Machine

/-- A request command: its frame arrives, and the event ends (R186, R187). -/
def request (a : Arrival) (block : ReqSlot → State → State × BlockAnswer) (s : State) : Answer :=
  .next (settle (arrive a block s))

/-- A completion command: the transaction of this name ends by itself, and the event ends (R162). -/
def completion (w : TxnName) (a : UnitAnswer) (s : State) : Answer := .next (settle (complete w a s))

/-! ### ZONE SET (R9 to R14) -/

/-- The home kiosk of a record: none inside for the code FFh, nothing for a code that is neither (R9 check 8). -/
def homeOf (b : Byte) : Option (Option Kiosk) := if b = 0xFF then some none else (index? 8 b.toNat).map some

/-- Whether a panel byte names a slot defined with kind PANEL (R9 check 4). -/
def namesPanel (s : State) (b : Byte) : Bool := (index? 12 b.toNat).any fun i => decide (definedKind s i = some .panel)

/-- Whether the geometry of a record lies on the panel (R9 check 5). -/
def recordFits (r : ZoneRecord) : Bool :=
  decide (r.left.toNat ≤ 4095 ∧ r.top.toNat ≤ 4095 ∧ 1 ≤ r.width.toNat ∧ r.width.toNat ≤ 4096 ∧ 1 ≤ r.height.toNat ∧
    r.height.toNat ≤ 4096 ∧ r.left.toNat + r.width.toNat ≤ 4096 ∧ r.top.toNat + r.height.toNat ≤ 4096)

/-- A logical size in its range (R9 check 7). -/
def logicalSize (h : Half) : Bool := decide (1 ≤ h.toNat ∧ h.toNat ≤ 32767)

/-- The number of the first check of R9 a record fails, given the records before it in its batch. -/
def failedCheck (s : State) (earlier : List ZoneRecord) (r : ZoneRecord) : Option Nat :=
  if 31 < r.index.toNat then some 1
  else if earlier.any (fun q => q.index = r.index) then some 2
  else if r.state ≠ 1 ∧ r.state ≠ 2 then some 3
  else if !namesPanel s r.panel then some 4
  else if !recordFits r then some 5
  else if 3 < r.rotation.toNat then some 6
  else if !logicalSize r.logicalWidth || !logicalSize r.logicalHeight then some 7
  else if (homeOf r.home).isNone then some 8
  else none

/-- The position and check of the first bad record of a batch (R10). -/
def badRecord (s : State) (earlier : List ZoneRecord) : List ZoneRecord → Option (Nat × Nat)
  | [] => none
  | r :: rs =>
    match failedCheck s earlier r with
    | some c => some (earlier.length + 1, c)
    | none => badRecord s (earlier ++ [r]) rs

/-- The index and entry a record that passes the checks writes; a dead-band of 16 or above is clamped to 15 (R9, R11). -/
def zoneOf (r : ZoneRecord) : Option (ZoneIx × Zone) := do
  let z ← index? 32 r.index.toNat
  let panel ← index? 12 r.panel.toNat
  let rotation ← index? 4 r.rotation.toNat
  let home ← homeOf r.home
  pure (z,
    { enabled := decide (r.state = 1), panel := panel, left := r.left.toNat, top := r.top.toNat,
      width := r.width.toNat, height := r.height.toNat, rotation := rotation,
      logicalWidth := r.logicalWidth.toNat, logicalHeight := r.logicalHeight.toNat,
      deadBand := min 15 r.deadBand.toNat, home := home })

/-- Apply one record of a batch that passes (R11). -/
def applyRecord (r : ZoneRecord) (s : State) : State := (zoneOf r).elim s fun p => applyZone p.1 p.2 s

/-- ZONE SET: the whole batch is applied in order, or none of it (R9 to R14). -/
def zoneSetBlock (records : List ZoneRecord) (s : State) : State × List Byte :=
  match badRecord s [] records with
  | some (position, check) => (s, reply .badArg (u8 position ++ u8 check))
  | none => (forEach records applyRecord s, reply .ok [])

/-! ### ZONE CLEAR (R17) -/

/-- The list position of the first index above 31 (R17). -/
def badIndex (l : List Byte) : Option Nat := (l.findIdx? fun b => decide (31 < b.toNat)).map (· + 1)

/-- How many entries are not UNUSED. -/
def usedZones (s : State) : Nat := ((indices 32).filter fun z => (s.zones[z]).isSome).length

/-- ZONE CLEAR: the reply counts the entries that became UNUSED (R17). -/
def zoneClearBlock (l : List Byte) (s : State) : State × List Byte :=
  match badIndex l with
  | some position => (s, reply .badArg (u8 position))
  | none =>
    let s' := forEach l (fun b s => (index? 32 b.toNat).elim s fun z => clearZone z s) s
    (s', reply .ok (u8 (usedZones s - usedZones s')))

/-! ### ZONE LIST (R19) -/

/-- Cut a list of numbered items to the first n, with the number after the last one returned when more follow. -/
def cutList (n : Nat) (l : List Nat) : List Nat × Option Nat :=
  (l.take n, if (l.drop n).isEmpty then none else (l.take n).getLast?.map (· + 1))

/-- A listed zone record (11.4). -/
def listedZone (s : State) (z : ZoneIx) : List Byte :=
  match s.zones[z] with
  | none => []
  | some e =>
    u8 z.val ++ u8 (if e.enabled then 1 else 2) ++ u16n e.left ++ u16n e.top ++ u16n e.width ++ u16n e.height ++
      u8 e.rotation.val ++ u16n e.logicalWidth ++ u16n e.logicalHeight ++ u8 e.deadBand ++ orNone e.home ++
      orNone (zoneOwner s z)

/-- The entries of a panel that are not UNUSED, from an index up (R19). -/
def zonesOf (s : State) (panel : Slot) (first : Nat) : List ZoneIx :=
  (indices 32).filter fun z => decide (first ≤ z.val) && (s.zones[z]).any fun e => decide (e.panel = panel)

/-- ZONE LIST (R19). -/
def zoneListBlock (panel first : Byte) (s : State) : List Byte :=
  match index? 12 panel.toNat, index? 32 first.toNat with
  | some i, some z =>
    if definedKind s i = some .panel then
      let all := zonesOf s i z.val
      let more := (cutList 10 (all.map Fin.val)).2
      reply .ok (u8 (more.getD 255) ++ u8 (all.take 10).length ++ (all.take 10).flatMap (listedZone s))
    else reply .noSuch []
  | _, _ => reply .badArg []

/-! ### TOUCH LIST (R47) -/

/-- The LIVE contacts of a kiosk from a number up (R47). -/
def contactsOf (s : State) (k : Kiosk) (first : Nat) : List ContactNo :=
  (indices 40).filter fun n =>
    decide (first ≤ n.val) && (s.contacts[n]).any fun c => c.live && decide (c.owner = some k)

/-- A TOUCH LIST record (11.4). -/
def touchRecord (s : State) (n : ContactNo) : List Byte :=
  match s.contacts[n] with
  | none => []
  | some c =>
    u8 n.val ++ orNone c.zone ++ u16n ((c.last.map Produced.x).getD 0) ++ u16n ((c.last.map Produced.y).getD 0)

/-- TOUCH LIST (R47). -/
def touchListBlock (l : Link) (named : Option Byte) (first : Byte) (s : State) : List Byte :=
  match subject l named, index? 40 first.toNat with
  | some k, some n =>
    let all := contactsOf s k n.val
    let more := (cutList 16 (all.map Fin.val)).2
    reply .ok (u8 (more.getD 255) ++ u8 (all.take 16).length ++ (all.take 16).flatMap (touchRecord s))
  | _, _ => reply .badArg []

/-! ### The commands -/

/-- ZONE_SET (R9 to R14). -/
def execZoneSet (link : Link) (tag : Byte) (records : List ZoneRecord) (s : State) : Answer :=
  request (listed link tag .zoneSet (1 + 18 * records.length) (BitVec.ofNat 8 records.length))
    (atOnce (zoneSetBlock records)) s

/-- ZONE_CLEAR (R17). -/
def execZoneClear (link : Link) (tag : Byte) (indices : List Byte) (s : State) : Answer :=
  request (listed link tag .zoneClear (1 + indices.length) (BitVec.ofNat 8 indices.length))
    (atOnce (zoneClearBlock indices)) s

/-- ZONE_LIST (R19). -/
def execZoneList (link : Link) (tag : Byte) (panel first : Byte) (s : State) : Answer :=
  request (fixed link tag .zoneList) (query (zoneListBlock panel first)) s

/-- TOUCH_LIST (R47). -/
def execTouchList (link : Link) (tag : Byte) (kiosk : Option Byte) (first : Byte) (s : State) : Answer :=
  request (fixedK link tag .touchList kiosk) (query (touchListBlock link kiosk first)) s

/-- CONTACTS_READ_COMPLETE (R27). -/
def execContactsReadComplete (answer : UnitAnswer) (s : State) : Answer := completion .contacts answer s

end Sys2Proof.Machine
end

