-- ==== Sys2Proof/Machine/ClaimRequests.lean ====
section
/-!
DEFINITION. The commands of chapter 3: CLAIM, RENEW, RELEASE, FORCE RELEASE, CLAIM STATUS and the two expiries.
-/

namespace Sys2Proof.Machine

/-- The lease length as clamped (R53). -/
def clampLease (w : Word) : Nat := max 100 (min 600000 w.toNat)

/-- The wait limit as clamped (R53). -/
def clampWait (w : Word) : Nat := min 60000 w.toNat

/-- The code of a claim's state (11.3). -/
def Claim.stateCode (c : Claim) : Nat := if c.held then 2 else 1

/-- CLAIM, its cases in the order of R54. -/
def claimBlock (kind number : Byte) (lease waitLimit : Word) (k : Kiosk) (s : State) : State × List Byte :=
  let lease := clampLease lease
  let wait := clampWait waitLimit
  match resource? kind number with
  | none => (s, reply .badArg [])
  | some none => (s, reply .noSuch [])
  | some (some r) =>
    if !resourceExists s r then (s, reply .noSuch [])
    else match claimOf? s k r with
      | some c => (s, reply .badState (u8 c.id ++ u8 c.stateCode))
      | none =>
        if 24 ≤ s.claims.length then (s, reply .full (u8 1))
        else match holder? s r with
          | none =>
            let out := createClaim k r true lease wait s
            (ownerChange r true out.2, reply .ok (u8 out.1 ++ u32n lease))
          | some _ =>
            if wait = 0 then (s, reply .busy (u8 0))
            else if 4 ≤ (waitQueue s r).length then (s, reply .full (u8 2))
            else
              let out := createClaim k r false lease wait s
              (out.2, reply .queued (u8 out.1 ++ u32n lease ++ u16n wait ++ u8 (waitQueue out.2 r).length))

/-- RENEW, its cases in the order of R57. -/
def renewBlock (id : Byte) (k : Kiosk) (s : State) : State × List Byte :=
  match claim? s id.toNat with
  | none => (s, reply .noSuch [])
  | some c =>
    if c.kiosk ≠ k then (s, reply .notYours [])
    else if !c.held then (s, reply .badState (u8 c.stateCode))
    else
      let expiry := after s.hubTime c.lease
      (modClaim c.id (fun c => { c with expiry := expiry }) s, reply .ok (u32 expiry))

/-- RELEASE (R58, R59). -/
def releaseBlock (id : Byte) (k : Kiosk) (s : State) : State × List Byte :=
  match claim? s id.toNat with
  | none => (s, reply .noSuch [])
  | some c =>
    if c.kiosk ≠ k then (s, reply .notYours [])
    else if c.held then (removeHeld c .release s, reply .ok [])
    else (removeWaiting c false s, reply .ok [])

/-- FORCE RELEASE (R66). -/
def forceReleaseBlock (id : Byte) (s : State) : State × List Byte :=
  match claim? s id.toNat with
  | none => (s, reply .noSuch [])
  | some c =>
    let s' := if c.held then removeHeld c .lapse s else removeWaiting c true s
    (s', reply .ok (u8 c.kiosk.val ++ u8 c.stateCode))

/-- A lease expires when hub time has reached the expiry time of the HELD claim (R62). -/
def expireLease (id : Byte) (s : State) : State :=
  match claim? s id.toNat with
  | none => s
  | some c => if c.held && reached s.hubTime c.expiry then removeHeld c .lapse s else s

/-- A wait limit expires when hub time has reached the expiry time of the WAITING claim (R63). -/
def expireWait (id : Byte) (s : State) : State :=
  match claim? s id.toNat with
  | none => s
  | some c => if !c.held && reached s.hubTime c.expiry then removeWaiting c true s else s

/-- The kind code and number of a resource (11.3). -/
def Resource.code : Resource → List Byte
  | .scanner i => u8 1 ++ u8 i.val
  | .zone z => u8 2 ++ u8 z.val

/-- A claim record of CLAIM STATUS (R67, 11.4). -/
def claimRecord (s : State) (c : Claim) : List Byte :=
  u8 c.id ++ u8 c.kiosk.val ++ c.resource.code ++ u8 c.stateCode ++ u32n c.lease ++ u16n c.waitLimit ++
    u32 (c.expiry - s.hubTime) ++
    u8 (if c.held then 255 else (position? (waitQueue s c.resource) c.id).getD 0)

/-- CLAIM STATUS with selector ONE (R67); the kiosk byte of a request on S is not used (notes/assumptions/20.md). -/
def claimOneBlock (l : Link) (id : Byte) (s : State) : List Byte :=
  match claim? s id.toNat with
  | none => reply .noSuch []
  | some c =>
    if (kioskOf l).any (fun k => decide (c.kiosk ≠ k)) then reply .notYours []
    else reply .ok (u8 0 ++ u8 1 ++ claimRecord s c)

/-- The kiosks whose claims a LIST reports: those of the link's kiosk, or on S of the named one or of all (R67). -/
def claimSelection (l : Link) (named : Option Byte) : Option (Kiosk → Bool) :=
  match kioskOf l with
  | some k => some fun j => decide (j = k)
  | none => named.bind fun b => if b = 0xFF then some fun _ => true else (index? 8 b.toNat).map fun k j => decide (j = k)

/-- CLAIM STATUS with selector LIST: at most 12 records in ascending id (R67). -/
def claimListBlock (l : Link) (id : Byte) (named : Option Byte) (s : State) : List Byte :=
  match claimSelection l named with
  | none => reply .badArg []
  | some sel =>
    let all := s.claims.filter fun c => decide (id.toNat ≤ c.id) && sel c.kiosk
    let more := (cutList 12 (all.map Claim.id)).2
    reply .ok (u8 (more.getD 0) ++ u8 (all.take 12).length ++ (all.take 12).flatMap (claimRecord s))

/-! ### The commands -/

/-- CLAIM (R54). -/
def execClaim (link : Link) (tag : Byte) (kind number : Byte) (lease waitLimit : Word) (s : State) : Answer :=
  request (fixed link tag .claim) (atOnce (forKiosk link (claimBlock kind number lease waitLimit))) s

/-- RENEW (R57). -/
def execRenew (link : Link) (tag : Byte) (claimId : Byte) (s : State) : Answer :=
  request (fixed link tag .renew) (atOnce (forKiosk link (renewBlock claimId))) s

/-- RELEASE (R58, R59). -/
def execRelease (link : Link) (tag : Byte) (claimId : Byte) (s : State) : Answer :=
  request (fixed link tag .release) (atOnce (forKiosk link (releaseBlock claimId))) s

/-- LEASE_EXPIRY (R62). -/
def execLeaseExpiry (claimId : Byte) (s : State) : Answer := .next (settle (expireLease claimId s))

/-- WAIT_LIMIT_EXPIRY (R63). -/
def execWaitLimitExpiry (claimId : Byte) (s : State) : Answer := .next (settle (expireWait claimId s))

/-- FORCE_RELEASE (R66). -/
def execForceRelease (link : Link) (tag : Byte) (claimId : Byte) (s : State) : Answer :=
  request (fixed link tag .forceRelease) (atOnce (forceReleaseBlock claimId)) s

/-- CLAIM_STATUS_ONE (R67). -/
def execClaimStatusOne (link : Link) (tag : Byte) (claimId : Byte) (kiosk : Option Byte) (s : State) : Answer :=
  request (fixedK link tag .claimStatus kiosk) (query (claimOneBlock link claimId)) s

/-- CLAIM_STATUS_LIST (R67). -/
def execClaimStatusList (link : Link) (tag : Byte) (claimId : Byte) (kiosk : Option Byte) (s : State) : Answer :=
  request (fixedK link tag .claimStatus kiosk) (query (claimListBlock link claimId kiosk)) s

end Sys2Proof.Machine
end

