-- ==== Sys2Proof/Machine/SpoolRequests.lean ====
section
/-!
DEFINITION. The commands of chapter 4: PRINT OPEN, PRINT DATA, PRINT CLOSE, PRINT CANCEL, the fill stall, JOB STATUS, SPOOL
STATUS, QUOTA SET and FILL LIMIT SET.
-/

namespace Sys2Proof.Machine

/-- The code of a job state (11.3). -/
def JobState.code : JobState → Nat
  | .filling => 1
  | .queued => 2
  | .feeding => 3
  | .draining => 4
  | .cancelling => 5
  | .done => 6
  | .failed => 7
  | .cancelled => 8

/-- The code of a job's cause; 0 is absent (11.3). -/
def causeCode : Option JobCause → Nat
  | none => 0
  | some .unitLost => 1
  | some .unitRemoved => 2
  | some .printerAbort => 3
  | some .fillStall => 4

/-- The job's place in its queue, FFh for a terminal job (R91, 11.4). -/
def jobPosition (s : State) (j : Job) : Nat := (position? (s.printQueue[j.slot]) j.id).getD 255

/-- Whether the job table has no room: 24 records and none of them terminal (R82). -/
def tableFull (s : State) : Bool := decide (24 ≤ s.jobs.length) && s.terminal.isEmpty

/-- PRINT OPEN on the slot a target gave (R82). -/
def openOn (k : Kiosk) (any : Bool) (i : Slot) (s : State) : State × List Byte :=
  if tableFull s then (s, reply .full (u8 1))
  else
    let out := createJob k any i s
    (out.2, reply .ok (u16n out.1 ++ u8 i.val ++ u8 (out.2.printQueue[i]).length))

/-- PRINT OPEN, its cases in the order of R82. -/
def printOpenBlock (target : Byte) (k : Kiosk) (s : State) : State × List Byte :=
  if target = 0xFF then
    match anyPrinter s none with
    | none => (s, reply .busy (u8 0))
    | some i => openOn k true i s
  else match index? 12 target.toNat with
    | none => (s, reply .badArg [])
    | some i =>
      if definedKind s i ≠ some .printer then (s, reply .noSuch [])
      else if 8 ≤ (s.printQueue[i]).length then (s, reply .full (u8 2))
      else openOn k false i s

/-- The cases a request about a kiosk's own job shares: no record, another kiosk's record (R83, R85, R86). -/
def onJob (id : Half) (k : Kiosk) (s : State) (f : Job → State × List Byte) : State × List Byte :=
  match job? s id.toNat with
  | none => (s, reply .noSuch [])
  | some j => if j.kiosk ≠ k then (s, reply .notYours []) else f j

/-- PRINT DATA (R83). -/
def printDataBlock (id : Half) (data : List Byte) (k : Kiosk) (s : State) : State × List Byte :=
  onJob id k s fun j =>
    if !j.isOpen then (s, reply .badState (u8 j.state.code))
    else
      let n := acceptedCount s j data.length
      let s' := acceptData j (data.take n) s
      if n = data.length then (s', reply .ok (u8 n))
      else (modQuota k (fun q => { q with wantRoom := true }) s', reply .partial_ (u8 n))

/-- The state of a job after its close (R85). -/
def JobState.closed : JobState → JobState
  | .filling => .queued
  | st => st

/-- PRINT CLOSE (R85). -/
def printCloseBlock (id : Half) (k : Kiosk) (s : State) : State × List Byte :=
  onJob id k s fun j =>
    if !j.isOpen then (s, reply .badState (u8 j.state.code))
    else
      (modJob j.id (fun j => { j with isOpen := false, state := j.state.closed }) s,
        reply .ok (counter32 j.spooled ++ u8 j.state.closed.code))

/-- PRINT CANCEL (R86, R87). -/
def printCancelBlock (id : Half) (k : Kiosk) (s : State) : State × List Byte :=
  onJob id k s fun j =>
    match j.state with
    | .filling => (cancelJob j s, reply .ok (u8 8))
    | .queued => (cancelJob j s, reply .ok (u8 8))
    | .feeding => (cancelJob j s, reply .ok (u8 5))
    | .draining => (cancelJob j s, reply .ok (u8 5))
    | st => (s, reply .badState (u8 st.code))

/-- An open job whose fill-stall expiry has been reached stalls (R88). -/
def expireFill (id : Half) (s : State) : State :=
  match job? s id.toNat with
  | none => s
  | some j => if j.isOpen && reached s.hubTime (stallTime s j) then stallJob j s else s

/-- A job record (R91, 11.4). -/
def jobRecord (s : State) (j : Job) (collected : Bool) : List Byte :=
  u16n j.id ++ u8 j.kiosk.val ++ u8 (if j.anyTarget then 255 else j.slot.val) ++ u8 j.slot.val ++ u8 j.state.code ++
    u8 (packFlags [j.isOpen, j.pages.isSome, j.cause.isSome, collected]) ++
    u8 (if j.state.isTerminal then 255 else jobPosition s j) ++ counter32 j.spooled ++ counter32 j.fed ++
    u16n j.chain.length ++ u16 (j.pages.getD 0) ++ u8 (causeCode j.cause)

/-- JOB STATUS (R91): with the collect flag a terminal record is removed after the reply is built. -/
def jobStatusBlock (l : Link) (id : Half) (collect : Byte) (s : State) : State × List Byte :=
  match job? s id.toNat with
  | none => (s, reply .noSuch [])
  | some j =>
    if (kioskOf l).any (fun k => decide (j.kiosk ≠ k)) then (s, reply .notYours [])
    else
      let collected := isSet collect && j.state.isTerminal
      (if collected then removeRecord j.id s else s, reply .ok (jobRecord s j collected))

/-- The kiosk's non-terminal jobs (R92, R95). -/
def liveJobs (s : State) (k : Kiosk) : List Job := s.jobs.filter fun j => j.kiosk = k && !j.state.isTerminal

/-- One line of SPOOL STATUS (R92, 11.4). -/
def spoolLine (s : State) (j : Job) : List Byte := u16n j.id ++ u8 j.state.code ++ u8 j.slot.val ++ u8 (jobPosition s j)

/-- SPOOL STATUS (R92). -/
def spoolStatusBlock (l : Link) (named : Option Byte) (s : State) : List Byte :=
  match subject l named with
  | none => reply .badArg []
  | some k =>
    let q := s.kioskSpool[k]
    let live := liveJobs s k
    let ended := (s.jobs.filter fun j => j.kiosk = k && j.state.isTerminal).length
    reply .ok (u16n s.free.length ++ u16n q.held ++ u16n q.quota ++ flagByte q.wantRoom ++ u32n s.fillLimit ++ u8 ended ++
      u8 live.length ++ live.flatMap (spoolLine s))

/-- QUOTA SET (R93). -/
def quotaSetBlock (kiosk : Byte) (quota : Half) (s : State) : State × List Byte :=
  match index? 8 kiosk.toNat with
  | none => (s, reply .badArg [])
  | some k =>
    let n := min 1024 quota.toNat
    let s' := wantRoomTest k (modQuota k (fun q => { q with quota := n }) s)
    (s', reply .ok (u16n n ++ u16n (s.kioskSpool[k]).held))

/-- FILL LIMIT SET (R94). -/
def fillLimitBlock (limit : Word) (s : State) : State × List Byte :=
  let n := max 1000 (min 120000 limit.toNat)
  ({ s with fillLimit := n }, reply .ok (u32n n))

/-- CLEAR KIOSK's part in the Spooler: the want-room flag, then the kiosk's jobs in ascending id (R95). -/
def clearJobs (k : Kiosk) (s : State) : State :=
  let s := modQuota k (fun q => { q with wantRoom := false }) s
  forEach (liveJobs s k) cancelJob s

/-! ### The commands -/

/-- PRINT_OPEN (R82). -/
def execPrintOpen (link : Link) (tag : Byte) (target : Byte) (s : State) : Answer :=
  request (fixed link tag .printOpen) (atOnce (forKiosk link (printOpenBlock target))) s

/-- PRINT_DATA (R83). -/
def execPrintData (link : Link) (tag : Byte) (jobId : Half) (data : List Byte) (s : State) : Answer :=
  request (listed link tag .printData (2 + data.length) 0) (atOnce (forKiosk link (printDataBlock jobId data))) s

/-- PRINT_CLOSE (R85). -/
def execPrintClose (link : Link) (tag : Byte) (jobId : Half) (s : State) : Answer :=
  request (fixed link tag .printClose) (atOnce (forKiosk link (printCloseBlock jobId))) s

/-- PRINT_CANCEL (R86, R87). -/
def execPrintCancel (link : Link) (tag : Byte) (jobId : Half) (s : State) : Answer :=
  request (fixed link tag .printCancel) (atOnce (forKiosk link (printCancelBlock jobId))) s

/-- FILL_STALL_EXPIRY (R88). -/
def execFillStallExpiry (jobId : Half) (s : State) : Answer := .next (settle (expireFill jobId s))

/-- JOB_STATUS (R91). -/
def execJobStatus (link : Link) (tag : Byte) (jobId : Half) (collect : Byte) (s : State) : Answer :=
  request (fixed link tag .jobStatus) (atOnce (jobStatusBlock link jobId collect)) s

/-- SPOOL_STATUS (R92). -/
def execSpoolStatus (link : Link) (tag : Byte) (kiosk : Option Byte) (s : State) : Answer :=
  request (fixedK link tag .spoolStatus kiosk) (query (spoolStatusBlock link kiosk)) s

/-- QUOTA_SET (R93). -/
def execQuotaSet (link : Link) (tag : Byte) (kiosk : Byte) (quota : Half) (s : State) : Answer :=
  request (fixed link tag .quotaSet) (atOnce (quotaSetBlock kiosk quota)) s

/-- FILL_LIMIT_SET (R94). -/
def execFillLimitSet (link : Link) (tag : Byte) (limit : Word) (s : State) : Answer :=
  request (fixed link tag .fillLimitSet) (atOnce (fillLimitBlock limit)) s

end Sys2Proof.Machine
end

