-- ==== Sys2Proof/Machine/FeedEvents.lean ====
section
/-!
DEFINITION. The commands of chapter 5: the completions of the Feed Engines' transactions.
-/

namespace Sys2Proof.Machine

/-- MARK_START_COMPLETE (R102). -/
def execMarkStartComplete (answer : UnitAnswer) (s : State) : Answer := completion .markStart answer s

/-- CREDIT_READ_COMPLETE (R103). -/
def execCreditReadComplete (answer : UnitAnswer) (s : State) : Answer := completion .credit answer s

/-- FEED_COMPLETE (R105). -/
def execFeedComplete (answer : UnitAnswer) (s : State) : Answer := completion .feed answer s

/-- MARK_END_COMPLETE (R106). -/
def execMarkEndComplete (answer : UnitAnswer) (s : State) : Answer := completion .markEnd answer s

/-- PSTATE_READ_COMPLETE (R107). -/
def execPstateReadComplete (answer : UnitAnswer) (s : State) : Answer := completion .pstate answer s

/-- MARK_ABORT_COMPLETE (R109). -/
def execMarkAbortComplete (answer : UnitAnswer) (s : State) : Answer := completion .markAbort answer s

end Sys2Proof.Machine
end

