-- ==== Sys2Proof/Machine/ScanRequests.lean ====
section
/-!
DEFINITION. The commands of chapter 6: SCAN START, SCAN CREDIT, SCAN STOP, SCAN STATUS and the completions of the Scan
Engines' transactions.
-/

namespace Sys2Proof.Machine

/-- The code of a scan state (11.3). -/
def ScanState.code : ScanState → Nat
  | .idle => 0
  | .preparing => 1
  | .running => 2
  | .ending => 3
  | .halting => 4

/-- The code of a scan outcome (11.3). -/
def ScanOutcome.code : ScanOutcome → Nat
  | .none => 0
  | .done => 1
  | .cancelled => 2
  | .lapsed => 3
  | .unitLost => 4
  | .unitFault => 5

/-- The scan mode of a code (11.3). -/
def scanMode? (b : Byte) : Option ScanMode :=
  if b = 1 then some .gray8 else if b = 2 then some .colour24 else if b = 3 then some .line1 else none

/-- The settings a SCAN START carries (11.4). -/
structure ScanSettings where
  x : Half
  y : Half
  w : Half
  h : Half
  resolution : Byte
  mode : Byte
  credit : Byte
  deriving DecidableEq, Repr

/-- The scanner's bed, width and height in mm: cap1 and cap2 of its IDENT data (R122); 0 when it has none, which refuses a
SCAN START (R121; notes/assumptions/24.md). -/
def bed (s : State) (i : Slot) : Nat × Nat :=
  match (s.units[i]).ident with
  | some d => (d.cap1.toNat, d.cap2.toNat)
  | none => (0, 0)

/-- An origin brought onto a bed (R122). -/
def clampOrigin (v size : Nat) : Nat := if size ≤ v then size - 1 else v

/-- An extent brought onto a bed (R122). -/
def clampExtent (v origin size : Nat) : Nat := if size - origin < v then size - origin else v

/-- The record a SCAN START that passes every case writes (R122). -/
def startRecord (r : ScanRecord) (claim : Nat) (k : Kiosk) (g : ScanSettings) (mode : ScanMode) (bedSize : Nat × Nat) :
    ScanRecord :=
  let x := clampOrigin g.x.toNat bedSize.1
  let y := clampOrigin g.y.toNat bedSize.2
  { r with
    state := .preparing, setup := some .sset, ownerClaim := some claim, kiosk := some k, lastKiosk := some k
    x := x, y := y, w := clampExtent g.w.toNat x bedSize.1, h := clampExtent g.h.toNat y bedSize.2
    resolution := g.resolution.toNat, mode := mode
    credit := min 32 g.credit.toNat, nextSeq := 0, delivered := 0, available := 0
    total := none, haltOutcome := none, lastOutcome := .none
    availWanted := false, stateWanted := false, haltOwed := false }

/-- The last case of R121: settings or a bed the scan cannot use. -/
def badSettings (g : ScanSettings) (bedSize : Nat × Nat) : Bool :=
  decide (g.resolution.toNat < 1) || decide (4 < g.resolution.toNat) || (scanMode? g.mode).isNone ||
    decide (g.w = 0) || decide (g.h = 0) || decide (bedSize.1 = 0) || decide (bedSize.2 = 0)

/-- The clamped settings and the granted credit of a record (11.4). -/
def settingsBytes (r : ScanRecord) : List Byte := ssetBytes r ++ u8 r.credit

/-- SCAN START, its cases in the order of R121. -/
def scanStartBlock (slot : Byte) (g : ScanSettings) (k : Kiosk) (s : State) : State × List Byte :=
  match index? 12 slot.toNat with
  | none => (s, reply .badArg [])
  | some i =>
    if definedKind s i ≠ some .scanner then (s, reply .noSuch [])
    else match claimOf? s k (.scanner i) with
      | none => (s, reply .notYours [])
      | some c =>
        if !c.held then (s, reply .badState (u8 c.stateCode))
        else if (s.scans[i]).state ≠ .idle then (s, reply .badState (u8 (s.scans[i]).state.code))
        else if !isReady s i then (s, reply .busy (u8 1))
        else if 0 < framesWaiting s k i then (s, reply .busy (u8 2))
        else if badSettings g (bed s i) then (s, reply .badArg [])
        else
          let r := startRecord s.scans[i] c.id k g ((scanMode? g.mode).getD .gray8) (bed s i)
          (modScan i (fun _ => r) s, reply .ok (settingsBytes r))

/-- The cases SCAN CREDIT and SCAN STOP share (R128, R129). -/
def onScan (slot : Byte) (k : Kiosk) (s : State) (f : Slot → State × List Byte) : State × List Byte :=
  match index? 12 slot.toNat with
  | none => (s, reply .badArg [])
  | some i =>
    if definedKind s i ≠ some .scanner then (s, reply .noSuch [])
    else if (s.scans[i]).state = .idle then (s, reply .badState (u8 ScanState.idle.code))
    else if (s.scans[i]).kiosk ≠ some k then (s, reply .notYours [])
    else f i

/-- The credit after a grant of n: at most 32 minus the frames waiting; a credit at or above that bound is left (R128). -/
def grantedCredit (credit n waiting : Nat) : Nat := if 32 - waiting ≤ credit then credit else min (credit + n) (32 - waiting)

/-- SCAN CREDIT (R128). -/
def scanCreditBlock (slot n : Byte) (k : Kiosk) (s : State) : State × List Byte :=
  onScan slot k s fun i =>
    let c := grantedCredit (s.scans[i]).credit n.toNat (framesWaiting s k i)
    (modScan i (fun r => { r with credit := c }) s, reply .ok (u8 c))

/-- SCAN STOP (R129). -/
def scanStopBlock (slot : Byte) (k : Kiosk) (s : State) : State × List Byte :=
  onScan slot k s fun i =>
    if (s.scans[i]).state = .halting then (s, reply .badState (u8 ScanState.halting.code))
    else (haltScan i .cancelled s, reply .ok [])

/-- The frames waiting of the current or last scan of a slot: those of the slot in the queue of that scan's kiosk (R120,
R193; after a scan has ended, notes/assumptions/28.md). -/
def scanFramesWaiting (s : State) (i : Slot) : Nat :=
  let r := s.scans[i]
  (r.kiosk.or r.lastKiosk).elim 0 fun k => framesWaiting s k i

/-- The scan record of a SCAN STATUS reply (R133, R201, 11.4). -/
def scanStatusRecord (s : State) (i : Slot) : List Byte :=
  let r := s.scans[i]
  let ident := (s.units[i]).ident
  u8 r.state.code ++ u8 (r.ownerClaim.getD 0) ++ orNone r.kiosk ++ ssetBytes r ++ u8 r.credit ++ u8 (scanFramesWaiting s i) ++
    u16 r.nextSeq ++ counter32 r.delivered ++ u8 r.available ++ u16 (r.total.getD 0) ++ u8 r.lastOutcome.code ++
    u8 (packFlags [r.total.isSome, ident.isSome]) ++ u16n (bed s i).1 ++ u16n (bed s i).2

/-- SCAN STATUS (R133). -/
def scanStatusBlock (slot : Byte) (s : State) : List Byte :=
  match index? 12 slot.toNat with
  | none => reply .badArg []
  | some i =>
    if definedKind s i ≠ some .scanner then reply .noSuch [] else reply .ok (scanStatusRecord s i)

/-! ### The commands -/

/-- SCAN_START (R121, R122). -/
def execScanStart (link : Link) (tag : Byte) (slot : Byte) (x y w h : Half) (resolution mode credit : Byte) (s : State) :
    Answer :=
  request (fixed link tag .scanStart)
    (atOnce (forKiosk link (scanStartBlock slot
      { x := x, y := y, w := w, h := h, resolution := resolution, mode := mode, credit := credit }))) s

/-- SCAN_CREDIT (R128). -/
def execScanCredit (link : Link) (tag : Byte) (slot n : Byte) (s : State) : Answer :=
  request (fixed link tag .scanCredit) (atOnce (forKiosk link (scanCreditBlock slot n))) s

/-- SCAN_STOP (R129). -/
def execScanStop (link : Link) (tag : Byte) (slot : Byte) (s : State) : Answer :=
  request (fixed link tag .scanStop) (atOnce (forKiosk link (scanStopBlock slot))) s

/-- SCAN_STATUS (R133). -/
def execScanStatus (link : Link) (tag : Byte) (slot : Byte) (s : State) : Answer :=
  request (fixed link tag .scanStatus) (query (scanStatusBlock slot)) s

/-- SSET_COMPLETE (R122). -/
def execSsetComplete (answer : UnitAnswer) (s : State) : Answer := completion .sset answer s

/-- SGO_COMPLETE (R122). -/
def execSgoComplete (answer : UnitAnswer) (s : State) : Answer := completion .sgo answer s

/-- AVAIL_READ_COMPLETE (R126). -/
def execAvailReadComplete (answer : UnitAnswer) (s : State) : Answer := completion .avail answer s

/-- PULL_COMPLETE (R126). -/
def execPullComplete (answer : UnitAnswer) (s : State) : Answer := completion .pull answer s

/-- SSTATE_READ_COMPLETE (R127). -/
def execSstateReadComplete (answer : UnitAnswer) (s : State) : Answer := completion .sstate answer s

/-- SHALT_COMPLETE (R129). -/
def execShaltComplete (answer : UnitAnswer) (s : State) : Answer := completion .shalt answer s

end Sys2Proof.Machine
end

