-- ==== Sys2Proof/Machine/UnitRequests.lean ====
section
/-!
DEFINITION. The commands of chapter 7: UNIT DEFINE, UNIT REMOVE, UNIT STATUS, ATTN SET, the completions of probes and of
cause polls, the re-probe timer and the attention lines.
-/

namespace Sys2Proof.Machine

/-- The code of a slot's state (11.3). -/
def unitStateCode : Option UnitState → Nat
  | none => 0
  | some .probing => 1
  | some .ready => 2
  | some .lost => 3
  | some .mismatch => 4

/-- The unit kind of a code (11.3). -/
def unitKind? (b : Byte) : Option UnitKind :=
  if b = 1 then some .printer else if b = 2 then some .scanner else if b = 3 then some .panel else none

/-- The attention mode of a code (11.3). -/
def attnMode? (b : Byte) : Option AttnMode :=
  if b = 0 then some .levelLow else if b = 1 then some .levelHigh else if b = 2 then some .edgeFall
  else if b = 3 then some .edgeRise else none

/-- The code of an attention mode (11.3). -/
def AttnMode.code : AttnMode → Nat
  | .levelLow => 0
  | .levelHigh => 1
  | .edgeFall => 2
  | .edgeRise => 3

/-- The defined slot that has an address (R135, R137). -/
def addressHolder (s : State) (address : Nat) : Option Slot :=
  (indices 12).find? fun i => (s.units[i]).definition.any fun d => decide (d.address = address)

/-- The engines of a slot take their reset values, and its printer queue is empty (R98, R118, R26, R80). -/
def freshEngines (i : Slot) (s : State) : State :=
  let s := modPanel i (fun _ => .reset) (modScan i (fun _ => .reset) (modFeed i (fun _ => .reset) s))
  { s with printQueue := upd s.printQueue i fun _ => [] }

/-- Define an UNDEFINED slot: PROBING with probe step PING, its pending flag clear, its engine new, its PING posted
(R137). -/
def defineSlot (i : Slot) (address : Nat) (kind : UnitKind) (mode : AttnMode) (enable : Bool) (s : State) : State :=
  let s := modUnit i (fun _ =>
    { definition := some { address := address, kind := kind, state := .probing }, mode := mode, enable := enable,
      failures := 0, probe := some .ping, reprobe := none, ident := none }) s
  let s := modAttn i (fun a => { a with pending := false }) s
  postProbe i .ping (freshEngines i s)

/-- UNIT DEFINE, its cases in the order of R137. -/
def unitDefineBlock (slot address kind mode enable : Byte) (s : State) : State × List Byte :=
  match index? 12 slot.toNat with
  | none => (s, reply .badArg (u8 1))
  | some i =>
    if (unitState s i).isSome then (s, reply .badState (u8 (unitStateCode (unitState s i))))
    else if address.toNat = 0 ∨ 119 < address.toNat then (s, reply .badArg (u8 2))
    else match addressHolder s address.toNat with
      | some j => (s, reply .badArg (u8 2 ++ u8 j.val))
      | none =>
        match unitKind? kind, attnMode? mode with
        | none, _ => (s, reply .badArg (u8 3))
        | some _, none => (s, reply .badArg (u8 4))
        | some k, some m => (defineSlot i address.toNat k m (isSet enable) s, reply .ok [])

/-- The transaction of a removed slot in flight is orphaned (R162). -/
def orphan (i : Slot) (s : State) : State :=
  match s.bus with
  | .running t => if t.slot = some i then { s with bus := .running { t with orphaned := true } } else s
  | _ => s

/-- The work of a removed slot is torn down by its kind (R142 stage 2). -/
def tearDownRemoved (i : Slot) (k : UnitKind) (s : State) : State :=
  match k with
  | .panel => clearPanelZones i (panelGone i s)
  | .printer => printerRemoved i s
  | .scanner => removeResource (.scanner i) (scannerGone i s)

/-- Remove a defined slot, in the stages of R142. -/
def removeSlot (i : Slot) (k : UnitKind) (s : State) : State :=
  let s := orphan i (withdraw i (modUnit i (fun u => { u with reprobe := none }) s))
  let s := freshEngines i (tearDownRemoved i k s)
  let s := modUnit i (fun u =>
    { u with definition := none, ident := none, failures := 0, probe := none, enable := false }) s
  latchAll .unitChanged (modAttn i (fun a => { a with pending := false }) s)

/-- UNIT REMOVE (R142). -/
def unitRemoveBlock (slot : Byte) (s : State) : State × List Byte :=
  match index? 12 slot.toNat with
  | none => (s, reply .badArg [])
  | some i =>
    match definedKind s i with
    | none => (s, reply .noSuch [])
    | some k => (removeSlot i k s, reply .ok (u8 (unitStateCode (unitState s i))))

/-- The re-probe time of a unit record: the time until the timer of a LOST slot expires, FFFFh for none (R143, 11.4;
notes/assumptions/16.md). -/
def reprobeBytes (s : State) (u : UnitSlot) (d : UnitDef) : List Byte :=
  match d.state, u.reprobe with
  | .lost, some t =>
    u16 (if (t - s.hubTime).toNat < 65535 then (t - s.hubTime).setWidth 16 else Config.reprobePast16 (t - s.hubTime).toNat)
  | _, _ => u16 0xFFFF

/-- The IDENT data of a unit record, 0 when absent (11.4). -/
def identBytes : Option Ident → List Byte
  | none => List.replicate 8 0
  | some d => [d.kind] ++ u16 d.model ++ [d.revision] ++ u16 d.cap1 ++ u16 d.cap2

/-- A unit record (R143, 11.4): an UNDEFINED slot's carries its state and its pending flag. -/
def unitRecord (s : State) (i : Slot) : List Byte :=
  let u := s.units[i]
  let pending := (s.attn[i]).pending
  match u.definition with
  | none => u8 0 ++ u8 0 ++ u8 0 ++ u8 0 ++ u8 (packFlags [false, pending, false]) ++ u8 0 ++ u16 0 ++ identBytes none
  | some d =>
    u8 (unitStateCode (some d.state)) ++ u8 d.address ++ [d.kind.code] ++ u8 u.mode.code ++
      u8 (packFlags [u.enable, pending, u.ident.isSome]) ++ u8 u.failures ++ reprobeBytes s u d ++ identBytes u.ident

/-- UNIT STATUS (R143). -/
def unitStatusBlock (s : State) : List Byte := reply .ok ((indices 12).flatMap (unitRecord s))

/-- The new mode and enable; a change of mode clears the pending flag, and the new mode's rule applies at once (R149). The
capture time held stays, and a cause poll already on the board that is granted with the flag still clear carries it (DEDUCED,
notes/assumptions/34.md). -/
def setAttention (i : Slot) (mode : AttnMode) (enable : Bool) (s : State) : State :=
  let changed := decide ((s.units[i]).mode ≠ mode)
  let s := modUnit i (fun u => { u with mode := mode, enable := enable }) s
  if changed then levelRule i (modAttn i (fun a => { a with pending := false }) s) else s

/-- ATTN SET (R149). -/
def attnSetBlock (slot mode enable : Byte) (s : State) : State × List Byte :=
  match index? 12 slot.toNat, attnMode? mode with
  | some i, some m =>
    if (unitState s i).isNone then (s, reply .noSuch [])
    else
      let s' := setAttention i m (isSet enable) s
      (s', reply .ok (flagByte (s'.attn[i]).pending))
  | _, _ => (s, reply .badArg [])

/-- The re-probe timer of a LOST slot expires when hub time has reached it: the timer stops and a PING is posted (R139). -/
def expireReprobe (i : Slot) (s : State) : State :=
  match unitState s i, (s.units[i]).reprobe with
  | some .lost, some t =>
    if reached s.hubTime t then
      postProbe i .ping (modUnit i (fun u => { u with reprobe := none, probe := some .ping }) s)
    else s
  | _, _ => s

/-- An attention line is now at a level: in an edge mode a change in the chosen direction sets the pending flag (R144). -/
def lineChange (i : Slot) (high : Bool) (s : State) : State :=
  let before := s.attnLine[i]
  let s := { s with attnLine := upd s.attnLine i fun _ => high }
  match (s.units[i]).mode with
  | .edgeFall => if before && !high then call i s else s
  | .edgeRise => if !before && high then call i s else s
  | _ => s

/-- An attention line changes (R144); while a full reset lasts nothing latches (R152). -/
def attentionChange (i : Slot) (high : Bool) (s : State) : State :=
  if s.phase = .full then { s with attnLine := upd s.attnLine i fun _ => high } else lineChange i high s

/-! ### The commands -/

/-- UNIT_DEFINE (R137). -/
def execUnitDefine (link : Link) (tag : Byte) (slot address kind mode enable : Byte) (s : State) : Answer :=
  request (fixed link tag .unitDefine) (atOnce (unitDefineBlock slot address kind mode enable)) s

/-- UNIT_REMOVE (R142). -/
def execUnitRemove (link : Link) (tag : Byte) (slot : Byte) (s : State) : Answer :=
  request (fixed link tag .unitRemove) (atOnce (unitRemoveBlock slot)) s

/-- UNIT_STATUS (R143). -/
def execUnitStatus (link : Link) (tag : Byte) (s : State) : Answer :=
  request (fixed link tag .unitStatus) (query unitStatusBlock) s

/-- ATTN_SET (R149). -/
def execAttnSet (link : Link) (tag : Byte) (slot mode enable : Byte) (s : State) : Answer :=
  request (fixed link tag .attnSet) (atOnce (attnSetBlock slot mode enable)) s

/-- PING_COMPLETE (R138). -/
def execPingComplete (answer : UnitAnswer) (s : State) : Answer := completion .ping answer s

/-- RESTART_COMPLETE (R138). -/
def execRestartComplete (answer : UnitAnswer) (s : State) : Answer := completion .restart answer s

/-- IDENT_COMPLETE (R138). -/
def execIdentComplete (answer : UnitAnswer) (s : State) : Answer := completion .ident answer s

/-- REPROBE_TIMER_EXPIRY (R139). -/
def execReprobeTimerExpiry (slot : Slot) (s : State) : Answer := .next (settle (expireReprobe slot s))

/-- ATTN_LINE_CHANGE (R144). -/
def execAttnLineChange (slot : Slot) (high : Bool) (s : State) : Answer := .next (settle (attentionChange slot high s))

/-- CAUSE_POLL_COMPLETE (R148). -/
def execCausePollComplete (answer : UnitAnswer) (s : State) : Answer := completion .cause answer s

end Sys2Proof.Machine
end

