-- ==== Sys2Proof/Machine/BusRequests.lean ====
section
/-!
DEFINITION. The commands of chapter 8: BUS RAW and its completion, BUS ABORT, the stall timer and the release sequence.
-/

namespace Sys2Proof.Machine

/-! ### BUS RAW (R167) -/

/-- The transaction kind of a code (11.3). -/
def busKind? (b : Byte) : Option BusKind :=
  if b = 1 then some .ping else if b = 2 then some .read else if b = 3 then some .write else none

/-- The posting of a BUS RAW: minimum count 0; the command of a PING is read and not used (R167, R200). -/
def rawPosting (kind : BusKind) (address command : Byte) (data : List Byte) : Posting :=
  { owner := .service, kind := kind, address := address.toNat, command := if kind = .ping then 0 else command,
    data := if kind = .write then data else [], minCount := 0, rank := .service, aging := 0 }

/-- BUS RAW, its cases in the order of R167. An accepted one keeps its request slot until its transaction ends. -/
def busRawBlock (kind : Option BusKind) (address command : Byte) (data : List Byte) (r : ReqSlot) (s : State) :
    State × BlockAnswer :=
  if s.busRaw.isSome then (s, .now (reply .busy (u8 0)))
  else match kind with
    | none => (s, .now (reply .badArg []))
    | some k =>
      if 127 < address.toNat then (s, .now (reply .badArg []))
      else ({ s with servicePlace := some (rawPosting k address command data), busRaw := some r }, .later)

/-- The transaction of the service pass-through ends by itself, whichever of its three kinds it is (R167). -/
def completeRaw (a : UnitAnswer) (s : State) : State :=
  match s.bus with
  | .running t =>
    if t.owner = .service then
      let t := { t with progress := wireProgress t a }
      endTransaction t (wireOutcome t a) s
    else s
  | _ => s

/-! ### BUS ABORT (R168) -/

/-- The code of the owner of a transaction (11.3). -/
def Owner.code : Owner → Nat
  | .cause => 1
  | .engine => 2
  | .probe => 3
  | .service => 4

/-- BUS ABORT: the transaction in flight ends ABORTED at once, wherever it stands: how far it had got is a free value
(notes/assumptions/6.md). The reply of a BUS RAW so ended is queued before the reply of the BUS ABORT
(notes/assumptions/29.md). -/
def busAbortBlock (s : State) : State × List Byte :=
  match s.bus with
  | .running t =>
    let n := s.freeDrawn
    let t := { t with progress := cutProgress t (Config.abortSent n) (Config.abortReceived n) }
    (endTransaction t .aborted { s with freeDrawn := n + 1 }, reply .ok (u8 t.owner.code ++ orNone t.slot))
  | _ => (s, reply .ok (u8 0 ++ u8 255))

/-! ### Stalls and recovery (R160, R161) -/

/-- The stall timer of a byte expires: the transaction ends STALLED with what had crossed the wires. The timer of its
first byte is the earliest that can expire (R160; notes/assumptions/5.md). -/
def expireStall (sent : Nat) (received : List Byte) (s : State) : State :=
  match s.bus with
  | .running t =>
    if reached s.hubTime t.stallAt then endTransaction { t with progress := cutProgress t sent received } .stalled s
    else s
  | _ => s

/-- A soft reset learns that its release sequence has ended (R198). -/
def ResetPhase.release : ResetPhase → ResetPhase
  | .soft r _ => .soft r true
  | p => p

/-- The controller leaves RECOVERING (R153, R161). -/
def endRecovery (s : State) : State := { s with bus := .idle, phase := ResetPhase.release s.phase }

/-- The release sequence ends with its stop condition (R161). -/
def endRelease (s : State) : State :=
  match s.bus with
  | .recovering _ => endRecovery s
  | _ => s

/-- The clock line is still low after 30 ms (R161). -/
def giveUpRelease (s : State) : State :=
  match s.bus with
  | .recovering e => if reached s.hubTime e then endRecovery s else s
  | _ => s

/-! ### The commands -/

/-- BUS_RAW_PING (R167). -/
def execBusRawPing (link : Link) (tag : Byte) (address command : Byte) (s : State) : Answer :=
  request (listed link tag .busRaw 3 1) (busRawBlock (some .ping) address command []) s

/-- BUS_RAW_READ (R167). -/
def execBusRawRead (link : Link) (tag : Byte) (address command : Byte) (s : State) : Answer :=
  request (listed link tag .busRaw 3 2) (busRawBlock (some .read) address command []) s

/-- BUS_RAW_WRITE (R167). -/
def execBusRawWrite (link : Link) (tag : Byte) (address command : Byte) (data : List Byte) (s : State) : Answer :=
  request (listed link tag .busRaw (3 + data.length) 3) (busRawBlock (some .write) address command data) s

/-- BUS_RAW_COMPLETE (R167). -/
def execBusRawComplete (answer : UnitAnswer) (s : State) : Answer := .next (settle (completeRaw answer s))

/-- BUS_ABORT (R168). -/
def execBusAbort (link : Link) (tag : Byte) (s : State) : Answer :=
  request (fixed link tag .busAbort) (atOnce busAbortBlock) s

/-- STALL_TIMER_EXPIRY (R160). -/
def execStallTimerExpiry (sent : Nat) (received : List Byte) (s : State) : Answer :=
  .next (settle (expireStall sent received s))

/-- RELEASE_SEQUENCE_END (R161). -/
def execReleaseSequenceEnd (s : State) : Answer := .next (settle (endRelease s))

/-- RELEASE_WAIT_TIMEOUT (R161). -/
def execReleaseWaitTimeout (s : State) : Answer := .next (settle (giveUpRelease s))

end Sys2Proof.Machine
end

