-- ==== Sys2Proof/Machine/NoticeRequests.lean ====
section
/-!
DEFINITION. The commands of chapter 9: NOTICE ARM, DISARM, HOLD, RELEASE, PEEK, TAKE, NOTICE MAINTAIN MASK and FORCE
NOTICE.
-/

namespace Sys2Proof.Machine

/-- NOTICE ARM and NOTICE DISARM share their cases: the set is judged, E changes, the reply carries E and P (R176). -/
def changeEnabled (f : ClassSet → ClassSet → ClassSet) (classes : Half) (k : Kiosk) (s : State) : State × List Byte :=
  match classes? classes with
  | none => (s, reply .badArg [])
  | some c =>
    let e := f (s.notices[k]).enabled c
    (modNotice k (fun n => { n with enabled := e }) s, reply .ok (classBytes e ++ classBytes (s.notices[k]).pending))

/-- NOTICE ARM (R176). -/
def noticeArmBlock (classes : Half) (k : Kiosk) (s : State) : State × List Byte :=
  changeEnabled (fun e c => e ||| c) classes k s

/-- NOTICE DISARM (R176). -/
def noticeDisarmBlock (classes : Half) (k : Kiosk) (s : State) : State × List Byte :=
  changeEnabled (fun e c => e &&& ~~~c) classes k s

/-- NOTICE HOLD and NOTICE RELEASE: the hold flag takes a value, and the reply carries it (R177). -/
def setHold (h : Bool) (k : Kiosk) (s : State) : State × List Byte :=
  (modNotice k (fun n => { n with hold := h }) s, reply .ok (flagByte h))

/-- NOTICE PEEK (R178, 11.4). -/
def noticePeekBlock (l : Link) (named : Option Byte) (s : State) : List Byte :=
  match subject l named with
  | none => reply .badArg []
  | some k =>
    let n := s.notices[k]
    reply .ok (classBytes n.pending ++ classBytes n.enabled ++ classBytes n.mask ++
      u8 (packFlags [n.hold, (s.kiosks[k]).maintenance, n.forced.isSome]))

/-- NOTICE TAKE (R178). -/
def noticeTakeBlock (k : Kiosk) (s : State) : State × List Byte :=
  (modNotice k (fun n => { n with pending := 0 }) s, reply .ok (classBytes (s.notices[k]).pending))

/-- NOTICE MAINTAIN MASK (R179). -/
def maintainMaskBlock (kiosk : Byte) (classes : Half) (s : State) : State × List Byte :=
  match index? 8 kiosk.toNat, classes? classes with
  | some k, some c => (modNotice k (fun n => { n with mask := c }) s, reply .ok (classBytes c))
  | _, _ => (s, reply .badArg [])

/-- FORCE NOTICE (R180). -/
def forceNoticeBlock (kiosk : Byte) (classes word : Half) (s : State) : State × List Byte :=
  match index? 8 kiosk.toNat, classes? classes with
  | some k, some c =>
    if (s.notices[k]).forced.isSome then (s, reply .busy (u8 0))
    else (modNotice k (fun n => { n with forced := some (c, word) }) s, reply .ok [])
  | _, _ => (s, reply .badArg [])

/-! ### The commands -/

/-- NOTICE_ARM (R176). -/
def execNoticeArm (link : Link) (tag : Byte) (classes : Half) (s : State) : Answer :=
  request (fixed link tag .noticeArm) (atOnce (forKiosk link (noticeArmBlock classes))) s

/-- NOTICE_DISARM (R176). -/
def execNoticeDisarm (link : Link) (tag : Byte) (classes : Half) (s : State) : Answer :=
  request (fixed link tag .noticeDisarm) (atOnce (forKiosk link (noticeDisarmBlock classes))) s

/-- NOTICE_HOLD (R177). -/
def execNoticeHold (link : Link) (tag : Byte) (s : State) : Answer :=
  request (fixed link tag .noticeHold) (atOnce (forKiosk link (setHold true))) s

/-- NOTICE_RELEASE (R177). -/
def execNoticeRelease (link : Link) (tag : Byte) (s : State) : Answer :=
  request (fixed link tag .noticeRelease) (atOnce (forKiosk link (setHold false))) s

/-- NOTICE_PEEK (R178). -/
def execNoticePeek (link : Link) (tag : Byte) (kiosk : Option Byte) (s : State) : Answer :=
  request (fixedK link tag .noticePeek kiosk) (query (noticePeekBlock link kiosk)) s

/-- NOTICE_TAKE (R178). -/
def execNoticeTake (link : Link) (tag : Byte) (s : State) : Answer :=
  request (fixed link tag .noticeTake) (atOnce (forKiosk link noticeTakeBlock)) s

/-- NOTICE_MAINTAIN_MASK (R179). -/
def execNoticeMaintainMask (link : Link) (tag : Byte) (kiosk : Byte) (classes : Half) (s : State) : Answer :=
  request (fixed link tag .noticeMaintainMask) (atOnce (maintainMaskBlock kiosk classes)) s

/-- FORCE_NOTICE (R180). -/
def execForceNotice (link : Link) (tag : Byte) (kiosk : Byte) (classes word : Half) (s : State) : Answer :=
  request (fixed link tag .forceNotice) (atOnce (forceNoticeBlock kiosk classes word)) s

end Sys2Proof.Machine
end

