-- ==== Sys2Proof/Machine/LinkRequests.lean ====
section
/-!
DEFINITION. The link-level requests of chapter 10: ECHO, HUB IDENT, LINK STATUS, CLEAR KIOSK and MAINTAIN.
-/

namespace Sys2Proof.Machine

/-- HUB IDENT: the codes, the link and the sizes of the hub's tables (R194, 11.4). -/
def hubIdentBlock (l : Link) (_ : State) : List Byte :=
  reply .ok (u16 0x0D7A ++ u16 0x0318 ++ u8 1 ++ u8 l.val ++ u8 32 ++ u8 40 ++ u8 24 ++ u8 24 ++ u16n 1024 ++ u8 48 ++
    u8 12 ++ u8 4 ++ u8 16)

/-! ### LINK STATUS (R195) -/

/-- The link a LINK STATUS reports: its own on a kiosk link, the named one on S; none is BAD_ARG (R195). -/
def reportedLink (l : Link) (named : Option Byte) : Option Link :=
  match kioskOf l with
  | some _ => some l
  | none => named.bind fun b => index? 9 b.toNat

/-- How many request slots of a link are held (R195). -/
def slotsHeld (s : State) (l : Link) : Nat := ((indices 4).filter fun r => ((s.links[l]).requests[r]).isSome).length

/-- The fields of a LINK STATUS reply; the last two bits and the two counts are 0 for S (11.4). -/
def linkReport (s : State) (l : Link) : List Byte :=
  let k := s.links[l]
  match kioskOf l with
  | none => u8 (packFlags [k.lenOverlong, k.check, k.dropped, false, false]) ++ u8 (slotsHeld s l) ++ u8 0 ++ u16n 0
  | some n =>
    let q := s.kiosks[n]
    u8 (packFlags [k.lenOverlong, k.check, k.dropped, q.maintenance, q.gap]) ++ u8 (slotsHeld s l) ++
      u8 q.touch.length ++ u16n q.scan.length

/-- LINK STATUS: the three fault flags of the reported link are cleared after the reply is built (R195). -/
def linkStatusBlock (l : Link) (named : Option Byte) (s : State) : State × List Byte :=
  match reportedLink l named with
  | none => (s, reply .badArg [])
  | some r => (clearFaults r s, reply .ok (linkReport s r))

/-! ### CLEAR KIOSK (R196) -/

/-- Whether a scan of a kiosk is on and not yet halting. -/
def scanOf (s : State) (k : Kiosk) (i : Slot) : Bool := (s.scans[i]).state.active && decide ((s.scans[i]).kiosk = some k)

/-- The scans CLEAR KIOSK halts: those of the kiosk that were active before its claims went and are not after
(notes/assumptions/23.md). -/
def scansHalted (before after : State) (k : Kiosk) : Nat :=
  ((indices 12).filter fun i => scanOf before k i && !scanOf after k i).length

/-- The jobs CLEAR KIOSK makes CANCELLED or CANCELLING: the kiosk's non-terminal jobs that are not CANCELLING already
(R95). -/
def jobsToCancel (s : State) (k : Kiosk) : Nat :=
  ((liveJobs s k).filter fun j => decide (j.state ≠ .cancelling)).length

/-- The Link Interface's part (R196 stage 4). -/
def clearLink (k : Kiosk) (s : State) : State :=
  modKiosk k (fun q => { q with touch := [], scan := [], gap := false, streak := 0 }) s

/-- The Notice Controller's part (R181). -/
def clearNotices (k : Kiosk) (s : State) : State :=
  modNotice k (fun n => { n with pending := 0, enabled := 0, hold := false }) s

/-- The blocks act in the order of R196. -/
def clearAll (k : Kiosk) (s : State) : State :=
  clearNotices k (clearLink k (clearJobs k (muteKiosk k (clearClaims k s))))

/-- CLEAR KIOSK (R196). -/
def clearKioskBlock (l : Link) (named : Option Byte) (s : State) : State × List Byte :=
  match subject l named with
  | none => (s, reply .badArg [])
  | some k =>
    (clearAll k s,
      reply .ok (u8 (s.claims.filter fun c => decide (c.kiosk = k)).length ++ u8 (jobsToCancel s k) ++
        u8 (scansHalted s (clearClaims k s) k)))

/-! ### MAINTAIN (R197) -/

/-- MAINTAIN with a setting; the reply carries the flag as it stood before (R197). -/
def maintainBlock (kiosk : Byte) (on : Bool) (s : State) : State × List Byte :=
  match index? 8 kiosk.toNat with
  | none => (s, reply .badArg [])
  | some k => (modKiosk k (fun q => { q with maintenance := on }) s, reply .ok (flagByte (s.kiosks[k]).maintenance))

/-! ### The commands -/

/-- ECHO (R194). -/
def execEcho (link : Link) (tag : Byte) (data : List Byte) (s : State) : Answer :=
  request (listed link tag .echo data.length 0) (query fun _ => reply .ok data) s

/-- HUB_IDENT (R194). -/
def execHubIdent (link : Link) (tag : Byte) (s : State) : Answer :=
  request (fixed link tag .hubIdent) (query (hubIdentBlock link)) s

/-- LINK_STATUS (R195). -/
def execLinkStatus (link : Link) (tag : Byte) (target : Option Byte) (s : State) : Answer :=
  request (fixedK link tag .linkStatus target) (atOnce (linkStatusBlock link target)) s

/-- CLEAR_KIOSK (R196). -/
def execClearKiosk (link : Link) (tag : Byte) (kiosk : Option Byte) (s : State) : Answer :=
  request (fixedK link tag .clearKiosk kiosk) (atOnce (clearKioskBlock link kiosk)) s

/-- MAINTAIN_ON (R197). -/
def execMaintainOn (link : Link) (tag : Byte) (kiosk : Byte) (s : State) : Answer :=
  request (fixed link tag .maintain) (atOnce (maintainBlock kiosk true)) s

/-- MAINTAIN_OFF (R197). -/
def execMaintainOff (link : Link) (tag : Byte) (kiosk : Byte) (s : State) : Answer :=
  request (fixed link tag .maintain) (atOnce (maintainBlock kiosk false)) s

end Sys2Proof.Machine
end

