-- ==== Sys2Proof/Machine/Resets.lean ====
section
/-!
DEFINITION. The resets (R198, R199): power-on, the RESET input, RESET FULL and its completion, RESET SOFT and its
completion, with the reset values of every block.
-/

namespace Sys2Proof.Machine

/-! ### Full reset -/

/-- Every block takes its full-reset values, and a full reset goes on until FULL_RESET_COMPLETE (R198; what is outside
the hub stays: the input pins, the commands that wait, the free values drawn; notes/assumptions/19.md). -/
def fullReset (s : State) : State :=
  { State.reset with
    pending := s.pending, phase := .full, resetLow := s.resetLow, powerOnHold := s.powerOnHold, attnLine := s.attnLine
    freeDrawn := s.freeDrawn }

/-- Power-on detection starts a full reset and holds the hub in it (R198). -/
def powerUp (s : State) : State := { fullReset s with powerOnHold := true }

/-- The RESET input is driven low (R198). -/
def assertReset (s : State) : State := { fullReset s with resetLow := true }

/-- The RESET input is high and power-on detection has released the hub: the full reset completes (R198). -/
def finishFull (s : State) : State :=
  if s.phase = .full then { s with phase := .running, resetLow := false, powerOnHold := false } else s

/-! ### Soft reset -/

/-- A slot at a soft reset: a defined one is probed afresh and keeps its definition, mode, enable and IDENT data (R151,
R152). -/
def UnitSlot.softReset (u : UnitSlot) : UnitSlot :=
  match u.definition with
  | none => u
  | some d => { u with
      definition := some { d with state := .probing }, failures := 0, probe := some .ping, reprobe := none }

/-- A link at a soft reset: the frame being sent goes on to its end, and everything else is dropped (R198, R199). -/
def LinkState.softReset (k : LinkState) : LinkState :=
  { LinkState.reset with sending := k.sending.map fun f => { f with slot := none } }

/-- The links at a soft reset: S keeps the slot of the RESET SOFT (R198). -/
def softLinks (r : ReqSlot) (s : State) : Vector LinkState 9 :=
  upd (mapAll s.links LinkState.softReset) serviceLink fun k =>
    { k with requests := upd k.requests r fun _ => (s.links[serviceLink]).requests[r] }

/-- A kiosk's notice state at a soft reset: the mask is kept (R182). -/
def NoticeState.softReset (n : NoticeState) : NoticeState := { NoticeState.reset with mask := n.mask }

/-- A kiosk's spool figures at a soft reset: the quota is kept (R97). -/
def KioskSpool.softReset (q : KioskSpool) : KioskSpool := { KioskSpool.reset with quota := q.quota }

/-- RESET SOFT (R198): every block takes its soft-reset values: zones, definitions, attention modes and enables, quotas, the fill limit and
the maintenance masks are kept, hub time keeps counting, and the bus is RECOVERING (R1, R22, R48, R71, R97, R117, R134,
R151, R152, R170, R182, R199; notes/assumptions/12.md). -/
def softReset (r : ReqSlot) (s : State) : State :=
  { State.reset with
    pending := s.pending, hubTime := s.hubTime, phase := .soft r false, resetLow := s.resetLow
    powerOnHold := s.powerOnHold, attnLine := s.attnLine, freeDrawn := s.freeDrawn
    zones := s.zones
    kioskSpool := mapAll s.kioskSpool KioskSpool.softReset, fillLimit := s.fillLimit
    units := mapAll s.units UnitSlot.softReset
    attn := mapAll s.attn fun a => { a with pending := false }
    bus := .recovering (after s.hubTime 30)
    notices := mapAll s.notices NoticeState.softReset
    links := softLinks r s }

/-- Whether every link's transmitter has finished its frame. -/
def quiet (s : State) : Bool := (indices 9).all fun l => ((s.links[l]).sending).isNone

/-- Whether the soft reset going on can complete, and the request slot of its RESET SOFT (R198). -/
def softDone? (s : State) : Option ReqSlot :=
  match s.phase with
  | .soft r true => if quiet s then some r else none
  | _ => none

/-- The first PING of a defined slot is posted (R151, R170). -/
def postFirstPing (i : Slot) (s : State) : State := if (unitState s i).isSome then postProbe i .ping s else s

/-- The soft reset completes: its reply is built and joins the reply queue of S, and the Unit Table posts the first PING of
each defined slot (R170, R198). -/
def finishSoft (s : State) : State :=
  (softDone? s).elim s fun r =>
    forEach (indices 12) postFirstPing (queueReply serviceLink r (reply .ok []) { s with phase := .running })

/-! ### RESET (R198) -/

/-- RESET of a kind: FULL ends with no reply; SOFT is answered when it completes; any other kind is refused (R198). -/
def resetBlock (kind : Byte) (r : ReqSlot) (s : State) : State × BlockAnswer :=
  if kind = 2 then (fullReset s, .later)
  else if kind = 1 then (softReset r s, .later)
  else (s, .now (reply .badArg []))

/-! ### The commands -/

/-- POWER_ON (R198). -/
def execPowerOn (s : State) : Answer := .next (settle (powerUp s))

/-- RESET_PIN_ASSERT (R198). -/
def execResetPinAssert (s : State) : Answer := .next (settle (assertReset s))

/-- FULL_RESET_COMPLETE (R198). -/
def execFullResetComplete (s : State) : Answer := .next (settle (finishFull s))

/-- RESET_FULL (R198). -/
def execResetFull (link : Link) (tag : Byte) (s : State) : Answer := request (fixed link tag .reset) (resetBlock 2) s

/-- RESET_SOFT (R198). -/
def execResetSoft (link : Link) (tag : Byte) (s : State) : Answer := request (fixed link tag .reset) (resetBlock 1) s

/-- SOFT_RESET_COMPLETE (R198). -/
def execSoftResetComplete (s : State) : Answer := .next (settle (finishSoft s))

end Sys2Proof.Machine
end

