-- ==== Sys2Proof/Machine/LinkEvents.lean ====
section
/-!
DEFINITION. The receivers (R184, R185), the reading of request frames from their bytes (R200, 11.4), and the events of
the links: a byte, a character error, the end of a frame.
-/

namespace Sys2Proof.Machine

/-! ### Reading a payload (11.4) -/

/-- The zone record that starts at a position of a ZONE SET payload (11.4). -/
def zoneRecordAt (p : List Byte) (o : Nat) : ZoneRecord :=
  { index := byteAt p o, state := byteAt p (o + 1), panel := byteAt p (o + 2), left := halfAt p (o + 3),
    top := halfAt p (o + 5), width := halfAt p (o + 7), height := halfAt p (o + 9), rotation := byteAt p (o + 11),
    logicalWidth := halfAt p (o + 12), logicalHeight := halfAt p (o + 14), deadBand := byteAt p (o + 16),
    home := byteAt p (o + 17) }

/-- The records of a ZONE SET payload after its count byte (11.4). -/
def zoneRecords (p : List Byte) : List ZoneRecord :=
  (List.range (byteAt p 0).toNat).map fun n => zoneRecordAt p (1 + 18 * n)

/-- The settings of a SCAN START payload after its slot (11.4). -/
def scanSettings (p : List Byte) : ScanSettings :=
  { x := halfAt p 1, y := halfAt p 3, w := halfAt p 5, h := halfAt p 7, resolution := byteAt p 9, mode := byteAt p 10,
    credit := byteAt p 11 }

/-- The byte a request marked K carries on S alone, at a position of its payload (11.4). -/
def onService (l : Link) (p : List Byte) (at_ : Nat) : Option Byte := if l = serviceLink then some (byteAt p at_) else none

/-- CLAIM STATUS by its selector; an unknown one is out of range (R67, R200). -/
def claimStatusBlock (l : Link) (p : List Byte) (s : State) : List Byte :=
  if byteAt p 0 = 1 then claimOneBlock l (byteAt p 1) s
  else if byteAt p 0 = 2 then claimListBlock l (byteAt p 1) (onService l p 2) s
  else reply .badArg []

/-- MAINTAIN by its setting; an unknown one is out of range (R197). -/
def maintainAny (p : List Byte) (s : State) : State × List Byte :=
  if byteAt p 1 = 0 then maintainBlock (byteAt p 0) false s
  else if byteAt p 1 = 1 then maintainBlock (byteAt p 0) true s
  else (s, reply .badArg [])

/-- The block of a request kind with the fields of its payload, each read by its position (R200, 11.4). -/
def blockOf (k : ReqKind) (l : Link) (p : List Byte) : ReqSlot → State → State × BlockAnswer :=
  match k with
  | .echo => query fun _ => reply .ok p
  | .hubIdent => query (hubIdentBlock l)
  | .linkStatus => atOnce (linkStatusBlock l (onService l p 0))
  | .clearKiosk => atOnce (clearKioskBlock l (onService l p 0))
  | .maintain => atOnce (maintainAny p)
  | .reset => resetBlock (byteAt p 0)
  | .zoneSet => atOnce (zoneSetBlock (zoneRecords p))
  | .zoneClear => atOnce (zoneClearBlock (p.drop 1))
  | .zoneList => query (zoneListBlock (byteAt p 0) (byteAt p 1))
  | .touchList => query (touchListBlock l (onService l p 0) (byteAt p (if l = serviceLink then 1 else 0)))
  | .claim => atOnce (forKiosk l (claimBlock (byteAt p 0) (byteAt p 1) (wordAt p 2) (wordAt p 6)))
  | .renew => atOnce (forKiosk l (renewBlock (byteAt p 0)))
  | .release => atOnce (forKiosk l (releaseBlock (byteAt p 0)))
  | .claimStatus => query (claimStatusBlock l p)
  | .forceRelease => atOnce (forceReleaseBlock (byteAt p 0))
  | .printOpen => atOnce (forKiosk l (printOpenBlock (byteAt p 0)))
  | .printData => atOnce (forKiosk l (printDataBlock (halfAt p 0) (p.drop 2)))
  | .printClose => atOnce (forKiosk l (printCloseBlock (halfAt p 0)))
  | .printCancel => atOnce (forKiosk l (printCancelBlock (halfAt p 0)))
  | .jobStatus => atOnce (jobStatusBlock l (halfAt p 0) (byteAt p 2))
  | .spoolStatus => query (spoolStatusBlock l (onService l p 0))
  | .quotaSet => atOnce (quotaSetBlock (byteAt p 0) (halfAt p 1))
  | .fillLimitSet => atOnce (fillLimitBlock (wordAt p 0))
  | .scanStart => atOnce (forKiosk l (scanStartBlock (byteAt p 0) (scanSettings p)))
  | .scanCredit => atOnce (forKiosk l (scanCreditBlock (byteAt p 0) (byteAt p 1)))
  | .scanStop => atOnce (forKiosk l (scanStopBlock (byteAt p 0)))
  | .scanStatus => query (scanStatusBlock (byteAt p 0))
  | .unitDefine => atOnce (unitDefineBlock (byteAt p 0) (byteAt p 1) (byteAt p 2) (byteAt p 3) (byteAt p 4))
  | .unitRemove => atOnce (unitRemoveBlock (byteAt p 0))
  | .attnSet => atOnce (attnSetBlock (byteAt p 0) (byteAt p 1) (byteAt p 2))
  | .unitStatus => query unitStatusBlock
  | .busRaw => busRawBlock (busKind? (byteAt p 0)) (byteAt p 1) (byteAt p 2) (p.drop 3)
  | .busAbort => atOnce busAbortBlock
  | .noticeArm => atOnce (forKiosk l (noticeArmBlock (halfAt p 0)))
  | .noticeDisarm => atOnce (forKiosk l (noticeDisarmBlock (halfAt p 0)))
  | .noticeHold => atOnce (forKiosk l (setHold true))
  | .noticeRelease => atOnce (forKiosk l (setHold false))
  | .noticePeek => query (noticePeekBlock l (onService l p 0))
  | .noticeTake => atOnce (forKiosk l noticeTakeBlock)
  | .noticeMaintainMask => atOnce (maintainMaskBlock (byteAt p 0) (halfAt p 1))
  | .forceNotice => atOnce (forceNoticeBlock (byteAt p 0) (halfAt p 1) (halfAt p 3))

/-- A frame with a good check has arrived: its KIND gives the block and the length its payload must have (R186, R187). A
KIND that is no request kind never reaches a block. -/
def frameArrived (l : Link) (code tag : Byte) (p : List Byte) (s : State) : State :=
  match ReqKind.ofCode code with
  | none => arrive { link := l, code := code, tag := tag, length := p.length, agrees := true } (query fun _ => []) s
  | some k =>
    arrive
      { link := l, code := code, tag := tag, length := p.length
        agrees := lengthAgrees k (decide (l = serviceLink)) p.length (byteAt p 0) }
      (blockOf k l p) s

/-! ### The receiver (R184, R185) -/

/-- Change the state of a receiver. -/
def setReceiver (l : Link) (r : Receiver) (s : State) : State := modLink l (fun k => { k with receiver := r }) s

/-- The bytes of a frame after its start byte have all arrived: the check is compared, then the frame is handed on or
CHECK is set; either way the receiver hunts (R184, R185). -/
def frameEnded (l : Link) (len : Byte) (got : List Byte) (s : State) : State :=
  let s := setReceiver l .hunt s
  let p := (got.drop 2).take len.toNat
  if halfAt got (2 + len.toNat) = crc16 (len :: got.take (2 + len.toNat)) then
    frameArrived l (byteAt got 0) (byteAt got 1) p s
  else faultCheck l s

/-- A byte moves the receiver of its link (R184). -/
def receive (l : Link) (b : Byte) (s : State) : State :=
  match (s.links[l]).receiver with
  | .hunt => if b = 0x5A then setReceiver l .length s else s
  | .length =>
    if 200 < b.toNat then faultOverlong l (setReceiver l .hunt s) else setReceiver l (.body b []) s
  | .body len got =>
    if got.length + 1 < len.toNat + 4 then setReceiver l (.body len (got ++ [b])) s
    else frameEnded l len (got ++ [b]) s

/-- A byte arrives on a link; while a reset lasts it is discarded with no fault flag (R198). -/
def byteReceived (l : Link) (b : Byte) (s : State) : State := if s.phase = .running then receive l b s else s

/-- A character error discards the frame in progress and sets CHECK; in HUNT it is discarded with no flag (R184). -/
def characterFault (l : Link) (s : State) : State :=
  if s.phase = .running ∧ (s.links[l]).receiver ≠ .hunt then faultCheck l (setReceiver l .hunt s) else s

/-! ### The transmitter -/

/-- The last byte of the frame being sent has left: the transmitter is free, and a reply's request slot with it (R189). -/
def frameSent (l : Link) (s : State) : State :=
  match (s.links[l]).sending with
  | none => s
  | some f =>
    modLink l (fun k => { k with
      sending := none, requests := f.slot.elim k.requests fun r => upd k.requests r fun _ => none }) s

/-! ### The commands -/

/-- LINK_BYTE_RECEIVED (R184). -/
def execLinkByteReceived (link : Link) (b : Byte) (s : State) : Answer := .next (settle (byteReceived link b s))

/-- CHARACTER_ERROR (R184). -/
def execCharacterError (link : Link) (s : State) : Answer := .next (settle (characterFault link s))

/-- TRANSMIT_END (R189). -/
def execTransmitEnd (link : Link) (s : State) : Answer := .next (settle (frameSent link s))

end Sys2Proof.Machine
end

