-- ==== Sys2Proof/Machine/Time.lean ====
section
/-!
DEFINITION. The tick of hub time (R1): what a step does when no command waits (notes/assumptions/2.md). Hub time counts
one ms, and each timer whose expiry it has reached puts its event into the queue.
-/

namespace Sys2Proof.Machine

/-- The expiry events of the claims whose time has been reached, in ascending claim id (R62, R63). -/
def dueClaims (s : State) : List Instr :=
  (s.claims.filter fun c => reached s.hubTime c.expiry).map fun c =>
    if c.held then .leaseExpiry (BitVec.ofNat 8 c.id) else .waitLimitExpiry (BitVec.ofNat 8 c.id)

/-- The fill stalls of the open jobs whose time has been reached, in ascending job id (R88). -/
def dueFills (s : State) : List Instr :=
  (s.jobs.filter fun j => j.isOpen && reached s.hubTime (stallTime s j)).map fun j =>
    .fillStallExpiry (BitVec.ofNat 16 j.id)

/-- Whether the re-probe timer of a slot has expired (R139). -/
def reprobeDue (s : State) (i : Slot) : Bool :=
  decide (unitState s i = some .lost) && (s.units[i]).reprobe.any fun t => reached s.hubTime t

/-- The re-probe timers that have expired, in slot order (R139). -/
def dueProbes (s : State) : List Instr := ((indices 12).filter (reprobeDue s)).map .reprobeTimerExpiry

/-- The end of a soft reset, when all it waits for has happened (R198). -/
def dueSoft (s : State) : List Instr := if (softDone? s).isSome then [.softResetComplete] else []

/-- Every timer event that is due. -/
def dueEvents (s : State) : List Instr := dueClaims s ++ dueFills s ++ dueProbes s ++ dueSoft s

/-- One ms passes: hub time counts (R1), and the events now due join the queue. -/
def passTime (s : State) : State :=
  let s := { s with hubTime := s.hubTime + 1 }
  { s with pending := s.pending ++ dueEvents s }

/-- The tick. While a full reset lasts hub time stays 0, and the reset completes once nothing holds it (R198). -/
def tick (s : State) : State :=
  if s.phase = .full then
    if s.resetLow || s.powerOnHold then s else { s with pending := s.pending ++ [.fullResetComplete] }
  else passTime (settle s)

end Sys2Proof.Machine
end

