-- ==== Sys2Proof/Machine/Dispatch.lean ====
section
/-! DEFINITION. What each command does: one arm per constructor, each one direct call of its meaning. -/

namespace Sys2Proof.Machine

def exec (i : Instr) (s : State) : Host.Outcome State Fault Refusal :=
  match i with
  | .powerOn => Sys2Proof.Machine.execPowerOn s
  | .resetPinAssert => Sys2Proof.Machine.execResetPinAssert s
  | .fullResetComplete => Sys2Proof.Machine.execFullResetComplete s
  | .resetFull link tag => Sys2Proof.Machine.execResetFull link tag s
  | .resetSoft link tag => Sys2Proof.Machine.execResetSoft link tag s
  | .softResetComplete => Sys2Proof.Machine.execSoftResetComplete s
  | .linkByteReceived link b => Sys2Proof.Machine.execLinkByteReceived link b s
  | .characterError link => Sys2Proof.Machine.execCharacterError link s
  | .transmitEnd link => Sys2Proof.Machine.execTransmitEnd link s
  | .echo link tag data => Sys2Proof.Machine.execEcho link tag data s
  | .hubIdent link tag => Sys2Proof.Machine.execHubIdent link tag s
  | .linkStatus link tag target => Sys2Proof.Machine.execLinkStatus link tag target s
  | .clearKiosk link tag kiosk => Sys2Proof.Machine.execClearKiosk link tag kiosk s
  | .maintainOn link tag kiosk => Sys2Proof.Machine.execMaintainOn link tag kiosk s
  | .maintainOff link tag kiosk => Sys2Proof.Machine.execMaintainOff link tag kiosk s
  | .zoneSet link tag records => Sys2Proof.Machine.execZoneSet link tag records s
  | .zoneClear link tag indices => Sys2Proof.Machine.execZoneClear link tag indices s
  | .zoneList link tag panel first => Sys2Proof.Machine.execZoneList link tag panel first s
  | .touchList link tag kiosk first => Sys2Proof.Machine.execTouchList link tag kiosk first s
  | .claim link tag kind number lease waitLimit => Sys2Proof.Machine.execClaim link tag kind number lease waitLimit s
  | .renew link tag claimId => Sys2Proof.Machine.execRenew link tag claimId s
  | .release link tag claimId => Sys2Proof.Machine.execRelease link tag claimId s
  | .leaseExpiry claimId => Sys2Proof.Machine.execLeaseExpiry claimId s
  | .waitLimitExpiry claimId => Sys2Proof.Machine.execWaitLimitExpiry claimId s
  | .forceRelease link tag claimId => Sys2Proof.Machine.execForceRelease link tag claimId s
  | .claimStatusOne link tag claimId kiosk => Sys2Proof.Machine.execClaimStatusOne link tag claimId kiosk s
  | .claimStatusList link tag claimId kiosk => Sys2Proof.Machine.execClaimStatusList link tag claimId kiosk s
  | .printOpen link tag target => Sys2Proof.Machine.execPrintOpen link tag target s
  | .printData link tag jobId data => Sys2Proof.Machine.execPrintData link tag jobId data s
  | .printClose link tag jobId => Sys2Proof.Machine.execPrintClose link tag jobId s
  | .printCancel link tag jobId => Sys2Proof.Machine.execPrintCancel link tag jobId s
  | .fillStallExpiry jobId => Sys2Proof.Machine.execFillStallExpiry jobId s
  | .jobStatus link tag jobId collect => Sys2Proof.Machine.execJobStatus link tag jobId collect s
  | .spoolStatus link tag kiosk => Sys2Proof.Machine.execSpoolStatus link tag kiosk s
  | .quotaSet link tag kiosk quota => Sys2Proof.Machine.execQuotaSet link tag kiosk quota s
  | .fillLimitSet link tag limit => Sys2Proof.Machine.execFillLimitSet link tag limit s
  | .markStartComplete answer => Sys2Proof.Machine.execMarkStartComplete answer s
  | .creditReadComplete answer => Sys2Proof.Machine.execCreditReadComplete answer s
  | .feedComplete answer => Sys2Proof.Machine.execFeedComplete answer s
  | .markEndComplete answer => Sys2Proof.Machine.execMarkEndComplete answer s
  | .pstateReadComplete answer => Sys2Proof.Machine.execPstateReadComplete answer s
  | .markAbortComplete answer => Sys2Proof.Machine.execMarkAbortComplete answer s
  | .scanStart link tag slot x y w h resolution mode credit => Sys2Proof.Machine.execScanStart link tag slot x y w h resolution mode credit s
  | .scanCredit link tag slot n => Sys2Proof.Machine.execScanCredit link tag slot n s
  | .scanStop link tag slot => Sys2Proof.Machine.execScanStop link tag slot s
  | .scanStatus link tag slot => Sys2Proof.Machine.execScanStatus link tag slot s
  | .ssetComplete answer => Sys2Proof.Machine.execSsetComplete answer s
  | .sgoComplete answer => Sys2Proof.Machine.execSgoComplete answer s
  | .availReadComplete answer => Sys2Proof.Machine.execAvailReadComplete answer s
  | .pullComplete answer => Sys2Proof.Machine.execPullComplete answer s
  | .sstateReadComplete answer => Sys2Proof.Machine.execSstateReadComplete answer s
  | .shaltComplete answer => Sys2Proof.Machine.execShaltComplete answer s
  | .unitDefine link tag slot address kind mode enable => Sys2Proof.Machine.execUnitDefine link tag slot address kind mode enable s
  | .unitRemove link tag slot => Sys2Proof.Machine.execUnitRemove link tag slot s
  | .unitStatus link tag => Sys2Proof.Machine.execUnitStatus link tag s
  | .attnSet link tag slot mode enable => Sys2Proof.Machine.execAttnSet link tag slot mode enable s
  | .pingComplete answer => Sys2Proof.Machine.execPingComplete answer s
  | .restartComplete answer => Sys2Proof.Machine.execRestartComplete answer s
  | .identComplete answer => Sys2Proof.Machine.execIdentComplete answer s
  | .reprobeTimerExpiry slot => Sys2Proof.Machine.execReprobeTimerExpiry slot s
  | .attnLineChange slot high => Sys2Proof.Machine.execAttnLineChange slot high s
  | .causePollComplete answer => Sys2Proof.Machine.execCausePollComplete answer s
  | .contactsReadComplete answer => Sys2Proof.Machine.execContactsReadComplete answer s
  | .busRawPing link tag address command => Sys2Proof.Machine.execBusRawPing link tag address command s
  | .busRawRead link tag address command => Sys2Proof.Machine.execBusRawRead link tag address command s
  | .busRawWrite link tag address command data => Sys2Proof.Machine.execBusRawWrite link tag address command data s
  | .busRawComplete answer => Sys2Proof.Machine.execBusRawComplete answer s
  | .busAbort link tag => Sys2Proof.Machine.execBusAbort link tag s
  | .stallTimerExpiry sent received => Sys2Proof.Machine.execStallTimerExpiry sent received s
  | .releaseSequenceEnd => Sys2Proof.Machine.execReleaseSequenceEnd s
  | .releaseWaitTimeout => Sys2Proof.Machine.execReleaseWaitTimeout s
  | .noticeArm link tag classes => Sys2Proof.Machine.execNoticeArm link tag classes s
  | .noticeDisarm link tag classes => Sys2Proof.Machine.execNoticeDisarm link tag classes s
  | .noticeHold link tag => Sys2Proof.Machine.execNoticeHold link tag s
  | .noticeRelease link tag => Sys2Proof.Machine.execNoticeRelease link tag s
  | .noticePeek link tag kiosk => Sys2Proof.Machine.execNoticePeek link tag kiosk s
  | .noticeTake link tag => Sys2Proof.Machine.execNoticeTake link tag s
  | .noticeMaintainMask link tag kiosk classes => Sys2Proof.Machine.execNoticeMaintainMask link tag kiosk classes s
  | .forceNotice link tag kiosk classes word => Sys2Proof.Machine.execForceNotice link tag kiosk classes word s

end Sys2Proof.Machine
end

