-- ==== Sys2Proof/Machine/Step.lean ====
section
/-!
DEFINITION. The step of the hub: the command at the front of the queue, or the tick when none waits.
-/

namespace Sys2Proof.Machine

/-- One step: the front command runs with the queue's rest; on an empty queue one ms passes (notes/assumptions/2.md). -/
def step (s : State) : Host.Outcome State Fault Refusal :=
  match s.pending with
  | [] => .next (tick s)
  | c :: rest => exec c { s with pending := rest }

/-- The state with the command a word spells at the front of its queue; unchanged when it spells none. -/
def State.withFetchWord (s : State) (nbits w : Nat) : State :=
  match decodeTableWord nbits w with
  | none => s
  | some c => { s with pending := c :: s.pending }

end Sys2Proof.Machine
end

