-- ==== Sys2Proof/Safety.lean ====
section
/-!
DEFINITION. What counts as a safe run, in the terms the claims use: the laws the spec says the blocks keep, each as a
property of one state; what it is for a command to complete; and the outline every request shares (a request is taken
into a slot, its block acts, its reply becomes ready, the event ends).
-/

namespace Sys2Proof.Machine

/-! ### Completion -/

/-- The command answers a next state. -/
def Completes (i : Instr) (s : State) : Prop := ∃ t, exec i s = .next t

/-- A property that every step keeps. -/
def KeptByStep (law : State → Prop) : Prop := ∀ s t : State, law s → step s = .next t → law t

/-! ### The outline of a request (R186 to R188) -/

/-- A request arriving on a link now takes this slot: no reset lasts, and it is the lowest free one (R186, R198). -/
def Takes (s : State) (l : Link) (r : ReqSlot) : Prop := s.phase = .running ∧ freeSlot? s l = some r

/-- The state in which a block acts: the request holds its slot and waits for its reply (R186). -/
def taken (l : Link) (r : ReqSlot) (k : ReqKind) (tag : Byte) (s : State) : State :=
  { s with links := upd s.links l fun q => { q with
      requests := upd q.requests r fun _ => some { kind := k.code, tag := tag, ready := false } } }

/-- The event of a request ends: its reply becomes ready (R188), then the engines, the bus and the transmitters choose. -/
def answered (l : Link) (r : ReqSlot) (payload : List Byte) (s : State) : State := settle (queueReply l r payload s)

/-- A transmitter is sending a frame that no request asked for (R189). -/
def sent (l : Link) (bytes : List Byte) (s : State) : State :=
  { s with links := upd s.links l fun q => { q with sending := some { slot := none, bytes := bytes } } }

/-- A command that starts a full reset (R198). -/
def StartsFullReset (s : State) (c : Instr) : Prop :=
  c = .powerOn ∨ c = .resetPinAssert ∨ ∃ tag r, c = .resetFull serviceLink tag ∧ Takes s serviceLink r

/-- The link is that of a kiosk. -/
def OnKiosk (l : Link) (k : Kiosk) : Prop := kioskOf l = some k

/-- The link, TAG and kind of a command that is a request; none for an event. -/
def requestOf (i : Instr) : Option (Link × Byte × ReqKind) :=
  match i with
  | .echo l tag _ => some (l, tag, .echo)
  | .hubIdent l tag => some (l, tag, .hubIdent)
  | .linkStatus l tag _ => some (l, tag, .linkStatus)
  | .clearKiosk l tag _ => some (l, tag, .clearKiosk)
  | .maintainOn l tag _ => some (l, tag, .maintain)
  | .maintainOff l tag _ => some (l, tag, .maintain)
  | .resetFull l tag => some (l, tag, .reset)
  | .resetSoft l tag => some (l, tag, .reset)
  | .zoneSet l tag _ => some (l, tag, .zoneSet)
  | .zoneClear l tag _ => some (l, tag, .zoneClear)
  | .zoneList l tag _ _ => some (l, tag, .zoneList)
  | .touchList l tag _ _ => some (l, tag, .touchList)
  | .claim l tag _ _ _ _ => some (l, tag, .claim)
  | .renew l tag _ => some (l, tag, .renew)
  | .release l tag _ => some (l, tag, .release)
  | .forceRelease l tag _ => some (l, tag, .forceRelease)
  | .claimStatusOne l tag _ _ => some (l, tag, .claimStatus)
  | .claimStatusList l tag _ _ => some (l, tag, .claimStatus)
  | .printOpen l tag _ => some (l, tag, .printOpen)
  | .printData l tag _ _ => some (l, tag, .printData)
  | .printClose l tag _ => some (l, tag, .printClose)
  | .printCancel l tag _ => some (l, tag, .printCancel)
  | .jobStatus l tag _ _ => some (l, tag, .jobStatus)
  | .spoolStatus l tag _ => some (l, tag, .spoolStatus)
  | .quotaSet l tag _ _ => some (l, tag, .quotaSet)
  | .fillLimitSet l tag _ => some (l, tag, .fillLimitSet)
  | .scanStart l tag _ _ _ _ _ _ _ _ => some (l, tag, .scanStart)
  | .scanCredit l tag _ _ => some (l, tag, .scanCredit)
  | .scanStop l tag _ => some (l, tag, .scanStop)
  | .scanStatus l tag _ => some (l, tag, .scanStatus)
  | .unitDefine l tag _ _ _ _ _ => some (l, tag, .unitDefine)
  | .unitRemove l tag _ => some (l, tag, .unitRemove)
  | .unitStatus l tag => some (l, tag, .unitStatus)
  | .attnSet l tag _ _ _ => some (l, tag, .attnSet)
  | .busRawPing l tag _ _ => some (l, tag, .busRaw)
  | .busRawRead l tag _ _ => some (l, tag, .busRaw)
  | .busRawWrite l tag _ _ _ => some (l, tag, .busRaw)
  | .busAbort l tag => some (l, tag, .busAbort)
  | .noticeArm l tag _ => some (l, tag, .noticeArm)
  | .noticeDisarm l tag _ => some (l, tag, .noticeDisarm)
  | .noticeHold l tag => some (l, tag, .noticeHold)
  | .noticeRelease l tag => some (l, tag, .noticeRelease)
  | .noticePeek l tag _ => some (l, tag, .noticePeek)
  | .noticeTake l tag => some (l, tag, .noticeTake)
  | .noticeMaintainMask l tag _ _ => some (l, tag, .noticeMaintainMask)
  | .forceNotice l tag _ _ _ => some (l, tag, .forceNotice)
  | _ => none

/-- Whether the byte that a request marked K carries on S alone is there exactly on S (11.4). -/
def namedRight (l : Link) (named : Option Byte) : Bool := named.isSome == decide (l = serviceLink)

/-- Whether a request has a length its kind allows on its link: lists in the ranges of 11.4, the byte of a request marked K
on S alone. -/
def lengthRight (i : Instr) : Bool :=
  match i with
  | .echo _ _ data => decide (data.length ≤ 199)
  | .zoneSet _ _ records => decide (1 ≤ records.length ∧ records.length ≤ 6)
  | .zoneClear _ _ l => decide (1 ≤ l.length ∧ l.length ≤ 32)
  | .printData _ _ _ data => decide (1 ≤ data.length ∧ data.length ≤ 192)
  | .busRawWrite _ _ _ _ data => decide (1 ≤ data.length ∧ data.length ≤ 48)
  | .linkStatus l _ named => namedRight l named
  | .clearKiosk l _ named => namedRight l named
  | .touchList l _ named _ => namedRight l named
  | .claimStatusOne l _ _ named => namedRight l named
  | .claimStatusList l _ _ named => namedRight l named
  | .spoolStatus l _ named => namedRight l named
  | .noticePeek l _ named => namedRight l named
  | _ => true

/-- The 18 bytes of a zone record (11.4). -/
def zoneBytes (q : ZoneRecord) : List Byte :=
  [q.index, q.state, q.panel] ++ u16 q.left ++ u16 q.top ++ u16 q.width ++ u16 q.height ++ [q.rotation] ++
    u16 q.logicalWidth ++ u16 q.logicalHeight ++ [q.deadBand, q.home]

/-- The payload of a request, field by field (11.4); of an event nothing. -/
def payloadOf (i : Instr) : List Byte :=
  match i with
  | .echo _ _ data => data
  | .linkStatus _ _ named => named.toList
  | .clearKiosk _ _ named => named.toList
  | .maintainOn _ _ kiosk => [kiosk, 1]
  | .maintainOff _ _ kiosk => [kiosk, 0]
  | .resetSoft _ _ => [1]
  | .resetFull _ _ => [2]
  | .zoneSet _ _ records => BitVec.ofNat 8 records.length :: records.flatMap zoneBytes
  | .zoneClear _ _ l => BitVec.ofNat 8 l.length :: l
  | .zoneList _ _ panel first => [panel, first]
  | .touchList _ _ named first => named.toList ++ [first]
  | .claim _ _ kind number lease wait => [kind, number] ++ u32 lease ++ u32 wait
  | .renew _ _ id => [id]
  | .release _ _ id => [id]
  | .forceRelease _ _ id => [id]
  | .claimStatusOne _ _ id named => [1, id] ++ named.toList
  | .claimStatusList _ _ id named => [2, id] ++ named.toList
  | .printOpen _ _ target => [target]
  | .printData _ _ id data => u16 id ++ data
  | .printClose _ _ id => u16 id
  | .printCancel _ _ id => u16 id
  | .jobStatus _ _ id collect => u16 id ++ [collect]
  | .spoolStatus _ _ named => named.toList
  | .quotaSet _ _ kiosk quota => kiosk :: u16 quota
  | .fillLimitSet _ _ limit => u32 limit
  | .scanStart _ _ slot x y w h resolution mode credit =>
    [slot] ++ u16 x ++ u16 y ++ u16 w ++ u16 h ++ [resolution, mode, credit]
  | .scanCredit _ _ slot n => [slot, n]
  | .scanStop _ _ slot => [slot]
  | .scanStatus _ _ slot => [slot]
  | .unitDefine _ _ slot address kind mode enable => [slot, address, kind, mode, enable]
  | .unitRemove _ _ slot => [slot]
  | .attnSet _ _ slot mode enable => [slot, mode, enable]
  | .busRawPing _ _ address command => [1, address, command]
  | .busRawRead _ _ address command => [2, address, command]
  | .busRawWrite _ _ address command data => [3, address, command] ++ data
  | .noticeArm _ _ classes => u16 classes
  | .noticeDisarm _ _ classes => u16 classes
  | .noticePeek _ _ named => named.toList
  | .noticeMaintainMask _ _ kiosk classes => kiosk :: u16 classes
  | .forceNotice _ _ kiosk classes word => kiosk :: (u16 classes ++ u16 word)
  | _ => []

/-- The byte b is the last of a frame of this KIND, TAG and payload on a link, and its check is good (R183, R184). -/
def LastByte (s : State) (l : Link) (kind tag : Byte) (p : List Byte) (b : Byte) : Prop :=
  ∃ len c got, (s.links[l]).receiver = .body len got ∧ got ++ [b] = kind :: tag :: p ++ [c, b] ∧ p.length = len.toNat ∧
    crc16 (len :: kind :: tag :: p) = c ++ b

/-- The receiver of a link hunts again, as it does once a frame has ended (R184). -/
def hunting (l : Link) (s : State) : State :=
  { s with links := upd s.links l fun q => { q with receiver := .hunt } }

/-! ### The outline of a completion (R162) -/

/-- A transaction of an engine of a READY slot is in flight, not orphaned, and is the one of this name. -/
def EngineTxn (s : State) (t : Txn) (i : Slot) (w : TxnName) (k : UnitKind) : Prop :=
  s.bus = .running t ∧ t.owner = .engine ∧ t.slot = some i ∧ t.orphaned = false ∧ t.name = w ∧
    isReady s i = true ∧ definedKind s i = some k

/-- What the unit does on the wires ends the transaction OK, with this data (R155 to R157). -/
def EndsOk (t : Txn) (a : UnitAnswer) (d : List Byte) : Prop :=
  wireOutcome t a = .ok ∧ okData { t with progress := wireProgress t a } .ok = d

/-- The end of an event in which a transaction of a READY slot ended OK: the slot's place is filled again, the failure
count becomes 0 (R141, R162). -/
def countedOk (i : Slot) (s : State) : State := settle (modUnit i (fun u => { u with failures := 0 }) (fillPlace i s))

/-- The end of an event in which a transaction of a READY slot ended REFUSED: the count is unchanged (R141). -/
def countedRefused (i : Slot) (s : State) : State := settle (fillPlace i s)

/-- The state after an engine's transaction has left the bus, before the engine acts. -/
def busFreed (s : State) : State := { s with bus := .idle }

/-- The end of an event in which a transaction of a slot ended with this outcome: the slot's place is filled again, then the
outcome is counted (R141, R162). -/
def counted (i : Slot) (o : BusOutcome) (s : State) : State := settle (countFailure i o (fillPlace i s))

/-- A transaction of a slot ends with this outcome, and its owner makes f of the state: as the completion command when the
transaction ends by itself, and as `handOn` when a stall or an abort ends it (R101, R124, R160, R162, R168). -/
def EndsWith (c : UnitAnswer → Instr) (s : State) (t : Txn) (i : Slot) (o : BusOutcome) (f : State → State) : Prop :=
  (∀ a, wireOutcome t a = o → exec (c a) s = .next (counted i o (f (busFreed s)))) ∧
    ∀ p b, handOn { t with progress := p } o { s with bus := b } = countFailure i o (fillPlace i (f { s with bus := b }))

/-- The command in which a transaction of this name ends by itself (R162). -/
def completionOf (w : TxnName) (a : UnitAnswer) : Instr :=
  match w with
  | .ping => .pingComplete a
  | .restart => .restartComplete a
  | .ident => .identComplete a
  | .cause => .causePollComplete a
  | .credit => .creditReadComplete a
  | .feed => .feedComplete a
  | .markStart => .markStartComplete a
  | .markEnd => .markEndComplete a
  | .markAbort => .markAbortComplete a
  | .pstate => .pstateReadComplete a
  | .sset => .ssetComplete a
  | .sgo => .sgoComplete a
  | .avail => .availReadComplete a
  | .pull => .pullComplete a
  | .shalt => .shaltComplete a
  | .sstate => .sstateReadComplete a
  | .contacts => .contactsReadComplete a
  | .rawPing => .busRawComplete a
  | .rawRead => .busRawComplete a
  | .rawWrite => .busRawComplete a

/-! ### What a slot posts (R100, R123, R159) -/

/-- The transaction of the first line of a work table whose condition holds. -/
def firstLine (table : List (Bool × TxnName)) : Option TxnName := (table.find? fun line => line.1).map fun line => line.2

/-- A feedable block exists: the first of the chain, when it is full or the last of a closed job (R104). -/
def hasFeedable (j : Job) : Bool :=
  decide (j.chain ≠ [] ∧ (2 ≤ j.chain.length ∨ j.fill = 48 ∨ j.isOpen = false))

/-- The head job may be started: FILLING or QUEUED, and closed or with 8 full blocks (R102). -/
def mayStart (j : Job) : Bool :=
  decide ((j.state = .filling ∨ j.state = .queued) ∧
    (j.isOpen = false ∨ 8 ≤ if j.fill = 48 then j.chain.length else j.chain.length - 1))

/-- The eight lines of R100 for an engine and the head job of its queue. -/
def feedTable (e : FeedEngine) (head : Option Job) : List (Bool × TxnName) :=
  [(decide (e.step = .abortMark), .markAbort),
    (decide (e.step = .endWait) && e.pagesWanted, .pstate),
    (decide (e.step = .stream) && e.creditWanted && head.any hasFeedable, .credit),
    (decide (e.step = .none) && head.any mayStart && !e.paused && !e.markHeld, .markStart),
    (decide (e.step = .startMark) && !e.paused && !e.markHeld, .markStart),
    (decide (e.step = .stream) && !e.paused && e.creditKnown && decide (0 < e.credit) && head.any hasFeedable, .feed),
    (decide (e.step = .stream) && !e.paused && head.any (fun j => !j.isOpen && decide (j.chain = [])), .markEnd),
    (decide (e.step = .endMark) && !e.paused && !e.markHeld, .markEnd)]

/-- The six lines of R123. -/
def scanTable (r : ScanRecord) : List (Bool × TxnName) :=
  let pulling := decide (r.state = .running ∨ r.state = .ending)
  [(decide (r.state = .halting) && r.haltOwed, .shalt),
    (decide (r.state = .preparing ∧ r.setup = some .sset), .sset),
    (decide (r.state = .preparing ∧ r.setup = some .sgo), .sgo),
    (decide (r.state = .running) && r.stateWanted, .sstate),
    (pulling && r.availWanted, .avail),
    (pulling && decide (0 < r.available ∧ 0 < r.credit), .pull)]

/-- The kind, command code and minimum count of each transaction of the hub's own after probing (R159). -/
def txnRow : TxnName → BusKind × Byte × Nat
  | .cause => (.read, 0x03, 1)
  | .credit => (.read, 0x10, 1)
  | .feed => (.write, 0x11, 0)
  | .markStart => (.write, 0x12, 0)
  | .markEnd => (.write, 0x12, 0)
  | .markAbort => (.write, 0x12, 0)
  | .pstate => (.read, 0x13, 4)
  | .sset => (.write, 0x20, 0)
  | .sgo => (.write, 0x21, 0)
  | .avail => (.read, 0x22, 1)
  | .pull => (.read, 0x23, 1)
  | .shalt => (.write, 0x24, 0)
  | .sstate => (.read, 0x25, 3)
  | .contacts => (.read, 0x30, 1)
  | _ => (.ping, 0, 0)

/-- A posting of a READY slot (R159, R163). -/
def ownPosting (owner : Owner) (address : Nat) (rank : Rank) (w : TxnName) (data : List Byte) : Posting :=
  { owner := owner, kind := (txnRow w).1, address := address, command := (txnRow w).2.1, data := data
    minCount := (txnRow w).2.2, rank := rank, aging := 0 }

/-! ### The checks of ZONE SET (R9) -/

/-- The record fails the check of this number, given the records at earlier positions of its batch (R9). -/
def RecordFails (s : State) (earlier : List ZoneRecord) (q : ZoneRecord) : Nat → Prop
  | 1 => 31 < q.index.toNat
  | 2 => ∃ p ∈ earlier, p.index = q.index
  | 3 => q.state ≠ 1 ∧ q.state ≠ 2
  | 4 => 11 < q.panel.toNat ∨ ∃ i : Slot, q.panel.toNat = i.val ∧ definedKind s i ≠ some .panel
  | 5 => 4095 < q.left.toNat ∨ 4095 < q.top.toNat ∨ q.width = 0 ∨ 4096 < q.width.toNat ∨ q.height = 0 ∨
      4096 < q.height.toNat ∨ 4096 < q.left.toNat + q.width.toNat ∨ 4096 < q.top.toNat + q.height.toNat
  | 6 => 3 < q.rotation.toNat
  | 7 => q.logicalWidth = 0 ∨ 32767 < q.logicalWidth.toNat ∨ q.logicalHeight = 0 ∨ 32767 < q.logicalHeight.toNat
  | 8 => 7 < q.home.toNat ∧ q.home ≠ 0xFF
  | _ => False

/-! ### Muting (R28, R39, R41 to R44) -/

/-- The CANCEL of a contact: its last produced position and EDGE, and hub time now (R28, R45). -/
def cancelOf (now : Time) (n : ContactNo) (c : Contact) (p : Produced) : TouchEvent :=
  { contact := n, phase := .cancel, zone := c.zone, x := p.x, y := p.y, time := now.setWidth 16, edge := p.edge }

/-- The CANCEL that an entry of the contact table gives its owner k, when it is LIVE and fits. -/
def cancelFor (fits : Contact → Bool) (s : State) (k : Kiosk) (n : ContactNo) : Option TouchEvent :=
  (s.contacts[n]).bind fun c =>
    if c.live && fits c && decide (c.owner = some k) then c.last.map (cancelOf s.hubTime n c) else none

/-- The CANCELs for k of the LIVE contacts that fit, in ascending contact number (R39, R41). -/
def cancels (fits : Contact → Bool) (s : State) (k : Kiosk) : List TouchEvent :=
  (indices 40).filterMap (cancelFor fits s k)

/-- A kiosk link after these events have arrived at its touch queue, one after another (R191). -/
def arrivals (events : List TouchEvent) (q : KioskLink) : KioskLink := events.foldl (fun q e => enqueueTouch e q) q

/-- In t the contacts of s that fit are MUTE, and the CANCEL of each that was LIVE has gone to its owner (R39, R41, R43). -/
def Cancelled (fits : Contact → Bool) (s t : State) : Prop :=
  (∀ n : ContactNo, t.contacts[n] = (s.contacts[n]).map fun c => if fits c then { c with live := false } else c) ∧
    ∀ k : Kiosk, t.kiosks[k] = arrivals (cancels fits s k) s.kiosks[k]

/-- Whether a contact was captured in a zone. -/
def inZone (z : ZoneIx) (c : Contact) : Bool := decide (c.zone = some z)

/-- Whether a contact is on a panel. -/
def onPanel (i : Slot) (c : Contact) : Bool := decide (c.panel = i)

/-! ### Cause flags (R111, R125, R26) -/

/-- The flags of a cause byte that a mask keeps reach the engine of a slot, if any of them is set. -/
def causePart (i : Slot) (b : Byte) (c : Time) (mask : Byte) (s : State) : State :=
  if b &&& mask = 0 then s else causeToEngine i (b &&& mask) c s

/-- The steps in which a feed engine has a job that its printer knows and that is not being aborted (R108, R112, R113). -/
def WithPrinter (e : FeedEngine) : Prop :=
  e.step = .startMark ∨ e.step = .stream ∨ e.step = .endMark ∨ e.step = .endWait

/-! ### Reports (R19, R47, R67, 11.4) -/

/-- The subject of a request marked K is kiosk k: the link's own, or the one S names (11.4). -/
def About (l : Link) (named : Option Byte) (k : Kiosk) : Prop :=
  OnKiosk l k ∧ named = none ∨ l = serviceLink ∧ named = some (BitVec.ofNat 8 k.val)

/-- What a list reply carries: the continuation, the count and the lines of at most n of the items. The continuation is the
number after the last item returned when more follow, else the code of none (R19, R47, R67). -/
def page {α : Type} (n none_ : Nat) (number : α → Nat) (line : α → List Byte) (all : List α) : List Byte :=
  u8 (if all.length ≤ n then none_ else ((all.take n).getLast?.map fun x => number x + 1).getD none_) ++
    u8 (min n all.length) ++ (all.take n).flatMap line

/-! ### The next holder at CLEAR KIOSK (R70) -/

/-- The waiter that CLEAR KIOSK for k grants a resource which k holds: the first of its queue that is not k's own. -/
def nextHolder? (s : State) (k : Kiosk) (x : Resource) : Option Nat :=
  if (holder? s x).any fun c => decide (c.kiosk = k) then
    (waitQueue s x).find? fun id => (claim? s id).any fun c => decide (c.kiosk ≠ k)
  else none

/-! ### Resources of a removed slot (R18, R68) -/

/-- The zone lies on the panel of this slot. -/
def zoneOn (s : State) (i : Slot) (z : ZoneIx) : Bool := (s.zones[z]).any fun e => decide (e.panel = i)

/-- The claim is on a resource that goes with a slot of this kind: an open zone of the panel, or the scanner (R18, R68). -/
def goesWith (s : State) (i : Slot) (kind : UnitKind) (c : Claim) : Bool :=
  match c.resource with
  | .zone z => decide (kind = .panel) && zoneOn s i z && (s.zones[z]).any fun e => e.home.isNone
  | .scanner j => decide (kind = .scanner) && decide (j = i)

/-! ### Printers lost or removed (R114, R115) -/

/-- u is s with the head job of a printer ended by its state: a FEEDING or DRAINING one FAILED with this cause, a CANCELLING
one by its end cause (R114 stage 1, R87). -/
def HeadEnded (i : Slot) (cause : JobCause) (s u : State) : Prop :=
  (headJob? s i = none → u = s) ∧
    ∀ j, headJob? s i = some j →
      (j.state = .feeding ∨ j.state = .draining → u = endJob j.id .failed none (some cause) s) ∧
      (j.state = .cancelling →
        u = endJob j.id (if j.stallEnd then .failed else .cancelled) none (if j.stallEnd then some .fillStall else none)
          s) ∧
      (j.state ≠ .feeding → j.state ≠ .draining → j.state ≠ .cancelling → u = s)

/-- The Spooler of t is that of w, and its notices are those of w with UNIT_CHANGED latched for every kiosk. -/
def SpoolerOf (w t : State) : Prop :=
  t.jobs = w.jobs ∧ t.printQueue = w.printQueue ∧ t.terminal = w.terminal ∧ t.free = w.free ∧ t.spool = w.spool ∧
    t.kioskSpool = w.kioskSpool ∧
    ∀ k : Kiosk, t.notices[k] = { w.notices[k] with pending := (w.notices[k]).pending ||| 0x800#12 }

/-! ### Laws of the links -/

/-- Touch queues hold at most 16 events (R191) and the touch streak is at most 4 (R189). -/
def QueueLaw (s : State) : Prop := ∀ k : Kiosk, (s.kiosks[k]).touch.length ≤ 16 ∧ (s.kiosks[k]).streak ≤ 4

/-- The request slot a transmitter will free belongs to a ready request whose reply has left the queue (R188, R189). -/
def SendingLaw (q : LinkState) : Prop :=
  ∀ f, q.sending = some f → ∀ r, f.slot = some r →
    (∃ x, q.requests[r] = some x ∧ x.ready = true) ∧ ∀ p ∈ q.replies, p.slot ≠ r

/-- Each waiting reply belongs to a held slot of its own whose request is marked ready, with the request's TAG (R188). -/
def ReplyLaw (q : LinkState) : Prop :=
  (q.replies.map Reply.slot).Nodup ∧
    ∀ p ∈ q.replies, ∃ x, q.requests[p.slot] = some x ∧ x.ready = true ∧ x.tag = p.tag

/-- A request on S waits for its completion in a slot. -/
def Waits (s : State) (r : ReqSlot) : Prop := ∃ x, (s.links[serviceLink]).requests[r] = some x ∧ x.ready = false

/-- The law of the request slots: one reply for each request, a BUS RAW and a RESET SOFT keep their slots (R186, R188). -/
def RequestLaw (s : State) : Prop :=
  (∀ l : Link, ReplyLaw s.links[l] ∧ SendingLaw s.links[l]) ∧ (∀ r, s.busRaw = some r → Waits s r) ∧
    ∀ r b, s.phase = .soft r b → s.busRaw = none ∧ Waits s r

/-! ### Laws of the unit bus and the units -/

/-- Aging counts are at most 16 (R166), no slot's posting has the rank of the service place (R164), failure counts are at
most 3 (R135). -/
def CountLaw (s : State) : Prop :=
  (∀ i : Slot, ∀ p, s.board[i] = some p → p.aging ≤ 16 ∧ p.rank ≠ .service) ∧ ∀ i : Slot, (s.units[i]).failures ≤ 3

/-- The number of a rank, 1 the highest (R164). -/
def Rank.level : Rank → Nat
  | .service => 1
  | .panel => 2
  | .scanner => 3
  | .printer => 4
  | .probe => 5

/-- How far a slot is from its rank's turn: 0 for the slot after the pointer, 11 for the pointer's own (R165). -/
def turn (pointer i : Slot) : Nat := (i.val + 11 - pointer.val) % 12

/-- The posting of a slot is the one to grant when the service place is empty: no posting has a higher rank, and among
those of its rank none has an earlier turn (R165). -/
def Wins (s : State) (i : Slot) (p : Posting) : Prop :=
  s.board[i] = some p ∧ ∀ j : Slot, ∀ q, s.board[j] = some q →
    p.effectiveRank.level < q.effectiveRank.level ∨
      (p.effectiveRank = q.effectiveRank ∧
        turn (s.pointers.at p.effectiveRank) i ≤ turn (s.pointers.at p.effectiveRank) j)

/-! ### Laws of the settings -/

/-- Quotas, the fill limit, lease lengths and wait limits lie in their ranges (R73, R94, R53), and the spool memory is in
its canonical form. -/
def RangeLaw (s : State) : Prop :=
  (∀ k : Kiosk, (s.kioskSpool[k]).quota ≤ 1024) ∧ (1000 ≤ s.fillLimit ∧ s.fillLimit ≤ 120000) ∧
    (∀ c ∈ s.claims, 100 ≤ c.lease ∧ c.lease ≤ 600000 ∧ c.waitLimit ≤ 60000) ∧ Memory.wf s.spool = true

/-! ### Laws of the claims -/

/-- Claim ids are distinct, 1 to 255, and the table holds at most 24 records (R50, R51). -/
def ClaimIdLaw (s : State) : Prop :=
  s.claims.Pairwise (fun c d => c.id < d.id) ∧ (∀ c ∈ s.claims, 1 ≤ c.id ∧ c.id ≤ 255) ∧ s.claims.length ≤ 24 ∧
    1 ≤ s.nextClaim ∧ s.nextClaim ≤ 255

/-- Two claims on one resource are of different kiosks and not both HELD (R50, R52). -/
def ClaimsApart (c d : Claim) : Prop := c.resource = d.resource → c.kiosk ≠ d.kiosk ∧ ¬(c.held = true ∧ d.held = true)

/-- The law of the wait queues: the waiters are the WAITING claims, each behind a holder, at most 4 to a resource
(R52). -/
def ClaimLaw (s : State) : Prop :=
  ClaimIdLaw s ∧ s.claims.Pairwise ClaimsApart ∧ s.waits.Nodup ∧
    (∀ id, id ∈ s.waits ↔ ∃ c ∈ s.claims, c.id = id ∧ c.held = false) ∧
    (∀ c ∈ s.claims, c.held = false → (holder? s c.resource).isSome) ∧ ∀ r, (waitQueue s r).length ≤ 4

/-! ### Laws of the contacts -/

/-- No two entries share a panel and raw id, no raw id is both in the table and ignored, and an ignored set holds each id
once (R24, R25). -/
def ContactLaw (s : State) : Prop :=
  (∀ m n : ContactNo, ∀ c d, s.contacts[m] = some c → s.contacts[n] = some d → c.panel = d.panel → c.rawId = d.rawId →
    m = n) ∧
  (∀ n : ContactNo, ∀ c, s.contacts[n] = some c → c.rawId ∉ s.ignored[c.panel]) ∧ ∀ i : Slot, (s.ignored[i]).Nodup

/-- A LIVE contact's zone is ENABLED, lies on the contact's panel and is owned by its owner, and a position was produced
for it (R40). -/
def LiveContact (s : State) (c : Contact) : Prop :=
  ∃ z e k p, c.zone = some z ∧ s.zones[z] = some e ∧ e.enabled = true ∧ e.panel = c.panel ∧ c.owner = some k ∧
    zoneOwner s z = some k ∧ c.last = some p

/-- The law of the LIVE contacts (R40), with the claim ids that keep owners apart. -/
def LiveLaw (s : State) : Prop :=
  ClaimIdLaw s ∧ ∀ n : ContactNo, ∀ c, s.contacts[n] = some c → c.live = true → LiveContact s c

/-! ### Laws of the spooler -/

/-- Job ids are distinct, 1 to 65535; the table holds at most 24 records; the terminal list names terminal records, each
once (R75, R78, R79). -/
def JobLaw (s : State) : Prop :=
  s.jobs.Pairwise (fun j k => j.id < k.id) ∧ (∀ j ∈ s.jobs, 1 ≤ j.id ∧ j.id ≤ 65535) ∧ s.jobs.length ≤ 24 ∧
    (1 ≤ s.nextJob ∧ s.nextJob ≤ 65535) ∧ s.terminal.Nodup ∧
    ∀ id, id ∈ s.terminal ↔ ∃ j ∈ s.jobs, j.id = id ∧ j.state.isTerminal = true

/-- The bytes in a chain whose last block holds `fill` bytes, first byte first (R72, R84). -/
def chainBytes (m : List Host.Cell) : List Nat → Nat → List Byte
  | [], _ => []
  | [b], fill => readBlock m b fill
  | b :: c :: rest, fill => readBlock m b 48 ++ chainBytes m (c :: rest) fill

/-- The blocks in the chains of a kiosk's jobs (R73). -/
def chainBlocks (s : State) (k : Kiosk) : List Nat := (s.jobs.filter fun j => j.kiosk = k).flatMap Job.chain

/-- The free list and the chains together hold each of the 1024 blocks exactly once (R72), a held count is the number of
blocks in the chains of the kiosk's jobs (R73), and a terminal job is closed and has an empty chain (R76, R77). -/
def BlockLaw (s : State) : Prop :=
  JobLaw s ∧ (s.free ++ s.jobs.flatMap Job.chain).Perm (List.range 1024) ∧
    (∀ k : Kiosk, (s.kioskSpool[k]).held = (chainBlocks s k).length) ∧
    ∀ j ∈ s.jobs, j.state.isTerminal = true → j.isOpen = false ∧ j.chain = []

/-- The jobs of a printer queue: at most 8, each a non-terminal job of that slot, and only the head may be FEEDING,
DRAINING or CANCELLING (R80). -/
def QueuedJobs (s : State) (i : Slot) : Prop :=
  (s.printQueue[i]).length ≤ 8 ∧ (s.printQueue[i]).Nodup ∧
    (∀ id ∈ s.printQueue[i], ∃ j ∈ s.jobs, j.id = id ∧ j.slot = i ∧ j.state.isTerminal = false) ∧
    ∀ id ∈ (s.printQueue[i]).tail, ∀ j ∈ s.jobs, j.id = id → j.state = .filling ∨ j.state = .queued

/-- The law of the printer queues (R80): every non-terminal job stands in the queue of its slot, and a slot that is no
printer has no job. -/
def PrintQueueLaw (s : State) : Prop :=
  JobLaw s ∧ (∀ i : Slot, QueuedJobs s i) ∧
    (∀ j ∈ s.jobs, j.state.isTerminal = false → j.id ∈ s.printQueue[j.slot]) ∧
    ∀ i : Slot, definedKind s i ≠ some .printer → s.printQueue[i] = []

/-! ### Laws of the engines -/

/-- The state in which the Spooler holds the head job while the engine is in a step other than NONE (R99). -/
def FeedStep.jobState : FeedStep → JobState
  | .endWait => .draining
  | .abortMark => .cancelling
  | _ => .feeding

/-- The feed step of a slot against its head job (R98, R99): in step NONE the engine has no job and the head job is FILLING
or QUEUED; in every other step its job is the head job, in the state of R99's table, and in END_MARK every block of it is
fed and it is closed. -/
def FeedStepLaw (s : State) (i : Slot) : Prop :=
  ((s.feeds[i]).step = .none →
    (s.feeds[i]).job = none ∧ ∀ j, headJob? s i = some j → j.state = .filling ∨ j.state = .queued) ∧
  ((s.feeds[i]).step ≠ .none →
    ∃ j, headJob? s i = some j ∧ (s.feeds[i]).job = some j.id ∧ j.state = (s.feeds[i]).step.jobState ∧
      ((s.feeds[i]).step = .endMark → j.isOpen = false ∧ j.chain = []))

/-- The law of the Feed Engines (R98, R99), with the printer queues that keep it. -/
def FeedLaw (s : State) : Prop := PrintQueueLaw s ∧ ∀ i : Slot, FeedStepLaw s i

/-- A place of the board, and a transaction in flight that is not orphaned, belong to a defined slot (R137, R162, R163). -/
def SlotLaw (s : State) : Prop :=
  (∀ i : Slot, (s.units[i]).definition = none → s.board[i] = none) ∧
    ∀ t i, s.bus = .running t → t.slot = some i → t.orphaned = false → (s.units[i]).definition ≠ none

/-- The transactions of a slot's engine that are posted or in flight (R98, R118). -/
def engineTxns (s : State) (i : Slot) : List TxnName :=
  ((s.board[i]).filter fun p => decide (p.owner = .engine)).toList.map (fun p => engineName p.command p.data) ++
    match s.bus with
    | .running t => if t.owner = .engine ∧ t.slot = some i ∧ t.orphaned = false then [t.name] else []
    | _ => []

/-- The law of credit (R120): a scan's credit and its frames waiting come to at most 32. What keeps it: at most one
transaction of the engine is posted or in flight, the outstanding one, and an outstanding PULL has a unit of credit. -/
def CreditLaw (s : State) : Prop :=
  SlotLaw s ∧ ∀ i : Slot, definedKind s i = some .scanner →
    (∀ k, (s.scans[i]).kiosk = some k → (s.scans[i]).credit + framesWaiting s k i ≤ 32) ∧
    (engineTxns s i = [] ∨ ∃ w, (s.scans[i]).outstanding = some w ∧ engineTxns s i = [w]) ∧
    ((s.scans[i]).outstanding = some .pull → (s.scans[i]).state.pulling = true → 1 ≤ (s.scans[i]).credit)

end Sys2Proof.Machine
end

