-- ==== Sys2Proof/WellFormed.lean ====
section
/-!
DEFINITION. Which commands are events the hub can meet: a request frame no longer than a link frame can be (11.1: a LEN
of 0 to 200), an answer of a unit with as many bytes as its count byte says (R157), a timer event that names a record
that can exist. A request that the hub refuses (a wrong length, a value out of range) is well formed: the refusal is
its meaning.
-/

namespace Sys2Proof

/-- The payload length of a command that carries a list, as 11.4 gives it. Every other payload has a fixed length
below 200. -/
def Instr.listPayload : Instr → Nat
  | .echo _ _ data => data.length
  | .zoneSet _ _ records => 1 + 18 * records.length
  | .zoneClear _ _ indices => 1 + indices.length
  | .printData _ _ _ data => 2 + data.length
  | .busRawWrite _ _ _ _ data => 3 + data.length
  | _ => 0

/-- An answer whose count byte is 0 to 48 holds that many data bytes and a check byte after it (R157); after a count
above 48 the hub reads nothing further. -/
def UnitAnswer.wellFormed (a : UnitAnswer) : Bool :=
  match a.received with
  | [] => true
  | count :: rest => decide (48 < count.toNat) || decide (rest.length = count.toNat + 1)

/-- The answer a completion command carries. -/
def Instr.answer? : Instr → Option UnitAnswer
  | .markStartComplete a => some a
  | .creditReadComplete a => some a
  | .feedComplete a => some a
  | .markEndComplete a => some a
  | .pstateReadComplete a => some a
  | .markAbortComplete a => some a
  | .ssetComplete a => some a
  | .sgoComplete a => some a
  | .availReadComplete a => some a
  | .pullComplete a => some a
  | .sstateReadComplete a => some a
  | .shaltComplete a => some a
  | .pingComplete a => some a
  | .restartComplete a => some a
  | .identComplete a => some a
  | .causePollComplete a => some a
  | .contactsReadComplete a => some a
  | .busRawComplete a => some a
  | _ => none

/-- A timer event names a claim id or a job id that a record can hold (R50, R75). -/
def Instr.namesRecord : Instr → Bool
  | .leaseExpiry id => decide (id ≠ 0)
  | .waitLimitExpiry id => decide (id ≠ 0)
  | .fillStallExpiry id => decide (id ≠ 0)
  | _ => true

/-- The bytes of a stalled transaction: at most the 52 bytes of the longest WRITE sent (R156), at most a count byte, 48 data
bytes and a check byte received, since the timer of the check byte runs until its acknowledge bit is clocked (R157, R160). -/
def Instr.stallInRange : Instr → Bool
  | .stallTimerExpiry sent received => decide (sent ≤ 52) && decide (received.length ≤ 50)
  | _ => true

/-- A command the hub can meet. -/
def Instr.wellFormed (i : Instr) : Bool :=
  decide (i.listPayload ≤ 200) && ((i.answer?.map UnitAnswer.wellFormed).getD true) && i.namesRecord && i.stallInRange

end Sys2Proof
end

