-- ==== Sys2Proof/Certificates/Slice0/Obligations.lean ====
section
/-!
DEFINITION. The statements for the provers. Where a statement says what a request does, `answered l r payload t` is the end
of its event: the reply with this payload becomes ready in request slot r of link l of the state t, then the engines, the
bus and the transmitters choose (`settle`, whose frame is `Obligations.EndOfEventFrame`); `taken l r kind tag s` is s with
the request held in slot r. Every field a statement's record does not name is as before.
-/

section
open Sys2Proof Sys2Proof.Machine

/-! ### Laws that every step keeps -/

/-- R189, R191: the touch queues and touch streaks keep their bounds. -/
def Obligations.TouchQueuesBounded : Prop := KeptByStep QueueLaw

/-- R186, R188: each reply belongs to a request slot of its own, and a request that waits keeps its slot. -/
def Obligations.RequestSlotsLawful : Prop := KeptByStep RequestLaw

/-- R164, R166, R135: aging counts, ranks and failure counts keep their ranges; R120: the credit and the frames waiting of
a scan come to at most 32. -/
def Obligations.CountsBounded : Prop := KeptByStep CountLaw ∧ KeptByStep CreditLaw

/-- R73, R94, R53: the settings keep their ranges, and the spool memory its canonical form. -/
def Obligations.SettingsInRange : Prop := KeptByStep RangeLaw

/-- R50, R51, R52: the claim table and the wait queues keep their law. -/
def Obligations.ClaimTableLawful : Prop := KeptByStep ClaimLaw

/-- R24, R25: the contact table and the ignored sets keep their law. -/
def Obligations.ContactTableLawful : Prop := KeptByStep ContactLaw

/-- R40: every LIVE contact's zone is ENABLED, lies on its panel and is owned by its owner. -/
def Obligations.LiveContactsOwned : Prop := KeptByStep LiveLaw

/-- R75, R78, R79: the job table and the terminal list keep their law. -/
def Obligations.JobTableLawful : Prop := KeptByStep JobLaw

/-- R72, R73, R76, R77: each spool block is in the free list or in one chain, exactly once, held counts are right, and a
terminal job is closed with an empty chain. -/
def Obligations.SpoolBlocksConserved : Prop := KeptByStep BlockLaw

/-- R80: the printer queues hold the non-terminal jobs, and only a head job is known to its printer; R98, R99: a Feed
Engine's step and job agree with the head job and its state. -/
def Obligations.PrintQueuesLawful : Prop := KeptByStep PrintQueueLaw ∧ KeptByStep FeedLaw

/-- The state after reset keeps every one of the laws. -/
def Obligations.ResetIsLawful : Prop :=
  QueueLaw State.reset ∧ RequestLaw State.reset ∧ CountLaw State.reset ∧ RangeLaw State.reset ∧ ClaimLaw State.reset ∧
    ContactLaw State.reset ∧ LiveLaw State.reset ∧ JobLaw State.reset ∧ BlockLaw State.reset ∧ PrintQueueLaw State.reset ∧
    CreditLaw State.reset ∧ FeedLaw State.reset

/-! ### The step and the outline of a command -/

/-- A step takes the command at the front of the queue and runs it with the queue's rest. -/
def Obligations.StepRunsFrontCommand : Prop :=
  ∀ (c : Instr) (s : State), step { s with pending := c :: s.pending } = exec c s

/-- The model's choice (log entry 2): with no command waiting one ms of hub time passes and the timer events now due join
the queue, each when its time is reached (R1, R62, R63, R88, R139, R198); in a full reset hub time stays and the reset
completes once the pins let it. -/
def Obligations.IdleStepIsATick : Prop :=
  (∀ s : State, s.pending = [] →
    (s.phase ≠ .full → ∃ t, step s = .next t ∧ t.hubTime = s.hubTime + 1 ∧ t.pending = dueEvents t ∧
      { t with pending := [], hubTime := s.hubTime } = settle s ∧
      ∀ e : Instr, e ∈ t.pending ↔
        (∃ c ∈ t.claims, reached t.hubTime c.expiry = true ∧
          (c.held = true ∧ e = .leaseExpiry (BitVec.ofNat 8 c.id) ∨
            c.held = false ∧ e = .waitLimitExpiry (BitVec.ofNat 8 c.id))) ∨
        (∃ j ∈ t.jobs, j.isOpen = true ∧ reached t.hubTime (after j.lastData t.fillLimit) = true ∧
          e = .fillStallExpiry (BitVec.ofNat 16 j.id)) ∨
        (∃ i : Slot, ∃ x, unitState t i = some .lost ∧ (t.units[i]).reprobe = some x ∧ reached t.hubTime x = true ∧
          e = .reprobeTimerExpiry i) ∨
        (∃ r, t.phase = .soft r true ∧ (∀ l : Link, (t.links[l]).sending = none) ∧ e = .softResetComplete)) ∧
    (s.phase = .full → s.resetLow = true ∨ s.powerOnHold = true → step s = .next s) ∧
    (s.phase = .full → s.resetLow = false → s.powerOnHold = false →
      step s = .next { s with pending := [.fullResetComplete] })) ∧
  (∀ now x : Time, reached now x = true ↔ (now - x).toNat < 2 ^ 31) ∧
  ∀ (now : Time) (ms : Nat), after now ms = now + BitVec.ofNat 32 ms

/-- Every command answers a next state in every state (log entry 22: no rule names a condition that stops the hub). -/
def Obligations.EveryCommandCompletes : Prop := ∀ (c : Instr) (s : State), Completes c s

/-- What the end of an event does and leaves alone. It leaves no call to latch (R145), no place to fill (R147), no grant to
make (R165) and no frame to start (R189, R190); what is in flight, granted or waiting on the board before it stays. It is the
level rules, the postings, the grant, the postings into the place it freed and the transmitters' choices, in this order, and so
changes nothing else, in a soft reset the level rules alone, and in a full reset nothing. That these choices are made once, at the end of an event, is
the model's (log entry 3), and so is what goes on while a reset lasts (log entries 11 and 19). -/
def Obligations.EndOfEventFrame : Prop :=
  ∀ s t : State, settle s = t →
    (s.phase = .running → t = forEach (indices 9) transmit (forEach (indices 12) fillPlace (grant
      (forEach (indices 12) fillPlace (forEach (indices 12) levelRule s))))) ∧
    (∀ r b, s.phase = .soft r b → t = forEach (indices 12) levelRule s) ∧
    (t.pending = s.pending ∧ t.hubTime = s.hubTime ∧ t.phase = s.phase ∧ t.resetLow = s.resetLow ∧
      t.powerOnHold = s.powerOnHold ∧ t.attnLine = s.attnLine ∧ t.freeDrawn = s.freeDrawn) ∧
    (t.zones = s.zones ∧ t.contacts = s.contacts ∧ t.ignored = s.ignored ∧ t.claims = s.claims ∧ t.waits = s.waits ∧
      t.nextClaim = s.nextClaim) ∧
    (t.spool = s.spool ∧ t.free = s.free ∧ t.terminal = s.terminal ∧ t.printQueue = s.printQueue ∧
      t.nextJob = s.nextJob ∧ t.kioskSpool = s.kioskSpool ∧ t.fillLimit = s.fillLimit) ∧
    (t.units = s.units ∧ t.busRaw = s.busRaw) ∧
    (∀ id, job? t id = job? s id ∨
      ∃ j, job? s id = some j ∧ (j.state = .filling ∨ j.state = .queued) ∧ job? t id = some { j with state := .feeding }) ∧
    (∀ l : Link, (t.links[l]).receiver = (s.links[l]).receiver ∧ (t.links[l]).requests = (s.links[l]).requests ∧
      (t.links[l]).lenOverlong = (s.links[l]).lenOverlong ∧ (t.links[l]).check = (s.links[l]).check ∧
      (t.links[l]).dropped = (s.links[l]).dropped) ∧
    (∀ k : Kiosk, (t.kiosks[k]).maintenance = (s.kiosks[k]).maintenance ∧ (t.notices[k]).hold = (s.notices[k]).hold ∧
      (t.notices[k]).mask = (s.notices[k]).mask) ∧
    (s.phase ≠ .running → t = { s with attn := t.attn }) ∧
    (s.phase = .full → t = s) ∧
    (s.phase ≠ .full → ∀ i : Slot, levelRule i t = t) ∧
    (s.phase = .running → (∀ i : Slot, fillPlace i t = t) ∧ (∀ l : Link, transmit l t = t) ∧
      (CountLaw s → t.bus = .idle → t.servicePlace = none ∧ ∀ i : Slot, t.board[i] = none)) ∧
    (s.bus ≠ .idle → t.bus = s.bus ∧ t.servicePlace = s.servicePlace ∧ t.pointers = s.pointers ∧
      ∀ (i : Slot) (p : Posting), s.board[i] = some p → t.board[i] = some p) ∧
    ∀ (l : Link) (f : Sending), (s.links[l]).sending = some f → (t.links[l]).sending = some f

/-- R186, R187, R188: a request that is taken is refused and changes nothing, or is served and answered at once with the reply
of the slot it holds (the law of O2 keeps a BUS RAW from standing in a free slot), or is a BUS RAW that keeps its slot and waits for its transaction (R167), a RESET SOFT that keeps its slot and waits for the reset
with no reply queued, or a RESET FULL, which begins the full reset (R198). -/
def Obligations.RefusalChangesNothing : Prop :=
  ∀ (i : Instr) (s : State) (l : Link) (tag : Byte) (k : ReqKind) (r : ReqSlot), i.wellFormed = true →
    requestOf i = some (l, tag, k) → Takes s l r →
    (∃ st : Status, ∃ rest : List Byte, 3 ≤ st.number ∧
      exec i s = .next (answered l r (reply st rest) (taken l r k tag s))) ∨
    (∃ st : Status, ∃ rest : List Byte, ∃ t : State, st.number < 3 ∧
      (s.busRaw ≠ some r → (t.links[l]).requests[r] = some { kind := k.code, tag := tag, ready := false }) ∧
      exec i s = .next (answered l r (reply st rest) t)) ∨
    (l = serviceLink ∧ k = .busRaw ∧ ∃ p : Posting, p.owner = .service ∧
      exec i s = .next (settle { taken l r k tag s with busRaw := some r, servicePlace := some p })) ∨
    (l = serviceLink ∧ i = .resetSoft l tag ∧ ∃ t : State, exec i s = .next t ∧ t.phase = .soft r false ∧
      (t.links[l]).requests[r] = some { kind := k.code, tag := tag, ready := false } ∧
      ∀ m : Link, (t.links[m]).replies = []) ∨
    (l = serviceLink ∧ i = .resetFull l tag ∧ ∃ t : State, exec i s = .next t ∧ t.phase = .full)

/-- R186, R187, R200: what happens to a request before a block sees it, in the order of the checks. -/
def Obligations.RequestChecks : Prop :=
  ∀ (i : Instr) (s : State) (l : Link) (tag : Byte) (k : ReqKind), i.wellFormed = true → requestOf i = some (l, tag, k) →
    s.phase = .running →
    (freeSlot? s l = none →
      exec i s = .next (settle { s with links := upd s.links l fun q => { q with dropped := true } })) ∧
    ∀ r, freeSlot? s l = some r →
      (deniedOn l k = true → exec i s = .next (answered l r (reply .denied (u8 2)) (taken l r k tag s))) ∧
      (deniedOn l k = false → lengthRight i = false →
        exec i s = .next (answered l r (reply .malformed (u8 3)) (taken l r k tag s))) ∧
      (deniedOn l k = false → lengthRight i = true → inMaintenance s l = true →
        k = .claim ∨ k = .printOpen ∨ k = .printData ∨ k = .scanStart →
        exec i s = .next (answered l r (reply .denied (u8 4)) (taken l r k tag s)))

/-- R189, R173, R174, R180, R192: which frame a transmitter takes, when a notice is due, and what leaves its queue; R183,
R201, R202: the bytes of the frames (the unnamed bits of a flags byte are 0: log entry 33), and the reply a request slot gets
(for a KIND of 80h and above, log entry 14). -/
def Obligations.TransmitterChoice : Prop :=
  (∀ (s : State) (l : Link) (f : Sending), (s.links[l]).sending = some f → transmit l s = s) ∧
  (∀ (s : State) (l : Link) (x : Reply) (xs : List Reply), (s.links[l]).sending = none →
    (s.links[l]).replies = x :: xs →
    transmit l s = { s with links := upd s.links l fun q => { q with
      replies := xs, sending := some { slot := some x.slot, bytes := frameBytes x.kind x.tag x.payload } } }) ∧
  (∀ s : State, (s.links[serviceLink]).sending = none → (s.links[serviceLink]).replies = [] →
    transmit serviceLink s = s) ∧
  (∀ (s : State) (l : Link) (k : Kiosk), OnKiosk l k → (s.links[l]).sending = none → (s.links[l]).replies = [] →
    (∀ c w, (s.notices[k]).forced = some (c, w) →
      transmit l s = sent l (noticeFrame true c w) { s with notices := upd s.notices k fun n => { n with forced := none } }) ∧
    ((s.notices[k]).forced = none → noticeDue s.notices[k] (s.kiosks[k]).maintenance = true →
      ∀ c, carried s.notices[k] (s.kiosks[k]).maintenance = c →
      transmit l s = sent l (noticeFrame false c 0) { s with notices := upd s.notices k fun n => { n with
        pending := n.pending &&& ~~~c, enabled := n.enabled &&& ~~~c } }) ∧
    ((s.notices[k]).forced = none → noticeDue s.notices[k] (s.kiosks[k]).maintenance = false →
      (∀ f fs, (s.kiosks[k]).scan = f :: fs → (s.kiosks[k]).streak = 4 ∨ (s.kiosks[k]).touch = [] →
        transmit l s = sent l (scanDataFrame f)
          { s with kiosks := upd s.kiosks k fun q => { q with scan := fs, streak := 0 } }) ∧
      (∀ e es, (s.kiosks[k]).touch = e :: es → (s.kiosks[k]).streak ≠ 4 ∨ (s.kiosks[k]).scan = [] →
        transmit l s = sent l (touchFrame e (s.kiosks[k]).gap)
          { s with kiosks := upd s.kiosks k fun q => { q with
            touch := es, gap := false, streak := min 4 (q.streak + 1) } }) ∧
      ((s.kiosks[k]).touch = [] → (s.kiosks[k]).scan = [] → transmit l s = s))) ∧
  (∀ n : NoticeState,
    (carried n false = n.pending &&& n.enabled ∧
      (noticeDue n false = true ↔ n.hold = false ∧ n.pending &&& n.enabled ≠ 0)) ∧
    carried n true = n.pending &&& n.enabled &&& n.mask ∧
      (noticeDue n true = true ↔ n.pending &&& n.enabled &&& n.mask ≠ 0)) ∧
  (∀ (kind tag : Byte) (p body : List Byte), p.length ≤ 200 → body = BitVec.ofNat 8 p.length :: kind :: tag :: p →
    frameBytes kind tag p = 0x5A :: body ++ u16 (crc16 body)) ∧
  (crc16 [] = 0xFFFF ∧ ∀ (p : List Byte) (b : Byte),
    crc16 (p ++ [b]) = (List.range 8).foldl
      (fun (v : Half) _ => if v.getLsbD 15 = true then (v <<< 1) ^^^ 0x1021 else v <<< 1) (crc16 p ^^^ (b ++ 0#8))) ∧
  (∀ (forced : Bool) (c : ClassSet) (w : Half),
    noticeFrame forced c w = frameBytes 0x70 0 ([BitVec.ofNat 8 forced.toNat] ++ u16n c.toNat ++ u16 w)) ∧
  (∀ (e : TouchEvent) (gap : Bool) (phase : Nat), (e.phase = .down → phase = 1) → (e.phase = .move → phase = 2) →
    (e.phase = .up → phase = 3) → (e.phase = .cancel → phase = 4) →
    touchFrame e gap = frameBytes 0x71 0 (u8 e.contact.val ++ u8 phase ++ orNone e.zone ++ u16n e.x ++ u16n e.y ++
      u16 e.time ++ u8 (e.edge.toNat + 2 * gap.toNat))) ∧
  (∀ f : ScanFrame, scanDataFrame f = frameBytes 0x72 0 (u8 f.slot.val ++ u16 f.seq ++ f.data)) ∧
  ∀ (s : State) (l : Link) (r : ReqSlot) (payload : List Byte),
    ((s.links[l]).requests[r] = none → queueReply l r payload s = s) ∧
    ∀ q, (s.links[l]).requests[r] = some q →
      queueReply l r payload s = { s with
        links := upd s.links l fun k => { k with
          requests := upd k.requests r fun _ => some { q with ready := true }
          replies := k.replies ++ [{ slot := r, kind := q.kind + 0x80, tag := q.tag, payload := payload }] } }

/-- R153, R160, R165, R166, R147: what a grant takes from the board, an aged posting counting as panel rank, the record of the
transaction it puts in flight, and what it does to the postings that stay. That the record's stall time is 30 ms after the grant
is the model's choice (log entry 5), and that a cause poll granted with the pending flag clear carries the capture time held is an
inference (log entry 34). -/
def Obligations.GrantChoice : Prop :=
  (∀ (p : Posting) (slot : Option Slot) (capture now : Time), p.start slot capture now =
    { owner := p.owner, slot := slot, kind := p.kind, address := p.address, command := p.command, data := p.data
      minCount := p.minCount, capture := capture, orphaned := false
      progress := { sent := [], received := [], check := 0xFF }, stallAt := now + 30 }) ∧
  (∀ p : Posting, (p.aging = 16 → p.effectiveRank = .panel) ∧ (p.aging ≠ 16 → p.effectiveRank = p.rank)) ∧
  (∀ s : State, s.bus ≠ .idle → grant s = s) ∧
  (∀ s : State, s.servicePlace = none → (∀ i : Slot, s.board[i] = none) → grant s = s) ∧
  (∀ (s : State) (p : Posting), s.bus = .idle → s.servicePlace = some p →
    grant s = { s with servicePlace := none, board := ageBoard s.board, bus := .running (p.start none 0 s.hubTime) }) ∧
  ∀ s : State, CountLaw s → s.bus = .idle → s.servicePlace = none →
    (∀ i : Slot, s.board[i] ≠ none → ∃ j p, Wins s j p) ∧
    ∀ (i : Slot) (p : Posting), Wins s i p →
      (grant s).bus = .running (p.start (some i) (if p.owner = .cause then (s.attn[i]).capture else 0) s.hubTime) ∧
      (grant s).board[i] = none ∧
      (∀ j : Slot, j ≠ i →
        (grant s).board[j] = (s.board[j]).map fun q => { q with aging := min 16 (q.aging + 1) }) ∧
      (grant s).pointers = s.pointers.move p.effectiveRank i ∧
      (p.owner = .cause → (grant s).attn = upd s.attn i fun a => { a with pending := false }) ∧
      (p.owner ≠ .cause → (grant s).attn = s.attn) ∧
      { grant s with bus := s.bus, board := s.board, pointers := s.pointers, attn := s.attn } = s

/-- R147, R163, R100, R102, R104, R123, R26, R159: a slot's place is filled only when it is empty and the slot READY, and a
READY slot's empty place is filled: by the cause poll when the enable and the pending flag are set, else by the first line
that applies of the engine's work table; a FEED or a PULL needs credit. -/
def Obligations.PostingRules : Prop :=
  (∀ (s : State) (i : Slot) (p : Posting), s.board[i] = some p → fillPlace i s = s) ∧
  (∀ (s : State) (i : Slot) (p : Posting), s.board[i] = none → (fillPlace i s).board[i] = some p →
    isReady s i = true ∧ p.aging = 0 ∧ p.address = slotAddress s i ∧
    ((s.units[i]).enable = true → (s.attn[i]).pending = true → p.owner = .cause ∧ p.kind = .read ∧ p.command = 0x03) ∧
    ((s.units[i]).enable = false ∨ (s.attn[i]).pending = false → p.owner = .engine) ∧
    (p.owner = .engine → p.command = 0x11 →
      definedKind s i = some .printer ∧ (s.feeds[i]).outstanding = none ∧ (s.feeds[i]).step = .stream ∧
        (s.feeds[i]).paused = false ∧ (s.feeds[i]).creditKnown = true ∧ 0 < (s.feeds[i]).credit ∧
        ∃ j, headJob? s i = some j ∧ j.feedable = true ∧ p.data = feedBytes s j) ∧
    (p.owner = .engine → p.command = 0x23 →
      definedKind s i = some .scanner ∧ (s.scans[i]).outstanding = none ∧
        ((s.scans[i]).state = .running ∨ (s.scans[i]).state = .ending) ∧ 0 < (s.scans[i]).available ∧
        0 < (s.scans[i]).credit) ∧
    (p.owner = .engine → p.command = 0x30 →
      definedKind s i = some .panel ∧ (s.panels[i]).readWanted = true ∧ (s.panels[i]).outstanding = false)) ∧
  ∀ (s : State) (i : Slot) (d : UnitDef), (s.units[i]).definition = some d → d.state = .ready → s.board[i] = none →
    ((s.units[i]).enable = true → (s.attn[i]).pending = true →
      fillPlace i s = { s with
        board := upd s.board i fun _ => some (ownPosting .cause d.address (kindRank d.kind) .cause []) }) ∧
    ((s.units[i]).enable = false ∨ (s.attn[i]).pending = false →
      (d.kind = .panel →
        ((s.panels[i]).readWanted = true → (s.panels[i]).outstanding = false →
          fillPlace i s = { s with
            panels := upd s.panels i fun e => { e with outstanding := true }
            board := upd s.board i fun _ => some (ownPosting .engine d.address .panel .contacts []) }) ∧
        ((s.panels[i]).readWanted = false ∨ (s.panels[i]).outstanding = true → fillPlace i s = s)) ∧
      (d.kind = .scanner → ∀ q, q = s.scans[i] →
        (q.outstanding ≠ none ∨ firstLine (scanTable q) = none → fillPlace i s = s) ∧
        (q.outstanding = none → ∀ w data, firstLine (scanTable q) = some w →
          (w = .sset → data = u16n q.x ++ u16n q.y ++ u16n q.w ++ u16n q.h ++ u8 q.resolution ++ u8 q.mode.code) →
          (w = .sgo ∨ w = .shalt → data = [0]) → (w = .sstate ∨ w = .avail ∨ w = .pull → data = []) →
          fillPlace i s = { s with
            scans := upd s.scans i fun q => { q with
              outstanding := some w, haltOwed := q.haltOwed && decide (w ≠ .shalt) }
            board := upd s.board i fun _ => some (ownPosting .engine d.address .scanner w data) })) ∧
      (d.kind = .printer → ∀ e head, e = s.feeds[i] → head = headJob? s i →
        (e.outstanding ≠ none ∨ firstLine (feedTable e head) = none → fillPlace i s = s) ∧
        (e.outstanding = none → ∀ w id data, firstLine (feedTable e head) = some w →
          (e.step = .none → head.map Job.id = some id) → (e.step ≠ .none → e.job = some id) →
          (w = .markStart → data = 1 :: u16n id) → (w = .markEnd → data = 2 :: u16n id) →
          (w = .markAbort → data = 3 :: u16n id) → (w = .credit ∨ w = .pstate → data = []) →
          (w = .feed → ∀ j b rest, head = some j → j.chain = b :: rest →
            data = readBlock s.spool b (if rest = [] then j.fill else 48)) →
          fillPlace i s = { s with
            feeds := upd s.feeds i fun e => { e with
              outstanding := some w, job := some id
              step := if w = .markStart then .startMark else if w = .markEnd then .endMark else e.step }
            jobs := if w = .markStart ∧ e.step = .none then
                s.jobs.map fun x => if x.id = id then { x with state := .feeding } else x
              else s.jobs
            board := upd s.board i fun _ => some (ownPosting .engine d.address .printer w data) })))

/-! ### Resets -/

/-- R96: the Spooler after a full reset. -/
def Obligations.SpoolerAfterFullReset : Prop :=
  ∀ (s : State) (c : Instr), StartsFullReset s c →
    ∃ u v, exec c s = .next u ∧ exec .fullResetComplete u = .next v ∧
      v.free = List.range 1024 ∧ v.free.length = 1024 ∧ v.jobs = [] ∧ v.terminal = [] ∧
      (∀ i : Slot, v.printQueue[i] = []) ∧ v.nextJob = 1 ∧
      (∀ k : Kiosk, v.kioskSpool[k] = { quota := 256, held := 0, wantRoom := false }) ∧ v.fillLimit = 15000

/-- R198, R199, R182, R173: the events of a full reset. Every block takes its full-reset values at once and holds them
until the reset completes (log entry 19); then each kiosk's RESTARTED notice is sent. The model's choices: a FULL_RESET_COMPLETE
outside a full reset has no effect (log entry 4); the input pins are not the hub's, so a reset leaves the attention lines and
the RESET input as they are and the completion sets the RESET input high and power-on detection released (log entry 8); the
counter of free values goes on (log entry 6). -/
def Obligations.FullResetEvents : Prop :=
  (∀ s : State, exec .powerOn s = .next { State.reset with
    pending := s.pending, phase := .full, resetLow := s.resetLow, powerOnHold := true, attnLine := s.attnLine
    freeDrawn := s.freeDrawn }) ∧
  (∀ s : State, exec .resetPinAssert s = .next { State.reset with
    pending := s.pending, phase := .full, resetLow := true, powerOnHold := s.powerOnHold, attnLine := s.attnLine
    freeDrawn := s.freeDrawn }) ∧
  (∀ (s : State) (r : ReqSlot) (tag : Byte), Takes s serviceLink r →
    exec (.resetFull serviceLink tag) s = .next { State.reset with
      pending := s.pending, phase := .full, resetLow := s.resetLow, powerOnHold := s.powerOnHold, attnLine := s.attnLine
      freeDrawn := s.freeDrawn }) ∧
  (∀ s : State, s.phase ≠ .full → exec .fullResetComplete s = .next (settle s)) ∧
  (∀ s : State, s.phase = .full →
    exec .fullResetComplete s =
      .next (settle { s with phase := .running, resetLow := false, powerOnHold := false })) ∧
  ∀ (s u v : State) (c : Instr), StartsFullReset s c → exec c s = .next u → exec .fullResetComplete u = .next v →
    v.phase = .running ∧ v.hubTime = 0 ∧
    (∀ l : Link, ∀ k : Kiosk, OnKiosk l k →
      (v.links[l]).sending = some { slot := none, bytes := noticeFrame false restartedClass 0 }) ∧
    (v.links[serviceLink]).sending = none

/-- R198, R22, R48, R71, R97, R117, R134, R151, R152, R170, R182, R199: what a soft reset keeps, what it drops, and the
probes it owes, with nothing posted until it completes. That an idle bus recovers too and what goes on until the completion
are inferences (log entries 12 and 11). -/
def Obligations.SoftReset : Prop :=
  ∀ (s : State) (r : ReqSlot) (tag : Byte), Takes s serviceLink r →
    ∃ t, exec (.resetSoft serviceLink tag) s = .next t ∧
      (t.phase = .soft r false ∧ t.hubTime = s.hubTime ∧ t.bus = .recovering (s.hubTime + 30) ∧ t.servicePlace = none ∧
        t.busRaw = none ∧ t.pointers = { panel := 0, scanner := 0, printer := 0, probe := 0 }) ∧
      (t.zones = s.zones ∧ (∀ n : ContactNo, t.contacts[n] = none) ∧ t.claims = [] ∧ t.waits = [] ∧ t.nextClaim = 1) ∧
      (t.jobs = [] ∧ t.terminal = [] ∧ t.free = List.range 1024 ∧ t.nextJob = 1 ∧ t.fillLimit = s.fillLimit ∧
        ∀ k : Kiosk, t.kioskSpool[k] = { quota := (s.kioskSpool[k]).quota, held := 0, wantRoom := false }) ∧
      (∀ k : Kiosk, t.notices[k] =
          { pending := restartedClass, enabled := restartedClass, hold := false, mask := (s.notices[k]).mask
            forced := none } ∧
        t.kiosks[k] = { touch := [], scan := [], streak := 0, gap := false, maintenance := false }) ∧
      (∀ i : Slot, t.printQueue[i] = [] ∧ t.ignored[i] = [] ∧ t.feeds[i] = FeedEngine.reset ∧
        t.scans[i] = ScanRecord.reset ∧ t.panels[i] = PanelEngine.reset ∧
        (t.attn[i]).pending = lineActive s i ∧ (t.units[i]).mode = (s.units[i]).mode ∧
        (t.units[i]).enable = (s.units[i]).enable ∧ (t.units[i]).ident = (s.units[i]).ident ∧
        t.board[i] = none ∧ ((s.units[i]).definition = none → t.units[i] = s.units[i]) ∧
        ∀ d, (s.units[i]).definition = some d →
          (t.units[i]).definition = some { d with state := .probing } ∧ (t.units[i]).failures = 0 ∧
          (t.units[i]).probe = some .ping ∧ (t.units[i]).reprobe = none) ∧
      ∀ l : Link, (t.links[l]).receiver = .hunt ∧ (t.links[l]).replies = [] ∧ (t.links[l]).lenOverlong = false ∧
        (t.links[l]).check = false ∧ (t.links[l]).dropped = false ∧
        (t.links[l]).sending = ((s.links[l]).sending.map fun f => { f with slot := none }) ∧
        ∀ q : ReqSlot, (t.links[l]).requests[q] =
          if l = serviceLink ∧ q = r then some { kind := 0x06, tag := tag, ready := false } else none

/-- R198, R199, R170, R151: a soft reset ends, with its reply and the first PING of each defined slot, once the release
sequence and every frame being sent have ended, and then the grants begin; while a reset lasts nothing that arrives on a link
is taken. That a SOFT_RESET_COMPLETE before its cause or outside a soft reset has
no effect is the model's choice (log entry 4), and so is how a full reset lasts (log entry 19). -/
def Obligations.SoftResetEndsWithReply : Prop :=
  (∀ (s : State) (r : ReqSlot) (board : Vector (Option Posting) 12), s.phase = .soft r true →
    (∀ l : Link, (s.links[l]).sending = none) →
    (∀ i : Slot, (s.units[i]).definition = none → board[i] = s.board[i]) →
    (∀ (i : Slot) (d : UnitDef), (s.units[i]).definition = some d → board[i] = some
      { owner := .probe, kind := .ping, address := d.address, command := 0, data := [], minCount := 0
        rank := .probe, aging := 0 }) →
    exec .softResetComplete s =
      .next (answered serviceLink r (reply .ok []) { s with phase := .running, board := board })) ∧
  (∀ (s : State) (r : ReqSlot) (b : Bool), s.phase = .soft r b → b = false ∨ (∃ l : Link, (s.links[l]).sending ≠ none) →
    exec .softResetComplete s = .next (settle s)) ∧
  (∀ s : State, s.phase = .running ∨ s.phase = .full → exec .softResetComplete s = .next (settle s)) ∧
  ∀ s : State, s.phase ≠ .running →
    (∀ (i : Instr) (l : Link) (tag : Byte) (k : ReqKind), requestOf i = some (l, tag, k) → exec i s = .next (settle s)) ∧
    (∀ (l : Link) (b : Byte), exec (.linkByteReceived l b) s = .next (settle s)) ∧
    ∀ l : Link, exec (.characterError l) s = .next (settle s)

/-! ### What the blocks compute -/

/-- R36: the rotation, its ranges and its edges. -/
def Obligations.RotationTable : Prop :=
  ∀ (e : Zone) (dx dy : Nat), dx + 1 ≤ e.width → dy + 1 ≤ e.height →
    (e.rotation = 0 → rotate e dx dy = (dx, dy, e.width, e.height)) ∧
    (e.rotation = 1 → rotate e dx dy = (dy, e.width - 1 - dx, e.height, e.width)) ∧
    (e.rotation = 2 → rotate e dx dy = (e.width - 1 - dx, e.height - 1 - dy, e.width, e.height)) ∧
    (e.rotation = 3 → rotate e dx dy = (e.height - 1 - dy, dx, e.height, e.width)) ∧
    (rotate e dx dy).1 + 1 ≤ (rotate e dx dy).2.2.1 ∧ (rotate e dx dy).2.1 + 1 ≤ (rotate e dx dy).2.2.2 ∧
    (dx = 0 → (e.rotation = 0 → (rotate e dx dy).1 = 0) ∧ (e.rotation = 1 → (rotate e dx dy).2.1 = e.width - 1) ∧
      (e.rotation = 2 → (rotate e dx dy).1 = e.width - 1) ∧ (e.rotation = 3 → (rotate e dx dy).2.1 = 0))

/-- R35, R37: offset, clamp and scale: every local position lies in the logical size, and EDGE says that the raw position
lay outside the zone. -/
def Obligations.MappingInRange : Prop :=
  ∀ (e : Zone) (x y : Nat), 1 ≤ e.width → 1 ≤ e.height → 1 ≤ e.logicalWidth → 1 ≤ e.logicalHeight →
    (mapPosition e x y).x < e.logicalWidth ∧ (mapPosition e x y).y < e.logicalHeight ∧
    ((mapPosition e x y).edge = true ↔ e.contains x y = false) ∧
    ∀ (dx dy : Nat), (x ≤ e.left → dx = 0) → (e.left ≤ x → dx = min (x - e.left) (e.width - 1)) →
      (y ≤ e.top → dy = 0) → (e.top ≤ y → dy = min (y - e.top) (e.height - 1)) →
      ∀ u v eu ev, rotate e dx dy = (u, v, eu, ev) →
        (mapPosition e x y).x = (2 * u + 1) * e.logicalWidth / (2 * eu) ∧
        (mapPosition e x y).y = (2 * v + 1) * e.logicalHeight / (2 * ev)

/-- R7: point lookup gives the lowest ENABLED entry of the panel that contains the point, or none. -/
def Obligations.PointLookupLowest : Prop :=
  ∀ (s : State) (panel : Slot) (x y : Nat),
    (∀ z : ZoneIx, pointLookup s panel x y = some z ↔
      (∃ e, s.zones[z] = some e ∧ e.enabled = true ∧ e.panel = panel ∧ e.contains x y = true) ∧
      ∀ w : ZoneIx, w < z → ∀ e, s.zones[w] = some e → e.enabled = true → e.panel = panel → e.contains x y = false) ∧
    (pointLookup s panel x y = none ↔
      ∀ w : ZoneIx, ∀ e, s.zones[w] = some e → e.enabled = true → e.panel = panel → e.contains x y = false)

/-- R191, R192: an event that arrives at a touch queue coalesces, joins the tail, displaces a MOVE or is dropped. -/
def Obligations.TouchQueueArrival : Prop :=
  ∀ (e : TouchEvent) (k : KioskLink),
    (e.phase = .move → ∀ a x b, k.touch = a ++ x :: b → x.contact = e.contact → (∀ y ∈ b, y.contact ≠ e.contact) →
      x.phase = .move →
      enqueueTouch e k = { k with touch := a ++ { x with x := e.x, y := e.y, time := e.time, edge := e.edge } :: b }) ∧
    (e.phase ≠ .move ∨ (∀ y ∈ k.touch, y.contact ≠ e.contact) ∨
        (∃ a x b, k.touch = a ++ x :: b ∧ x.contact = e.contact ∧ (∀ y ∈ b, y.contact ≠ e.contact) ∧ x.phase ≠ .move) →
      (k.touch.length < 16 → enqueueTouch e k = { k with touch := k.touch ++ [e] }) ∧
      (16 ≤ k.touch.length → e.phase = .move → enqueueTouch e k = { k with gap := true }) ∧
      (16 ≤ k.touch.length → e.phase ≠ .move → (∀ y ∈ k.touch, y.phase ≠ .move) →
        enqueueTouch e k = { k with gap := true }) ∧
      (16 ≤ k.touch.length → e.phase ≠ .move → ∀ a x b, k.touch = a ++ x :: b → x.phase = .move →
        (∀ y ∈ a, y.phase ≠ .move) → enqueueTouch e k = { k with touch := a ++ b ++ [e], gap := true }))

/-- R155, R156, R157, R158, R203: the outcome of a transaction that ends by itself, from what the unit did on the wires; the
bytes the hub sends in each kind of transaction, in wire order; and the check byte by its bit steps. -/
def Obligations.WireOutcomes : Prop :=
  (crc8 [] = 0xFF ∧ ∀ (p : List Byte) (b : Byte),
    crc8 (p ++ [b]) = (List.range 8).foldl
      (fun (v : Byte) _ => if v.getLsbD 7 = true then (v <<< 1) ^^^ 0x31 else v <<< 1) (crc8 p ^^^ b)) ∧
  (∀ (t : Txn) (w r : Byte), w = BitVec.ofNat 8 (2 * t.address) → r = BitVec.ofNat 8 (2 * t.address + 1) →
    (t.kind = .ping → sentBytes t = [w]) ∧
    (t.kind = .write → ∀ covered, covered = w :: t.command :: BitVec.ofNat 8 t.data.length :: t.data →
      sentBytes t = covered ++ [crc8 covered]) ∧
    (t.kind = .read → sentBytes t = [w, t.command, r])) ∧
  ∀ (t : Txn) (a : UnitAnswer),
    (a.nackAt = some 0 → wireOutcome t a = .noAnswer) ∧
    (t.kind = .ping → a.nackAt ≠ some 0 → wireOutcome t a = .ok) ∧
    (t.kind = .write → a.nackAt = none → wireOutcome t a = .ok) ∧
    (t.kind = .write → ∀ k, a.nackAt = some k → 1 ≤ k → k ≤ t.data.length + 2 → wireOutcome t a = .refused) ∧
    (t.kind = .write → a.nackAt = some (t.data.length + 3) → wireOutcome t a = .checkFail) ∧
    (t.kind = .read → a.nackAt = some 1 ∨ a.nackAt = some 2 → wireOutcome t a = .refused) ∧
    (t.kind = .read → a.nackAt = none → ∀ count rest, a.received = count :: rest →
      (48 < count.toNat → wireOutcome t a = .overlong) ∧
      (count.toNat < t.minCount → count.toNat ≤ 48 → wireOutcome t a = .short) ∧
      (count.toNat ≤ 48 → t.minCount ≤ count.toNat → ∀ d check, rest = d ++ [check] → d.length = count.toNat →
        (check = crc8 (sentBytes t ++ count :: d) → wireOutcome t a = .ok ∧
          okData { t with progress := wireProgress t a } .ok = d) ∧
        (check ≠ crc8 (sentBytes t ++ count :: d) → wireOutcome t a = .checkFail)))

/-- R83, R72: the bytes accepted into a chain stand in it in order, in blocks taken from the head of the free list only
as they are needed; every other block keeps its bytes. -/
def Obligations.SpooledBytesKeepOrder : Prop :=
  ∀ (w : Writing) (bytes : List Byte), Memory.wf w.spool = true → (w.chain ++ w.free).Nodup → w.fill ≤ 48 →
    (w.chain = [] → w.fill = 0) →
    bytes.length ≤ (if w.chain = [] then 0 else 48 - w.fill) + 48 * w.free.length →
    ∃ v n, bytes.foldl writeByte w = v ∧ chainBytes v.spool v.chain v.fill = chainBytes w.spool w.chain w.fill ++ bytes ∧
      v.chain = w.chain ++ w.free.take n ∧ v.free = w.free.drop n ∧ n ≤ w.free.length ∧ v.fill ≤ 48 ∧
      48 * v.chain.length < 48 * w.chain.length + bytes.length + 48 ∧ (1 ≤ n → 1 ≤ v.fill) ∧
      ∀ b k, b ∉ v.chain → k < 48 → Memory.read v.spool (blockAddress b k) = Memory.read w.spool (blockAddress b k)

/-- R51, R78: the search for an id finds one that no record has, within its range, and the first from the counter on. -/
def Obligations.FreshIds : Prop :=
  ∀ (ids : List Nat) (last v : Nat), ids.length < last → 1 ≤ v → v ≤ last →
    ∃ id, freshId (fun x => decide (x ∈ ids)) last (ids.length + 1) v = id ∧ id ∉ ids ∧ 1 ≤ id ∧ id ≤ last ∧
      (v ≤ id → ∀ x, v ≤ x → x < id → x ∈ ids) ∧ (id < v → (∀ x, v ≤ x → x ≤ last → x ∈ ids) ∧ ∀ x, 1 ≤ x → x < id → x ∈ ids) ∧
      1 ≤ nextId last id ∧ nextId last id ≤ last

/-- R81: the any-printer choice takes the READY printer with the least unfed data, the lowest slot on a tie. -/
def Obligations.AnyPrinterLeastLoaded : Prop :=
  ∀ (s : State) (excluded : Option Slot) (candidate : Slot → Prop) (load : Slot → Nat),
    (candidate = fun i => definedKind s i = some .printer ∧ isReady s i = true ∧ (s.printQueue[i]).length < 8 ∧
      excluded ≠ some i) →
    (load = fun i => (((s.printQueue[i]).filterMap (job? s)).map fun j => j.spooled - j.fed).sum) →
    (anyPrinter s excluded = none ↔ ∀ i : Slot, ¬candidate i) ∧
    ∀ i : Slot, anyPrinter s excluded = some i →
      candidate i ∧ ∀ j : Slot, candidate j → load i ≤ load j ∧ (j < i → load i < load j)

/-! ### Chapter 10: the requests of the links -/

/-- R194: ECHO and HUB IDENT answer on every link, in maintenance too, and change nothing. -/
def Obligations.EchoAndHubIdent : Prop :=
  ∀ (s : State) (l : Link) (r : ReqSlot) (tag : Byte), Takes s l r →
    (∀ data : List Byte, data.length ≤ 199 →
      exec (.echo l tag data) s = .next (answered l r (reply .ok data) (taken l r .echo tag s))) ∧
    (∀ data : List Byte, data.length = 200 →
      exec (.echo l tag data) s = .next (answered l r (reply .malformed [3]) (taken l r .echo tag s))) ∧
    exec (.hubIdent l tag) s =
      .next (answered l r
        (reply .ok [0x0D, 0x7A, 0x03, 0x18, 1, BitVec.ofNat 8 l.val, 32, 40, 24, 24, 0x04, 0x00, 48, 12, 4, 16])
        (taken l r .hubIdent tag s))

/-- R195, R197: LINK STATUS reports a link, with the fields of 11.4, and clears its fault flags; MAINTAIN sets a kiosk's
maintenance flag. The byte of a set flag (log entry 32) and the unnamed bits of the flags byte (log entry 33) are the model's
choices. -/
def Obligations.LinkStatusAndMaintain : Prop :=
  (∀ (s : State) (l m : Link) (r : ReqSlot) (tag : Byte) (named : Option Byte), Takes s l r →
    (l ≠ serviceLink ∧ named = none ∧ m = l ∨ l = serviceLink ∧ named = some (BitVec.ofNat 8 m.val)) →
    exec (.linkStatus l tag named) s =
      .next (answered l r (reply .ok (linkReport (taken l r .linkStatus tag s) m))
        { taken l r .linkStatus tag s with
          links := upd (taken l r .linkStatus tag s).links m fun q => { q with
            lenOverlong := false, check := false, dropped := false } })) ∧
  (∀ (s : State) (m : Link) (faults held : Nat),
    faults = (s.links[m]).lenOverlong.toNat + 2 * (s.links[m]).check.toNat + 4 * (s.links[m]).dropped.toNat →
    held = ((List.finRange 4).filter fun x => ((s.links[m]).requests[x]).isSome).length →
    (m = serviceLink → linkReport s m = u8 faults ++ u8 held ++ [0, 0, 0]) ∧
    ∀ k : Kiosk, OnKiosk m k →
      linkReport s m =
        u8 (faults + 8 * (s.kiosks[k]).maintenance.toNat + 16 * (s.kiosks[k]).gap.toNat) ++ u8 held ++
          u8 (s.kiosks[k]).touch.length ++ u16n (s.kiosks[k]).scan.length) ∧
  (∀ (s : State) (r : ReqSlot) (tag b : Byte), Takes s serviceLink r → 8 < b.toNat →
    exec (.linkStatus serviceLink tag (some b)) s =
      .next (answered serviceLink r (reply .badArg []) (taken serviceLink r .linkStatus tag s))) ∧
  ∀ (s : State) (r : ReqSlot) (tag b : Byte), Takes s serviceLink r →
    (∀ k : Kiosk, b.toNat = k.val →
      exec (.maintainOn serviceLink tag b) s =
        .next (answered serviceLink r (reply .ok (flagByte (s.kiosks[k]).maintenance))
          { taken serviceLink r .maintain tag s with
            kiosks := upd s.kiosks k fun q => { q with maintenance := true } }) ∧
      exec (.maintainOff serviceLink tag b) s =
        .next (answered serviceLink r (reply .ok (flagByte (s.kiosks[k]).maintenance))
          { taken serviceLink r .maintain tag s with
            kiosks := upd s.kiosks k fun q => { q with maintenance := false } })) ∧
    (7 < b.toNat →
      exec (.maintainOn serviceLink tag b) s =
        .next (answered serviceLink r (reply .badArg []) (taken serviceLink r .maintain tag s)) ∧
      exec (.maintainOff serviceLink tag b) s =
        .next (answered serviceLink r (reply .badArg []) (taken serviceLink r .maintain tag s)))

/-- R196, R70, R42, R95, R130, R181: CLEAR KIOSK runs every block's part, and leaves nothing of the kiosk's work; the claims of the
other kiosks stay, but for the grant to the head waiter of a resource the kiosk held, and so do their contacts, queues, jobs and
scans; of their notices only CLAIM_GRANTED and SPOOL_ROOM are latched; a scan whose owner claim goes is halted as CANCELLED; no
CANCEL is sent (how its halted scans are counted is an inference, log entry 23). -/
def Obligations.ClearKiosk : Prop :=
  (∀ (s : State) (l : Link) (r : ReqSlot) (k : Kiosk) (tag : Byte) (named : Option Byte), Takes s l r →
    (OnKiosk l k ∧ named = none ∨ l = serviceLink ∧ named = some (BitVec.ofNat 8 k.val)) →
    exec (.clearKiosk l tag named) s =
      .next (answered l r
        (reply .ok (u8 (s.claims.filter fun c => decide (c.kiosk = k)).length ++ u8 (jobsToCancel s k) ++
          u8 (scansHalted (taken l r .clearKiosk tag s) (clearClaims k (taken l r .clearKiosk tag s)) k)))
        (clearAll k (taken l r .clearKiosk tag s)))) ∧
  (∀ (s : State) (r : ReqSlot) (tag b : Byte), Takes s serviceLink r → 7 < b.toNat →
    exec (.clearKiosk serviceLink tag (some b)) s =
      .next (answered serviceLink r (reply .badArg []) (taken serviceLink r .clearKiosk tag s))) ∧
  ∀ (s t : State) (k : Kiosk), clearAll k s = t →
    (∀ c ∈ t.claims, c.kiosk ≠ k) ∧
    (∀ n : ContactNo, ∀ c, t.contacts[n] = some c → c.owner = some k → c.live = false) ∧
    (∀ j ∈ t.jobs, j.kiosk = k → j.state.isTerminal = true ∨ j.state = .cancelling) ∧
    ((t.kiosks[k]).touch = [] ∧ (t.kiosks[k]).scan = [] ∧ (t.kiosks[k]).streak = 0 ∧ (t.kiosks[k]).gap = false ∧
      (t.kiosks[k]).maintenance = (s.kiosks[k]).maintenance) ∧
    ((t.notices[k]).pending = 0 ∧ (t.notices[k]).enabled = 0 ∧ (t.notices[k]).hold = false ∧
      (t.notices[k]).mask = (s.notices[k]).mask ∧ (t.notices[k]).forced = (s.notices[k]).forced) ∧
    (t.kioskSpool[k]).wantRoom = false ∧ (t.kioskSpool[k]).quota = (s.kioskSpool[k]).quota ∧ t.zones = s.zones ∧
    (t.nextClaim = s.nextClaim ∧ t.nextJob = s.nextJob) ∧
    (ClaimLaw s →
      (∀ d ∈ s.claims, d.kiosk ≠ k →
        (nextHolder? s k d.resource ≠ some d.id → claim? t d.id = some d) ∧
        (nextHolder? s k d.resource = some d.id →
          claim? t d.id = some { d with held := true, expiry := s.hubTime + BitVec.ofNat 32 d.lease } ∧
          (t.notices[d.kiosk]).pending.getLsbD 1 = true)) ∧
      (∀ c ∈ t.claims, ∃ d ∈ s.claims, d.id = c.id ∧ d.kiosk = c.kiosk ∧ d.resource = c.resource) ∧
      t.waits = s.waits.filter fun id => s.claims.any fun d =>
        decide (d.id = id ∧ d.kiosk ≠ k ∧ nextHolder? s k d.resource ≠ some id)) ∧
    (ClaimLaw s → ∀ n : ContactNo, t.contacts[n] = (s.contacts[n]).map fun c =>
      if c.owner = some k ∨ ∃ d ∈ s.claims, d.kiosk = k ∧ d.held = true ∧ c.zone.map Resource.zone = some d.resource then
        { c with live := false } else c) ∧
    (ClaimLaw s → LiveLaw s → ∀ (n : ContactNo) (c : Contact), s.contacts[n] = some c → c.owner ≠ some k →
      (∀ z e, c.zone = some z → s.zones[z] = some e → e.home ≠ none → ∀ d ∈ s.claims, d.resource ≠ .zone z) →
      t.contacts[n] = some c) ∧
    (ClaimLaw s → ∀ m : Kiosk, m ≠ k → t.kiosks[m] = s.kiosks[m]) ∧
    (JobLaw s →
      (∀ j ∈ s.jobs, j.kiosk ≠ k → job? t j.id = some j) ∧
      (∀ i : Slot, t.printQueue[i] = (s.printQueue[i]).filter fun id => !s.jobs.any fun j =>
        decide (j.id = id ∧ j.kiosk = k ∧ j.slot = i ∧ (j.state = .filling ∨ j.state = .queued))) ∧
      ∀ i : Slot, (∀ j ∈ s.jobs, j.kiosk = k → j.slot = i → j.state ≠ .feeding ∧ j.state ≠ .draining) →
        t.feeds[i] = s.feeds[i]) ∧
    (ClaimLaw s → ∀ i : Slot,
      ((∃ c ∈ s.claims, c.kiosk = k ∧ c.held = true ∧ c.resource = .scanner i ∧ (s.scans[i]).ownerClaim = some c.id) →
        ((s.scans[i]).state.active = true → t.scans[i] = { s.scans[i] with
          ownerClaim := none, state := .halting, haltOutcome := some .cancelled, haltOwed := true }) ∧
        ((s.scans[i]).state.active = false → t.scans[i] = { s.scans[i] with ownerClaim := none })) ∧
      ((∀ c ∈ s.claims, c.kiosk = k → c.held = true → c.resource = .scanner i → (s.scans[i]).ownerClaim ≠ some c.id) →
        t.scans[i] = s.scans[i])) ∧
    (∀ m : Kiosk, m ≠ k → ∀ n, n ≠ 1 → n ≠ 9 →
      (t.notices[m]).pending.getLsbD n = (s.notices[m]).pending.getLsbD n) ∧
    (ClaimLaw s → ∀ m : Kiosk, m ≠ k → (t.notices[m]).pending.getLsbD 1 = ((s.notices[m]).pending.getLsbD 1 ||
      s.claims.any fun d => decide (d.kiosk = m ∧ nextHolder? s k d.resource = some d.id))) ∧
    (∀ m : Kiosk, m ≠ k → t.notices[m] = { s.notices[m] with pending := (t.notices[m]).pending }) ∧
    t = { s with
      claims := t.claims, waits := t.waits, contacts := t.contacts, kiosks := t.kiosks, scans := t.scans, jobs := t.jobs
      printQueue := t.printQueue, terminal := t.terminal, free := t.free, kioskSpool := t.kioskSpool, feeds := t.feeds
      notices := t.notices }

/-! ### Chapters 1 and 2: zones and contacts -/

/-- R9 to R14, R39, R41: ZONE SET checks a batch record by record by the eight checks of R9 and applies all of it or nothing; a material change mutes the zone's contacts, with a
CANCEL for each that was LIVE, latches ZONE_CHANGED for the old and the new owner alone, and removes the claims on a zone that
stops being a resource, with CLAIM_LOST for holder and waiters (R68). -/
def Obligations.ZoneSet : Prop :=
  (∀ (s : State) (r : ReqSlot) (tag : Byte) (records : List ZoneRecord), Takes s serviceLink r → 1 ≤ records.length →
    records.length ≤ 6 →
    (∀ n c, badRecord s [] records = some (n, c) →
      exec (.zoneSet serviceLink tag records) s =
        .next (answered serviceLink r (reply .badArg (u8 n ++ u8 c)) (taken serviceLink r .zoneSet tag s))) ∧
    (badRecord s [] records = none →
      exec (.zoneSet serviceLink tag records) s =
        .next (answered serviceLink r (reply .ok []) (forEach records applyRecord (taken serviceLink r .zoneSet tag s))))) ∧
  (∀ (s : State) (records : List ZoneRecord),
    (∀ n c, badRecord s [] records = some (n, c) ↔ ∃ a q b, records = a ++ q :: b ∧ n = a.length + 1 ∧
      RecordFails s a q c ∧ (∀ d, d < c → ¬RecordFails s a q d) ∧
      ∀ x p y, a = x ++ p :: y → ∀ d, ¬RecordFails s x p d) ∧
    (badRecord s [] records = none ↔ ∀ a q b, records = a ++ q :: b → ∀ c, ¬RecordFails s a q c)) ∧
  (∀ (s : State) (records : List ZoneRecord), badRecord s [] records = none →
    (∀ q ∈ records, ∃ z e, zoneOf q = some (z, e) ∧ (forEach records applyRecord s).zones[z] = some e ∧ e.deadBand ≤ 15 ∧
      (z.val = q.index.toNat ∧ (e.enabled = true ↔ q.state = 1) ∧ e.panel.val = q.panel.toNat ∧ e.left = q.left.toNat ∧
        e.top = q.top.toNat ∧ e.width = q.width.toNat ∧ e.height = q.height.toNat ∧ e.rotation.val = q.rotation.toNat ∧
        e.logicalWidth = q.logicalWidth.toNat ∧ e.logicalHeight = q.logicalHeight.toNat ∧
        e.deadBand = min 15 q.deadBand.toNat ∧ orNone e.home = [q.home]) ∧
      1 ≤ e.width ∧ e.left + e.width ≤ 4096 ∧ 1 ≤ e.height ∧ e.top + e.height ≤ 4096 ∧ 1 ≤ e.logicalWidth ∧
      1 ≤ e.logicalHeight ∧ definedKind s e.panel = some .panel) ∧
    ∀ z : ZoneIx, (∀ q ∈ records, q.index.toNat ≠ z.val) →
      (forEach records applyRecord s).zones[z] = s.zones[z]) ∧
  (∀ (s : State) (z : ZoneIx) (old e : Zone), s.zones[z] = some old → { old with deadBand := e.deadBand } = e →
    applyZone z e s = { s with zones := upd s.zones z fun _ => some e }) ∧
  ∀ (s t : State) (z : ZoneIx) (e : Zone), ClaimLaw s →
    (∀ old, s.zones[z] = some old → { old with deadBand := e.deadBand } ≠ e) → applyZone z e s = t →
    t.zones = (upd s.zones z fun _ => some e) ∧ Cancelled (inZone z) s t ∧
    (∀ n : ContactNo, ∀ c, t.contacts[n] = some c → c.zone = some z → c.live = false) ∧
    (∀ k : Kiosk, (t.notices[k]).pending.getLsbD 10 = ((s.notices[k]).pending.getLsbD 10 ||
      decide (zoneOwner s z = some k ∨ zoneOwner t z = some k))) ∧
    (claimableZone s z = true ↔ ∃ old, s.zones[z] = some old ∧ old.home = none) ∧
    (claimableZone s z = true → e.home ≠ none →
      t.claims = (s.claims.filter fun c => decide (c.resource ≠ .zone z)) ∧
      t.waits = (s.waits.filter fun id => !s.claims.any fun c => decide (c.id = id ∧ c.resource = .zone z)) ∧
      ∀ k : Kiosk, (t.notices[k]).pending.getLsbD 2 = ((s.notices[k]).pending.getLsbD 2 ||
        s.claims.any fun c => decide (c.kiosk = k ∧ c.resource = .zone z))) ∧
    (claimableZone s z = false ∨ e.home = none → t.claims = s.claims ∧ t.waits = s.waits ∧
      ∀ k : Kiosk, (t.notices[k]).pending.getLsbD 2 = (s.notices[k]).pending.getLsbD 2)

/-- R17, R12, R41: ZONE CLEAR clears the entries of its list in order; an entry that is cleared becomes UNUSED, with the
CANCELs, claims and notices that go with it. -/
def Obligations.ZoneClear : Prop :=
  (∀ (s : State) (r : ReqSlot) (tag : Byte) (list : List Byte), Takes s serviceLink r → 1 ≤ list.length →
    list.length ≤ 32 →
    (∀ a b c, list = a ++ b :: c → 31 < b.toNat → (∀ x ∈ a, x.toNat ≤ 31) →
      exec (.zoneClear serviceLink tag list) s =
        .next (answered serviceLink r (reply .badArg (u8 (a.length + 1))) (taken serviceLink r .zoneClear tag s))) ∧
    ((∀ b ∈ list, b.toNat ≤ 31) →
      ∃ t n, exec (.zoneClear serviceLink tag list) s = .next (answered serviceLink r (reply .ok (u8 n)) t) ∧
        (∀ zs : List ZoneIx, zs.map Fin.val = list.map BitVec.toNat →
          t = forEach zs clearZone (taken serviceLink r .zoneClear tag s)) ∧
        n = ((indices 32).filter fun z => (s.zones[z]).isSome && decide (z.val ∈ list.map BitVec.toNat)).length ∧
        (∀ z : ZoneIx, z.val ∈ list.map BitVec.toNat → t.zones[z] = none) ∧
        (∀ z : ZoneIx, z.val ∉ list.map BitVec.toNat → t.zones[z] = s.zones[z]) ∧
        t.units = s.units ∧ t.jobs = s.jobs ∧ t.links = (taken serviceLink r .zoneClear tag s).links)) ∧
  (∀ (s : State) (z : ZoneIx), s.zones[z] = none → clearZone z s = s) ∧
  ∀ (s t : State) (z : ZoneIx) (e : Zone), ClaimLaw s → s.zones[z] = some e → clearZone z s = t →
    t.zones = (upd s.zones z fun _ => none) ∧ ClaimLaw t ∧ Cancelled (inZone z) s t ∧
    (e.home ≠ none → t.claims = s.claims ∧ t.waits = s.waits) ∧
    (∀ c ∈ s.claims, c.resource ≠ .zone z → c ∈ t.claims) ∧
    (∀ k : Kiosk, zoneOwner s z ≠ some k →
      (t.notices[k]).pending.getLsbD 10 = (s.notices[k]).pending.getLsbD 10) ∧
    (∀ n : ContactNo, ∀ c, t.contacts[n] = some c → c.zone = some z → c.live = false) ∧
    (∀ k, zoneOwner s z = some k → (t.notices[k]).pending.getLsbD 10 = true) ∧
    (e.home = none → (∀ c ∈ t.claims, c.resource ≠ .zone z) ∧
      ∀ c ∈ s.claims, c.resource = .zone z → (t.notices[c.kiosk]).pending.getLsbD 2 = true)

/-- R19, R47, R67, R92, R133, R143, R178: the queries answer with their reports and change nothing: what each report
selects, in what order and how many, what it carries of each thing it reports, and the queries it refuses. Six points of the
reports are the model's: the byte of a set flag (log entry 32), the unnamed bits of a flags byte (log entry 33), the kiosk byte of CLAIM STATUS ONE on S is not used (log entry 20), an IDLE scan record counts the
frames waiting of its last scan, in the queue of that scan's kiosk (entry 28), and a counter past 32 bits (entry 15) and a re-probe time past 16 bits (entry 16) are
reported as free values. -/
def Obligations.QueriesChangeNothing : Prop :=
  (∀ (s : State) (l : Link) (r : ReqSlot) (tag : Byte), Takes s l r →
    (∀ panel first : Byte,
      exec (.zoneList l tag panel first) s =
        .next (answered l r (zoneListBlock panel first s) (taken l r .zoneList tag s))) ∧
    (∀ slot : Byte,
      exec (.scanStatus l tag slot) s = .next (answered l r (scanStatusBlock slot s) (taken l r .scanStatus tag s))) ∧
    exec (.unitStatus l tag) s = .next (answered l r (unitStatusBlock s) (taken l r .unitStatus tag s)) ∧
    ∀ named : Option Byte, namedRight l named = true →
      (∀ first : Byte,
        exec (.touchList l tag named first) s =
          .next (answered l r (touchListBlock l named first s) (taken l r .touchList tag s))) ∧
      (∀ id : Byte,
        exec (.claimStatusOne l tag id named) s =
          .next (answered l r (claimOneBlock l id s) (taken l r .claimStatus tag s)) ∧
        exec (.claimStatusList l tag id named) s =
          .next (answered l r (claimListBlock l id named s) (taken l r .claimStatus tag s))) ∧
      exec (.spoolStatus l tag named) s =
        .next (answered l r (spoolStatusBlock l named s) (taken l r .spoolStatus tag s)) ∧
      exec (.noticePeek l tag named) s =
        .next (answered l r (noticePeekBlock l named s) (taken l r .noticePeek tag s))) ∧
  (∀ (s : State) (panel first : Byte),
    (11 < panel.toNat ∨ 31 < first.toNat → zoneListBlock panel first s = reply .badArg []) ∧
    ∀ i : Slot, panel.toNat = i.val → first.toNat ≤ 31 →
      (definedKind s i ≠ some .panel → zoneListBlock panel first s = reply .noSuch []) ∧
      ∀ (all : List ZoneIx) (line : ZoneIx → List Byte), definedKind s i = some .panel → all.Pairwise (fun y z => y < z) →
        (∀ z, z ∈ all ↔ first.toNat ≤ z.val ∧ ∃ e, s.zones[z] = some e ∧ e.panel = i) →
        (∀ z e, s.zones[z] = some e → line z =
          u8 z.val ++ u8 (if e.enabled then 1 else 2) ++ u16n e.left ++ u16n e.top ++ u16n e.width ++ u16n e.height ++
            u8 e.rotation.val ++ u16n e.logicalWidth ++ u16n e.logicalHeight ++ u8 e.deadBand ++ orNone e.home ++
            orNone (zoneOwner s z)) →
        zoneListBlock panel first s = reply .ok (page 10 255 Fin.val line all)) ∧
  (∀ (s : State) (l : Link) (named : Option Byte) (first : Byte),
    (39 < first.toNat ∨ (l = serviceLink ∧ ∃ b : Byte, named = some b ∧ 7 < b.toNat) →
      touchListBlock l named first s = reply .badArg []) ∧
    ∀ (k : Kiosk) (all : List ContactNo) (line : ContactNo → List Byte), LiveLaw s → About l named k → first.toNat ≤ 39 →
      all.Pairwise (fun m n => m < n) →
      (∀ n, n ∈ all ↔ first.toNat ≤ n.val ∧ ∃ c, s.contacts[n] = some c ∧ c.live = true ∧ c.owner = some k) →
      (∀ n c p, s.contacts[n] = some c → c.last = some p → line n = u8 n.val ++ orNone c.zone ++ u16n p.x ++ u16n p.y) →
      touchListBlock l named first s = reply .ok (page 16 255 Fin.val line all)) ∧
  (∀ (s : State) (line : Claim → List Byte),
    (∀ c ∈ s.claims, ∀ position : Nat, (c.held = true → position = 255) →
      (∀ a b, waitQueue s c.resource = a ++ c.id :: b → c.id ∉ a → c.held = false → position = a.length + 1) →
      line c = u8 c.id ++ u8 c.kiosk.val ++ c.resource.code ++ u8 (if c.held then 2 else 1) ++ u32n c.lease ++
        u16n c.waitLimit ++ u32 (c.expiry - s.hubTime) ++ u8 position) → ClaimLaw s →
    (∀ (l : Link) (id : Byte),
      (claim? s id.toNat = none → claimOneBlock l id s = reply .noSuch []) ∧
      ∀ c, claim? s id.toNat = some c →
        (∀ k, OnKiosk l k → c.kiosk ≠ k → claimOneBlock l id s = reply .notYours []) ∧
        (l = serviceLink ∨ OnKiosk l c.kiosk → claimOneBlock l id s = reply .ok ([0, 1] ++ line c))) ∧
    ∀ (l : Link) (id : Byte) (named : Option Byte),
      (∀ b : Byte, l = serviceLink → named = some b → 7 < b.toNat → b ≠ 0xFF →
        claimListBlock l id named s = reply .badArg []) ∧
      ∀ (all : List Claim) (asked : Kiosk → Prop),
        ((∃ k, About l named k ∧ asked = fun j => j = k) ∨ (l = serviceLink ∧ named = some 0xFF ∧ asked = fun _ => True)) →
        all.Pairwise (fun c d => c.id < d.id) → (∀ c, c ∈ all ↔ c ∈ s.claims ∧ id.toNat ≤ c.id ∧ asked c.kiosk) →
        claimListBlock l id named s = reply .ok (page 12 0 Claim.id line all)) ∧
  (∀ (s : State) (l : Link) (named : Option Byte),
    ((l = serviceLink ∧ ∃ b : Byte, named = some b ∧ 7 < b.toNat) →
      spoolStatusBlock l named s = reply .badArg [] ∧ noticePeekBlock l named s = reply .badArg []) ∧
    ∀ k : Kiosk, About l named k →
      noticePeekBlock l named s = reply .ok (classBytes (s.notices[k]).pending ++ classBytes (s.notices[k]).enabled ++
        classBytes (s.notices[k]).mask ++ u8 ((s.notices[k]).hold.toNat + 2 * (s.kiosks[k]).maintenance.toNat +
          4 * (s.notices[k]).forced.isSome.toNat)) ∧
      ∀ (live ended : List Job) (line : Job → List Byte), PrintQueueLaw s →
        (live ++ ended).Perm (s.jobs.filter fun j => j.kiosk = k) → live.Pairwise (fun i j => i.id < j.id) →
        (∀ j ∈ live, j.state.isTerminal = false) → (∀ j ∈ ended, j.state.isTerminal = true) →
        (∀ j ∈ live, ∀ a b, s.printQueue[j.slot] = a ++ j.id :: b →
          line j = u16n j.id ++ u8 j.state.code ++ u8 j.slot.val ++ u8 (a.length + 1)) →
        spoolStatusBlock l named s = reply .ok (u16n s.free.length ++ u16n (s.kioskSpool[k]).held ++
          u16n (s.kioskSpool[k]).quota ++ u8 (s.kioskSpool[k]).wantRoom.toNat ++ u32n s.fillLimit ++ u8 ended.length ++
          u8 live.length ++ live.flatMap line)) ∧
  (∀ (s : State) (slot : Byte),
    (11 < slot.toNat → scanStatusBlock slot s = reply .badArg []) ∧
    ∀ i : Slot, slot.toNat = i.val →
      (definedKind s i ≠ some .scanner → scanStatusBlock slot s = reply .noSuch []) ∧
      (definedKind s i = some .scanner → ∀ (q : ScanRecord) (waiting bedWidth bedHeight : Nat) (present : Bool),
        q = s.scans[i] → (q.kiosk = none → q.lastKiosk = none → waiting = 0) →
        (∀ k, q.kiosk = some k ∨ q.kiosk = none ∧ q.lastKiosk = some k →
          waiting = ((s.kiosks[k]).scan.filter fun f => f.slot = i).length) →
        ((s.units[i]).ident = none → present = false ∧ bedWidth = 0 ∧ bedHeight = 0) →
        (∀ d, (s.units[i]).ident = some d → present = true ∧ bedWidth = d.cap1.toNat ∧ bedHeight = d.cap2.toNat) →
        scanStatusBlock slot s = reply .ok (u8 q.state.code ++ u8 (q.ownerClaim.getD 0) ++ orNone q.kiosk ++ u16n q.x ++
          u16n q.y ++ u16n q.w ++ u16n q.h ++ u8 q.resolution ++ u8 q.mode.code ++ u8 q.credit ++ u8 waiting ++
          u16 q.nextSeq ++ counter32 q.delivered ++ u8 q.available ++ u16 (q.total.getD 0) ++ u8 q.lastOutcome.code ++
          u8 (q.total.isSome.toNat + 2 * present.toNat) ++ u16n bedWidth ++ u16n bedHeight))) ∧
  (∀ (s : State) (line : Slot → List Byte),
    (∀ i : Slot, (s.units[i]).definition = none →
      line i = [0, 0, 0, 0] ++ u8 (2 * (s.attn[i]).pending.toNat) ++ List.replicate 11 0) →
    (∀ (i : Slot) (d : UnitDef) (wait ident : List Byte), (s.units[i]).definition = some d →
      (d.state ≠ .lost ∨ (s.units[i]).reprobe = none → wait = [0xFF, 0xFF]) →
      (∀ x : Time, d.state = .lost → (s.units[i]).reprobe = some x →
        wait = if (x - s.hubTime).toNat < 65535 then u16n (x - s.hubTime).toNat
          else u16 (Config.reprobePast16 (x - s.hubTime).toNat)) →
      ((s.units[i]).ident = none → ident = List.replicate 8 0) →
      (∀ v, (s.units[i]).ident = some v → ident = v.kind :: u16 v.model ++ v.revision :: u16 v.cap1 ++ u16 v.cap2) →
      line i = u8 (unitStateCode (some d.state)) ++ u8 d.address ++ [d.kind.code] ++ u8 (s.units[i]).mode.code ++
        u8 ((s.units[i]).enable.toNat + 2 * (s.attn[i]).pending.toNat + 4 * (s.units[i]).ident.isSome.toNat) ++
        u8 (s.units[i]).failures ++ wait ++ ident) →
    unitStatusBlock s = reply .ok ((List.finRange 12).flatMap line)) ∧
  [ScanState.idle, .preparing, .running, .ending, .halting].map ScanState.code = [0, 1, 2, 3, 4] ∧
  [ScanOutcome.none, .done, .cancelled, .lapsed, .unitLost, .unitFault].map ScanOutcome.code = [0, 1, 2, 3, 4, 5] ∧
  [ScanMode.gray8, .colour24, .line1].map ScanMode.code = [1, 2, 3] ∧
  [some UnitState.probing, some .ready, some .lost, some .mismatch].map unitStateCode = [1, 2, 3, 4] ∧
  [UnitKind.printer, .scanner, .panel].map UnitKind.code = [1, 2, 3] ∧
  [AttnMode.levelLow, .levelHigh, .edgeFall, .edgeRise].map AttnMode.code = [0, 1, 2, 3] ∧
  [JobState.filling, .queued, .feeding, .draining, .cancelling, .done, .failed, .cancelled].map JobState.code =
    [1, 2, 3, 4, 5, 6, 7, 8] ∧
  (∀ i : Slot, (Resource.scanner i).code = [1, BitVec.ofNat 8 i.val]) ∧
  (∀ z : ZoneIx, (Resource.zone z).code = [2, BitVec.ofNat 8 z.val]) ∧
  ∀ c : ClassSet, classBytes c = u16n c.toNat

/-- R27 to R34, R38, R39: a CONTACTS read completes; one that ends OK with n at most 9 and 1 + 5n bytes is acted on record
by record with the read capture time, any other OK answer is discarded whole; what a DOWN, a MOVE and an UP do. That the read capture time of a read no longer
wanted is none is the model's choice (log entry 30). -/
def Obligations.ContactsRead : Prop :=
  (∀ (band : Nat) (last new : Produced), moveProduced band last new = true ↔
    new.edge ≠ last.edge ∨ last.x + band ≤ new.x ∨ new.x + band ≤ last.x ∨ last.y + band ≤ new.y ∨
      new.y + band ≤ last.y) ∧
  (∀ (s : State) (t : Txn) (i : Slot) (a : UnitAnswer) (d : List Byte), EngineTxn s t i .contacts .panel →
    (EndsOk t a d →
      exec (.contactsReadComplete a) s =
        .next (countedOk i (processContacts i d
          { busFreed s with panels := upd s.panels i fun e => { e with outstanding := false } }))) ∧
    (wireOutcome t a = .refused →
      exec (.contactsReadComplete a) s =
        .next (countedRefused i { busFreed s with panels := upd s.panels i fun e => { e with outstanding := false } })) ∧
    ∀ o, o ≠ .ok → EndsWith .contactsReadComplete s t i o fun s => { s with
      panels := upd s.panels i fun e => { e with outstanding := false } }) ∧
  (∀ (s u v : State) (i : Slot) (d : List Byte) (n : Nat) (time : Time), n = (byteAt d 0).toNat % 128 →
    (s.panels[i]).readCapture = some time →
    u = { s with panels := upd s.panels i fun e => { e with readWanted := false, readCapture := none } } →
    v = forEach (contactRecords d) (processRecord i time) u →
    (9 < n ∨ d.length ≠ 1 + 5 * n → processContacts i d s = u) ∧
    (n ≤ 9 → d.length = 1 + 5 * n →
      ((byteAt d 0).toNat < 128 → processContacts i d s = v) ∧
      (128 ≤ (byteAt d 0).toNat → processContacts i d s = { v with
        panels := upd v.panels i fun e => { e with readWanted := true, readCapture := some time } }) ∧
      v.panels = u.panels ∧ (contactRecords d).length = n ∧
      ∀ k b x1 x0 y1 y0, k < n → (d.drop (1 + 5 * k)).take 5 = [b, x1, x0, y1, y0] →
        (contactRecords d)[k]? = some
          { phase := b.toNat / 32, rawId := b.toNat % 32, x := (x1 ++ x0).toNat, y := (y1 ++ y0).toNat })) ∧
  (∀ (s : State) (i : Slot) (time : Time) (id : RawId) (x y : Nat), x ≤ 4095 → y ≤ 4095 → entry? s i id = none →
    (isIgnored s i id = true → processRecord i time { phase := 2, rawId := id.val, x := x, y := y } s = s) ∧
    (isIgnored s i id = false →
      processRecord i time { phase := 2, rawId := id.val, x := x, y := y } s =
        processRecord i time { phase := 1, rawId := id.val, x := x, y := y } s) ∧
    processRecord i time { phase := 3, rawId := id.val, x := x, y := y } s =
      { s with ignored := upd s.ignored i fun l => l.filter fun w => w ≠ id } ∧
    ∀ n z, freeEntry? s = some n → pointLookup s i x y = some z → zoneOwner s z = none →
      processRecord i time { phase := 1, rawId := id.val, x := x, y := y } s =
        { s with
          ignored := upd s.ignored i fun l => l.filter fun w => w ≠ id
          contacts := upd s.contacts n fun _ => some
            { panel := i, rawId := id, zone := some z, owner := none, live := false, last := none } }) ∧
  (∀ (s u : State) (i : Slot) (time : Time) (id : RawId) (x y : Nat) (n : ContactNo) (c : Contact), x ≤ 4095 →
    y ≤ 4095 → ContactLaw s → entry? s i id = some n → s.contacts[n] = some c →
    u = { s with contacts := upd s.contacts n fun _ => none } →
    entry? u i id = none ∧
    (c.live = false →
      processRecord i time { phase := 1, rawId := id.val, x := x, y := y } s =
        processRecord i time { phase := 1, rawId := id.val, x := x, y := y } u) ∧
    ∀ k p, c.live = true → c.owner = some k → c.last = some p →
      processRecord i time { phase := 1, rawId := id.val, x := x, y := y } s =
        processRecord i time { phase := 1, rawId := id.val, x := x, y := y }
          (deliver k (cancelOf s.hubTime n c p) u)) ∧
  (∀ (s : State) (i : Slot) (time : Time) (q : ContactRecord),
    15 < q.rawId ∨ 4095 < q.x ∨ 4095 < q.y ∨ (q.phase ≠ 1 ∧ q.phase ≠ 2 ∧ q.phase ≠ 3) → processRecord i time q s = s) ∧
  (∀ (s : State) (i : Slot) (time : Time) (id : RawId) (x y : Nat), x ≤ 4095 → y ≤ 4095 → entry? s i id = none →
    (freeEntry? s = none → ∃ ids, id ∈ ids ∧ (∀ w, w ≠ id → (w ∈ ids ↔ w ∈ s.ignored[i])) ∧
      processRecord i time { phase := 1, rawId := id.val, x := x, y := y } s =
        { s with ignored := upd s.ignored i fun _ => ids }) ∧
    ∀ n, freeEntry? s = some n →
      (∀ z k e, pointLookup s i x y = some z → zoneOwner s z = some k → s.zones[z] = some e →
        processRecord i time { phase := 1, rawId := id.val, x := x, y := y } s =
          deliver k
            { contact := n, phase := .down, zone := some z, x := (mapPosition e x y).x, y := (mapPosition e x y).y
              time := time.setWidth 16, edge := (mapPosition e x y).edge }
            { s with
              ignored := upd s.ignored i fun l => l.filter fun v => v ≠ id
              contacts := upd s.contacts n fun _ => some
                { panel := i, rawId := id, zone := some z, owner := some k, live := true
                  last := some (mapPosition e x y) } }) ∧
      (pointLookup s i x y = none →
        processRecord i time { phase := 1, rawId := id.val, x := x, y := y } s =
          { s with
            ignored := upd s.ignored i fun l => l.filter fun v => v ≠ id
            contacts := upd s.contacts n fun _ => some
              { panel := i, rawId := id, zone := none, owner := none, live := false, last := none } })) ∧
  ∀ (s : State) (i : Slot) (time : Time) (id : RawId) (x y : Nat) (n : ContactNo) (c : Contact), x ≤ 4095 → y ≤ 4095 →
    entry? s i id = some n → s.contacts[n] = some c →
    (c.live = false →
      processRecord i time { phase := 2, rawId := id.val, x := x, y := y } s = s ∧
      processRecord i time { phase := 3, rawId := id.val, x := x, y := y } s =
        { s with contacts := upd s.contacts n fun _ => none }) ∧
    ∀ z e k p, c.live = true → c.zone = some z → s.zones[z] = some e → c.owner = some k → c.last = some p →
      (moveProduced e.deadBand p (mapPosition e x y) = true →
        processRecord i time { phase := 2, rawId := id.val, x := x, y := y } s =
          deliver k
            { contact := n, phase := .move, zone := some z, x := (mapPosition e x y).x, y := (mapPosition e x y).y
              time := time.setWidth 16, edge := (mapPosition e x y).edge }
            { s with contacts := upd s.contacts n fun _ => some { c with last := some (mapPosition e x y) } }) ∧
      (moveProduced e.deadBand p (mapPosition e x y) = false →
        processRecord i time { phase := 2, rawId := id.val, x := x, y := y } s = s) ∧
      processRecord i time { phase := 3, rawId := id.val, x := x, y := y } s =
        deliver k
          { contact := n, phase := .up, zone := some z, x := (mapPosition e x y).x, y := (mapPosition e x y).y
            time := time.setWidth 16, edge := (mapPosition e x y).edge }
          { s with contacts := upd s.contacts n fun _ => none }

/-! ### Chapter 3: claims -/

/-- R54, R55, R56, R49: the cases of CLAIM in their order, and which resources exist. -/
def Obligations.ClaimCases : Prop :=
  (∀ (s : State) (r : ReqSlot) (tag kind number : Byte) (lease wait : Word), Takes s serviceLink r →
    exec (.claim serviceLink tag kind number lease wait) s =
      .next (answered serviceLink r (reply .denied [2]) (taken serviceLink r .claim tag s))) ∧
  (∀ s : State,
    (∀ i : Slot, resourceExists s (.scanner i) = true ↔ ∃ d, (s.units[i]).definition = some d ∧ d.kind = .scanner) ∧
    ∀ z : ZoneIx, resourceExists s (.zone z) = true ↔ ∃ e, s.zones[z] = some e ∧ e.home = none) ∧
  ∀ (s : State) (l : Link) (r : ReqSlot) (k : Kiosk) (tag kind number : Byte) (lease wait : Word), Takes s l r →
    OnKiosk l k →
    ((s.kiosks[k]).maintenance = true →
      exec (.claim l tag kind number lease wait) s = .next (answered l r (reply .denied [4]) (taken l r .claim tag s))) ∧
    ((s.kiosks[k]).maintenance = false →
      (kind ≠ 1 ∧ kind ≠ 2 →
        exec (.claim l tag kind number lease wait) s = .next (answered l r (reply .badArg []) (taken l r .claim tag s))) ∧
      (kind = 1 ∨ kind = 2 → (∀ x : Resource, x.code = [kind, number] → resourceExists s x = false) →
        exec (.claim l tag kind number lease wait) s = .next (answered l r (reply .noSuch []) (taken l r .claim tag s))) ∧
      ∀ x : Resource, x.code = [kind, number] → resourceExists s x = true →
        (∀ c, claimOf? s k x = some c →
          exec (.claim l tag kind number lease wait) s =
            .next (answered l r (reply .badState (u8 c.id ++ u8 (if c.held then 2 else 1))) (taken l r .claim tag s))) ∧
        (claimOf? s k x = none → 24 ≤ s.claims.length →
          exec (.claim l tag kind number lease wait) s =
            .next (answered l r (reply .full [1]) (taken l r .claim tag s))) ∧
        (claimOf? s k x = none → s.claims.length < 24 →
          ∀ id, freshId (fun v => s.claims.any fun c => c.id = v) 255 (s.claims.length + 1) s.nextClaim = id →
            (holder? s x = none →
              exec (.claim l tag kind number lease wait) s =
                .next (answered l r (reply .ok (u8 id ++ u32n (max 100 (min 600000 lease.toNat))))
                  (ownerChange x true { taken l r .claim tag s with
                    claims := insertClaim
                      { id := id, kiosk := k, resource := x, held := true, lease := max 100 (min 600000 lease.toNat)
                        waitLimit := min 60000 wait.toNat
                        expiry := s.hubTime + BitVec.ofNat 32 (max 100 (min 600000 lease.toNat)) } s.claims
                    nextClaim := if id = 255 then 1 else id + 1 }))) ∧
            (holder? s x ≠ none → wait = 0 →
              exec (.claim l tag kind number lease wait) s =
                .next (answered l r (reply .busy [0]) (taken l r .claim tag s))) ∧
            (holder? s x ≠ none → wait ≠ 0 → 4 ≤ (waitQueue s x).length →
              exec (.claim l tag kind number lease wait) s =
                .next (answered l r (reply .full [2]) (taken l r .claim tag s))) ∧
            (holder? s x ≠ none → wait ≠ 0 → (waitQueue s x).length < 4 → ClaimLaw s →
              exec (.claim l tag kind number lease wait) s =
                .next (answered l r
                  (reply .queued (u8 id ++ u32n (max 100 (min 600000 lease.toNat)) ++ u16n (min 60000 wait.toNat) ++
                    u8 ((waitQueue s x).length + 1)))
                  { taken l r .claim tag s with
                    claims := insertClaim
                      { id := id, kiosk := k, resource := x, held := false, lease := max 100 (min 600000 lease.toNat)
                        waitLimit := min 60000 wait.toNat
                        expiry := s.hubTime + BitVec.ofNat 32 (min 60000 wait.toNat) } s.claims
                    nextClaim := if id = 255 then 1 else id + 1
                    waits := s.waits ++ [id] }))))

/-- R57, R58, R59, R62, R63, R66: RENEW, RELEASE, FORCE RELEASE and the two expiries. That an expiry of an absent claim, of
a claim in the other state, or before its time has no effect is the model's choice (log entry 4). -/
def Obligations.ClaimCommands : Prop :=
  (∀ (s : State) (l : Link) (r : ReqSlot) (k : Kiosk) (tag id : Byte), Takes s l r → OnKiosk l k →
    (claim? s id.toNat = none →
      exec (.renew l tag id) s = .next (answered l r (reply .noSuch []) (taken l r .renew tag s)) ∧
      exec (.release l tag id) s = .next (answered l r (reply .noSuch []) (taken l r .release tag s))) ∧
    ∀ c, claim? s id.toNat = some c →
      (c.kiosk ≠ k →
        exec (.renew l tag id) s = .next (answered l r (reply .notYours []) (taken l r .renew tag s)) ∧
        exec (.release l tag id) s = .next (answered l r (reply .notYours []) (taken l r .release tag s))) ∧
      (c.kiosk = k → c.held = true →
        exec (.renew l tag id) s =
          .next (answered l r (reply .ok (u32 (s.hubTime + BitVec.ofNat 32 c.lease)))
            { taken l r .renew tag s with
              claims := s.claims.map fun d =>
                if d.id = c.id then { d with expiry := s.hubTime + BitVec.ofNat 32 c.lease } else d }) ∧
        exec (.release l tag id) s =
          .next (answered l r (reply .ok []) (removeHeld c .release (taken l r .release tag s)))) ∧
      (c.kiosk = k → c.held = false →
        exec (.renew l tag id) s = .next (answered l r (reply .badState [1]) (taken l r .renew tag s)) ∧
        exec (.release l tag id) s =
          .next (answered l r (reply .ok [])
            { taken l r .release tag s with
              claims := s.claims.filter fun d => d.id ≠ c.id
              waits := s.waits.filter fun x => x ≠ c.id }))) ∧
  (∀ (s : State) (r : ReqSlot) (tag id : Byte), Takes s serviceLink r →
    (claim? s id.toNat = none →
      exec (.forceRelease serviceLink tag id) s =
        .next (answered serviceLink r (reply .noSuch []) (taken serviceLink r .forceRelease tag s))) ∧
    ∀ c, claim? s id.toNat = some c →
      (c.held = true →
        exec (.forceRelease serviceLink tag id) s =
          .next (answered serviceLink r (reply .ok (u8 c.kiosk.val ++ [2]))
            (removeHeld c .lapse (taken serviceLink r .forceRelease tag s)))) ∧
      (c.held = false →
        exec (.forceRelease serviceLink tag id) s =
          .next (answered serviceLink r (reply .ok (u8 c.kiosk.val ++ [1]))
            { taken serviceLink r .forceRelease tag s with
              claims := s.claims.filter fun d => d.id ≠ c.id
              waits := s.waits.filter fun x => x ≠ c.id
              notices := upd s.notices c.kiosk fun n => { n with pending := n.pending ||| 0x004#12 } }))) ∧
  ∀ (s : State) (id : Byte),
    (∀ c, claim? s id.toNat = some c → reached s.hubTime c.expiry = true →
      (c.held = true →
        exec (.leaseExpiry id) s = .next (settle (removeHeld c .lapse s)) ∧
        exec (.waitLimitExpiry id) s = .next (settle s)) ∧
      (c.held = false →
        exec (.leaseExpiry id) s = .next (settle s) ∧
        exec (.waitLimitExpiry id) s =
          .next (settle { s with
            claims := s.claims.filter fun d => d.id ≠ c.id
            waits := s.waits.filter fun x => x ≠ c.id
            notices := upd s.notices c.kiosk fun n => { n with pending := n.pending ||| 0x004#12 } }))) ∧
    (claim? s id.toNat = none ∨ (∃ c, claim? s id.toNat = some c ∧ reached s.hubTime c.expiry = false) →
      exec (.leaseExpiry id) s = .next (settle s) ∧ exec (.waitLimitExpiry id) s = .next (settle s))

/-- R60, R61, R15, R16, R41, R130: what the removal of a HELD claim does: the record goes, the zone is muted with the
CANCELs of its LIVE contacts (with none at CLEAR KIOSK), the scan is told, the head waiter is granted the resource, and the
notices that are due are latched, each for the one kiosk it is due, and no other notice. A lapse that halts a scan, or finds it
halting as cancelled, latches SCAN_FAILED. -/
def Obligations.ReleaseEffects : Prop :=
  ∀ (s t : State) (c : Claim) (why : Removal), ClaimLaw s → c ∈ s.claims → c.held = true → removeHeld c why s = t →
    claim? t c.id = none ∧
    (∀ d ∈ s.claims, d.id ≠ c.id → (waitQueue s c.resource).head? ≠ some d.id ∨ why = .resourceGone → d ∈ t.claims) ∧
    (why ≠ .resourceGone → ∀ id rest, waitQueue s c.resource = id :: rest →
      ∃ d, claim? s id = some d ∧
        claim? t id = some { d with held := true, expiry := s.hubTime + BitVec.ofNat 32 d.lease } ∧
        waitQueue t c.resource = rest ∧ (t.notices[d.kiosk]).pending.getLsbD 1 = true) ∧
    (waitQueue s c.resource = [] → holder? t c.resource = none) ∧
    (why = .lapse ∨ why = .resourceGone → (t.notices[c.kiosk]).pending.getLsbD 2 = true) ∧
    (why = .release ∨ why = .clearKiosk →
      ∀ k : Kiosk, (t.notices[k]).pending.getLsbD 2 = (s.notices[k]).pending.getLsbD 2) ∧
    (∀ z, c.resource = .zone z → ∀ n : ContactNo, ∀ x, t.contacts[n] = some x → x.zone = some z → x.live = false) ∧
    (∀ z, c.resource = .zone z → t.scans = s.scans ∧ (why ≠ .clearKiosk → Cancelled (inZone z) s t) ∧
      (why = .clearKiosk → t.kiosks = s.kiosks ∧ ∀ n : ContactNo,
        t.contacts[n] = (s.contacts[n]).map fun x => if x.zone = some z then { x with live := false } else x)) ∧
    (∀ i, c.resource = .scanner i → t.contacts = s.contacts ∧ t.kiosks = s.kiosks ∧
      ((s.scans[i]).ownerClaim ≠ some c.id → t.scans = s.scans)) ∧
    (why ≠ .lapse → ∀ k : Kiosk, (t.notices[k]).pending.getLsbD 8 = (s.notices[k]).pending.getLsbD 8) ∧
    ((∀ z, c.resource = .zone z → ∀ k : Kiosk, (t.notices[k]).pending.getLsbD 8 = (s.notices[k]).pending.getLsbD 8) ∧
      ∀ i, c.resource = .scanner i → ∀ k : Kiosk, (s.scans[i]).ownerClaim ≠ some c.id ∨ (s.scans[i]).kiosk ≠ some k →
        (t.notices[k]).pending.getLsbD 8 = (s.notices[k]).pending.getLsbD 8) ∧
    (∀ k : Kiosk, k ≠ c.kiosk → (t.notices[k]).pending.getLsbD 2 = (s.notices[k]).pending.getLsbD 2) ∧
    (∀ k : Kiosk, (∀ d ∈ s.claims, (waitQueue s c.resource).head? = some d.id → d.kiosk ≠ k) ∨ why = .resourceGone →
      (t.notices[k]).pending.getLsbD 1 = (s.notices[k]).pending.getLsbD 1) ∧
    (∀ (k : Kiosk) (n : Nat), n ≠ 1 → n ≠ 2 → n ≠ 8 →
      (t.notices[k]).pending.getLsbD n = (s.notices[k]).pending.getLsbD n) ∧
    ∀ i, c.resource = .scanner i → (s.scans[i]).ownerClaim = some c.id →
      (t.scans[i]).ownerClaim = none ∧ (∀ j : Slot, j ≠ i → t.scans[j] = s.scans[j]) ∧
      ((s.scans[i]).state.active = true →
        (t.scans[i]).state = .halting ∧ (t.scans[i]).haltOwed = true ∧
        (t.scans[i]).haltOutcome = some (if why = .lapse then .lapsed else .cancelled) ∧
        (why = .lapse → ∀ k, (s.scans[i]).kiosk = some k → (t.notices[k]).pending.getLsbD 8 = true)) ∧
      ((s.scans[i]).state = .halting → why = .lapse → (s.scans[i]).haltOutcome = some .cancelled →
        t.scans[i] = { s.scans[i] with ownerClaim := none, haltOutcome := some .lapsed } ∧
        ∀ k, (s.scans[i]).kiosk = some k → (t.notices[k]).pending.getLsbD 8 = true) ∧
      ((s.scans[i]).state = .idle ∨
          ((s.scans[i]).state = .halting ∧ (why ≠ .lapse ∨ (s.scans[i]).haltOutcome ≠ some .cancelled)) →
        t.scans[i] = { s.scans[i] with ownerClaim := none } ∧
        ∀ k : Kiosk, (t.notices[k]).pending.getLsbD 8 = (s.notices[k]).pending.getLsbD 8)

/-! ### Chapter 4: jobs -/

/-- R82, R79, R78: the cases of PRINT OPEN in their order. -/
def Obligations.PrintOpenCases : Prop :=
  ∀ (s : State) (l : Link) (r : ReqSlot) (k : Kiosk) (tag target : Byte), Takes s l r → OnKiosk l k →
    (s.kiosks[k]).maintenance = false →
    (target = 0xFF → anyPrinter s none = none →
      exec (.printOpen l tag target) s = .next (answered l r (reply .busy [0]) (taken l r .printOpen tag s))) ∧
    (target ≠ 0xFF → 11 < target.toNat →
      exec (.printOpen l tag target) s = .next (answered l r (reply .badArg []) (taken l r .printOpen tag s))) ∧
    (∀ i : Slot, target.toNat = i.val →
      (definedKind s i ≠ some .printer →
        exec (.printOpen l tag target) s = .next (answered l r (reply .noSuch []) (taken l r .printOpen tag s))) ∧
      (definedKind s i = some .printer → 8 ≤ (s.printQueue[i]).length →
        exec (.printOpen l tag target) s = .next (answered l r (reply .full [2]) (taken l r .printOpen tag s)))) ∧
    ∀ (i : Slot) (any : Bool),
      (any = true ∧ target = 0xFF ∧ anyPrinter s none = some i ∨
        any = false ∧ target.toNat = i.val ∧ definedKind s i = some .printer ∧ (s.printQueue[i]).length < 8) →
      (24 ≤ s.jobs.length → s.terminal = [] →
        exec (.printOpen l tag target) s = .next (answered l r (reply .full [1]) (taken l r .printOpen tag s))) ∧
      ∀ (jobs : List Job) (terminal : List Nat),
        (s.jobs.length < 24 ∧ jobs = s.jobs ∧ terminal = s.terminal ∨
          24 ≤ s.jobs.length ∧ ∃ old rest, s.terminal = old :: rest ∧ jobs = s.jobs.filter (fun j => j.id ≠ old) ∧
            terminal = s.terminal.filter fun x => x ≠ old) →
        ∀ id, freshId (fun v => jobs.any fun j => j.id = v) 65535 (jobs.length + 1) s.nextJob = id →
          exec (.printOpen l tag target) s =
            .next (answered l r (reply .ok (u16n id ++ u8 i.val ++ u8 ((s.printQueue[i]).length + 1)))
              { taken l r .printOpen tag s with
                jobs := insertJob
                  { id := id, kiosk := k, anyTarget := any, slot := i, state := .filling, isOpen := true, chain := []
                    spooled := 0, fed := 0, fill := 0, lastData := s.hubTime, stallEnd := false, pages := none
                    cause := none } jobs
                terminal := terminal
                nextJob := if id = 65535 then 1 else id + 1
                printQueue := upd s.printQueue i fun q => q ++ [id] })

/-- R83, R73, R74: PRINT DATA accepts as many bytes as the last block, the pool and the quota allow. -/
def Obligations.PrintDataAccepts : Prop :=
  ∀ (s : State) (l : Link) (r : ReqSlot) (k : Kiosk) (tag : Byte) (id : Half) (data : List Byte), Takes s l r →
    OnKiosk l k → (s.kiosks[k]).maintenance = false → 1 ≤ data.length → data.length ≤ 192 →
    (job? s id.toNat = none →
      exec (.printData l tag id data) s = .next (answered l r (reply .noSuch []) (taken l r .printData tag s))) ∧
    ∀ j, job? s id.toNat = some j →
      (j.kiosk ≠ k →
        exec (.printData l tag id data) s = .next (answered l r (reply .notYours []) (taken l r .printData tag s))) ∧
      (j.kiosk = k → j.isOpen = false →
        exec (.printData l tag id data) s =
          .next (answered l r (reply .badState (u8 j.state.code)) (taken l r .printData tag s))) ∧
      (j.kiosk = k → j.isOpen = true →
        ∀ (n : Nat) (w : Writing),
          n = min data.length ((if j.chain = [] then 0 else 48 - j.fill) +
            48 * min s.free.length ((s.kioskSpool[k]).quota - (s.kioskSpool[k]).held)) →
          w = (data.take n).foldl writeByte { spool := s.spool, free := s.free, chain := j.chain, fill := j.fill } →
          exec (.printData l tag id data) s =
            .next (answered l r (reply (if n = data.length then .ok else .partial_) (u8 n))
              { taken l r .printData tag s with
                spool := w.spool
                free := w.free
                kioskSpool := upd s.kioskSpool k fun q => { q with
                  held := q.held + (w.chain.length - j.chain.length)
                  wantRoom := q.wantRoom || decide (n ≠ data.length) }
                jobs := s.jobs.map fun x => if x.id = j.id then { x with
                  chain := w.chain, fill := w.fill, spooled := x.spooled + n, lastData := s.hubTime } else x }))

/-- R85 to R88, R77, R72, R74: PRINT CLOSE, PRINT CANCEL and a fill stall, and what the ending of a job does, with the notices it
latches and no other: none of JOB_DONE and JOB_FAILED for a CANCELLED job, SPOOL_ROOM only where room was wanted and made. The want-room
test is made at every ending, of a job with an empty chain too (R77 step 3; log entry 13). A counter past 32
bits is reported as a free value (log entry 15). That the end cause goes back to none (log entry 27), that a job that ends keeps
its counts of bytes spooled and fed while its chain is freed, against the law of R75 (log entry 31), and that a
FILL_STALL_EXPIRY of an absent or closed job or before its time has no effect (log entry 4), are the model's choices. -/
def Obligations.JobEndings : Prop :=
  (∀ (s : State) (l : Link) (r : ReqSlot) (k : Kiosk) (tag : Byte) (id : Half), Takes s l r → OnKiosk l k →
    (job? s id.toNat = none →
      exec (.printClose l tag id) s = .next (answered l r (reply .noSuch []) (taken l r .printClose tag s)) ∧
      exec (.printCancel l tag id) s = .next (answered l r (reply .noSuch []) (taken l r .printCancel tag s))) ∧
    ∀ j, job? s id.toNat = some j →
      (j.kiosk ≠ k →
        exec (.printClose l tag id) s = .next (answered l r (reply .notYours []) (taken l r .printClose tag s)) ∧
        exec (.printCancel l tag id) s = .next (answered l r (reply .notYours []) (taken l r .printCancel tag s))) ∧
      (j.kiosk = k →
        (j.isOpen = false →
          exec (.printClose l tag id) s =
            .next (answered l r (reply .badState (u8 j.state.code)) (taken l r .printClose tag s))) ∧
        (j.isOpen = true → ∀ st, (j.state = .filling → st = .queued) → (j.state ≠ .filling → st = j.state) →
          exec (.printClose l tag id) s =
            .next (answered l r (reply .ok (counter32 j.spooled ++ u8 st.code))
              { taken l r .printClose tag s with
                jobs := s.jobs.map fun x => if x.id = j.id then { x with
                  isOpen := false, state := if x.state = .filling then .queued else x.state } else x })) ∧
        (j.state = .filling ∨ j.state = .queued →
          exec (.printCancel l tag id) s =
            .next (answered l r (reply .ok [8]) (endJob j.id .cancelled none none (taken l r .printCancel tag s)))) ∧
        (j.state = .feeding ∨ j.state = .draining →
          exec (.printCancel l tag id) s =
            .next (answered l r (reply .ok [5])
              { taken l r .printCancel tag s with
                jobs := s.jobs.map fun x => if x.id = j.id then { x with
                  state := .cancelling, isOpen := false, stallEnd := false } else x
                feeds := upd s.feeds j.slot fun e => { e with
                  step := .abortMark, job := some j.id, markHeld := false, pagesWanted := false } })) ∧
        (j.state = .cancelling ∨ j.state.isTerminal = true →
          exec (.printCancel l tag id) s =
            .next (answered l r (reply .badState (u8 j.state.code)) (taken l r .printCancel tag s))))) ∧
  (∀ (s : State) (id : Half),
    (∀ j, job? s id.toNat = some j → j.isOpen = true → reached s.hubTime (after j.lastData s.fillLimit) = true →
      (j.state = .filling →
        exec (.fillStallExpiry id) s = .next (settle (endJob j.id .failed none (some .fillStall) s))) ∧
      (j.state = .feeding →
        exec (.fillStallExpiry id) s =
          .next (settle { s with
            jobs := s.jobs.map fun x => if x.id = j.id then { x with
              state := .cancelling, isOpen := false, stallEnd := true } else x
            feeds := upd s.feeds j.slot fun e => { e with
              step := .abortMark, job := some j.id, markHeld := false, pagesWanted := false } }))) ∧
    (job? s id.toNat = none ∨ (∃ j, job? s id.toNat = some j ∧
        (j.isOpen = false ∨ reached s.hubTime (after j.lastData s.fillLimit) = false)) →
      exec (.fillStallExpiry id) s = .next (settle s))) ∧
  ∀ (s t : State) (j : Job) (st : JobState) (pages : Option Half) (cause : Option JobCause), job? s j.id = some j →
    endJob j.id st pages cause s = t →
    job? t j.id = some { j with
      state := st, isOpen := false, chain := [], fill := 0, stallEnd := false, pages := pages, cause := cause } ∧
    (∀ x, x ≠ j.id → job? t x = job? s x) ∧
    (t.printQueue = upd s.printQueue j.slot fun q => q.filter fun x => x ≠ j.id) ∧
    t.terminal = s.terminal ++ [j.id] ∧ t.free = s.free ++ j.chain ∧
    (∀ k : Kiosk, ∀ h, h = (if k = j.kiosk then (s.kioskSpool[k]).held - j.chain.length else (s.kioskSpool[k]).held) →
      (t.kioskSpool[k]).held = h ∧ (t.kioskSpool[k]).quota = (s.kioskSpool[k]).quota ∧
      ((s.kioskSpool[k]).wantRoom = true → h < (s.kioskSpool[k]).quota →
        (t.kioskSpool[k]).wantRoom = false ∧ (t.notices[k]).pending.getLsbD 9 = true) ∧
      ((s.kioskSpool[k]).wantRoom = false ∨ (s.kioskSpool[k]).quota ≤ h →
        (t.kioskSpool[k]).wantRoom = (s.kioskSpool[k]).wantRoom)) ∧
    (st = .done → (t.notices[j.kiosk]).pending.getLsbD 3 = true) ∧
    (st = .failed → (t.notices[j.kiosk]).pending.getLsbD 4 = true) ∧
    (∀ k : Kiosk, ∀ h, h = (if k = j.kiosk then (s.kioskSpool[k]).held - j.chain.length else (s.kioskSpool[k]).held) →
      (st ≠ .done ∨ k ≠ j.kiosk → (t.notices[k]).pending.getLsbD 3 = (s.notices[k]).pending.getLsbD 3) ∧
      (st ≠ .failed ∨ k ≠ j.kiosk → (t.notices[k]).pending.getLsbD 4 = (s.notices[k]).pending.getLsbD 4) ∧
      ((s.kioskSpool[k]).wantRoom = false ∨ (s.kioskSpool[k]).quota ≤ h →
        (t.notices[k]).pending.getLsbD 9 = (s.notices[k]).pending.getLsbD 9) ∧
      (∀ n, n ≠ 3 → n ≠ 4 → n ≠ 9 → (t.notices[k]).pending.getLsbD n = (s.notices[k]).pending.getLsbD n) ∧
      t.notices[k] = { s.notices[k] with pending := (t.notices[k]).pending }) ∧
    t = { s with
      jobs := t.jobs, printQueue := t.printQueue, terminal := t.terminal, free := t.free, kioskSpool := t.kioskSpool
      notices := t.notices }

/-- R91, R93, R94: JOB STATUS, the fields of its record and its collecting, QUOTA SET and FILL LIMIT SET (a counter past 32
bits is reported as a free value, log entry 15; the unnamed bits of the flags byte are 0, log entry 33). -/
def Obligations.JobStatusAndSettings : Prop :=
  (∀ (s : State) (l : Link) (r : ReqSlot) (tag : Byte) (id : Half) (collect : Byte), Takes s l r →
    (job? s id.toNat = none →
      exec (.jobStatus l tag id collect) s = .next (answered l r (reply .noSuch []) (taken l r .jobStatus tag s))) ∧
    ∀ j, job? s id.toNat = some j →
      ((∃ k, OnKiosk l k ∧ j.kiosk ≠ k) →
        exec (.jobStatus l tag id collect) s = .next (answered l r (reply .notYours []) (taken l r .jobStatus tag s))) ∧
      (l = serviceLink ∨ OnKiosk l j.kiosk →
        (collect = 0 ∨ j.state.isTerminal = false →
          exec (.jobStatus l tag id collect) s =
            .next (answered l r (reply .ok (jobRecord s j false)) (taken l r .jobStatus tag s))) ∧
        (collect ≠ 0 → j.state.isTerminal = true →
          exec (.jobStatus l tag id collect) s =
            .next (answered l r (reply .ok (jobRecord s j true))
              { taken l r .jobStatus tag s with
                jobs := s.jobs.filter fun x => x.id ≠ j.id
                terminal := s.terminal.filter fun x => x ≠ j.id })))) ∧
  (∀ (s : State) (j : Job) (collected : Bool) (target position cause : Nat),
    (j.anyTarget = true → target = 255) → (j.anyTarget = false → target = j.slot.val) →
    (j.state.isTerminal = true → position = 255) →
    (j.state.isTerminal = false → ∃ a b, s.printQueue[j.slot] = a ++ j.id :: b ∧ j.id ∉ a ∧ position = a.length + 1) →
    (j.cause = none → cause = 0) → (j.cause = some .unitLost → cause = 1) → (j.cause = some .unitRemoved → cause = 2) →
    (j.cause = some .printerAbort → cause = 3) → (j.cause = some .fillStall → cause = 4) →
    jobRecord s j collected =
      u16n j.id ++ u8 j.kiosk.val ++ u8 target ++ u8 j.slot.val ++ u8 j.state.code ++
        u8 (j.isOpen.toNat + 2 * j.pages.isSome.toNat + 4 * j.cause.isSome.toNat + 8 * collected.toNat) ++ u8 position ++
        counter32 j.spooled ++ counter32 j.fed ++ u16n j.chain.length ++ u16 (j.pages.getD 0) ++ u8 cause) ∧
  (∀ (s : State) (r : ReqSlot) (tag b : Byte) (quota : Half), Takes s serviceLink r →
    (7 < b.toNat →
      exec (.quotaSet serviceLink tag b quota) s =
        .next (answered serviceLink r (reply .badArg []) (taken serviceLink r .quotaSet tag s))) ∧
    ∀ (k : Kiosk) (n : Nat), b.toNat = k.val → n = min 1024 quota.toNat →
      ((s.kioskSpool[k]).wantRoom = false ∨ n ≤ (s.kioskSpool[k]).held →
        exec (.quotaSet serviceLink tag b quota) s =
          .next (answered serviceLink r (reply .ok (u16n n ++ u16n (s.kioskSpool[k]).held))
            { taken serviceLink r .quotaSet tag s with
              kioskSpool := upd s.kioskSpool k fun q => { q with quota := n } })) ∧
      ((s.kioskSpool[k]).wantRoom = true → (s.kioskSpool[k]).held < n →
        exec (.quotaSet serviceLink tag b quota) s =
          .next (answered serviceLink r (reply .ok (u16n n ++ u16n (s.kioskSpool[k]).held))
            { taken serviceLink r .quotaSet tag s with
              kioskSpool := upd s.kioskSpool k fun q => { q with quota := n, wantRoom := false }
              notices := upd s.notices k fun v => { v with pending := v.pending ||| 0x200#12 } }))) ∧
  ∀ (s : State) (r : ReqSlot) (tag : Byte) (limit : Word), Takes s serviceLink r →
    exec (.fillLimitSet serviceLink tag limit) s =
      .next (answered serviceLink r (reply .ok (u32n (max 1000 (min 120000 limit.toNat))))
        { taken serviceLink r .fillLimitSet tag s with fillLimit := max 1000 (min 120000 limit.toNat) })

/-! ### Chapter 5: feeding -/

/-- R101, R102, R106, R107, R109: the marks and the PSTATE read of a Feed Engine, with every outcome. -/
def Obligations.FeedMarks : Prop :=
  (∀ (s : State) (t : Txn) (i : Slot) (a : UnitAnswer) (d : List Byte), EngineTxn s t i .markStart .printer →
    ((s.feeds[i]).step = .startMark →
      (EndsOk t a d → exec (.markStartComplete a) s = .next (countedOk i { busFreed s with
        feeds := upd s.feeds i fun e => { e with
          outstanding := none, step := .stream, creditWanted := e.creditWanted || !e.creditKnown } })) ∧
      (wireOutcome t a = .refused → exec (.markStartComplete a) s = .next (countedRefused i { busFreed s with
        feeds := upd s.feeds i fun e => { e with outstanding := none, markHeld := true } }))) ∧
    ((s.feeds[i]).step ≠ .startMark → EndsOk t a d →
      exec (.markStartComplete a) s = .next (countedOk i { busFreed s with
        feeds := upd s.feeds i fun e => { e with outstanding := none } }))) ∧
  (∀ (s : State) (t : Txn) (i : Slot) (a : UnitAnswer) (d : List Byte), EngineTxn s t i .markEnd .printer →
    ((s.feeds[i]).step = .endMark →
      (∀ j, EndsOk t a d → headJob? s i = some j → j.state = .feeding → j.isOpen = false → j.chain = [] →
        exec (.markEndComplete a) s = .next (countedOk i { busFreed s with
          feeds := upd s.feeds i fun e => { e with outstanding := none, step := .endWait, pagesWanted := false }
          jobs := s.jobs.map fun x => if x.id = j.id then { x with state := .draining } else x })) ∧
      (wireOutcome t a = .refused → exec (.markEndComplete a) s = .next (countedRefused i { busFreed s with
        feeds := upd s.feeds i fun e => { e with outstanding := none, markHeld := true } }))) ∧
    ((s.feeds[i]).step ≠ .endMark → EndsOk t a d →
      exec (.markEndComplete a) s = .next (countedOk i { busFreed s with
        feeds := upd s.feeds i fun e => { e with outstanding := none } }))) ∧
  (∀ (s : State) (t : Txn) (i : Slot) (a : UnitAnswer) (d : List Byte), EngineTxn s t i .pstate .printer →
    EndsOk t a d →
    (∀ j, (s.feeds[i]).step = .endWait → (s.feeds[i]).pagesWanted = true → 4 ≤ d.length → headJob? s i = some j →
      j.state = .draining →
      exec (.pstateReadComplete a) s = .next (countedOk i
        (modFeed i (fun e => { e with step := .none, job := none, pagesWanted := false })
          (endJob j.id .done (some (halfAt d 1)) none { busFreed s with
            feeds := upd s.feeds i fun e => { e with outstanding := none } })))) ∧
    ((s.feeds[i]).step ≠ .endWait ∨ (s.feeds[i]).pagesWanted = false →
      exec (.pstateReadComplete a) s = .next (countedOk i { busFreed s with
        feeds := upd s.feeds i fun e => { e with outstanding := none } }))) ∧
  (∀ (s : State) (t : Txn) (i : Slot) (a : UnitAnswer) (d : List Byte) (j : Job), EngineTxn s t i .markAbort .printer →
    (s.feeds[i]).step = .abortMark → headJob? s i = some j → j.state = .cancelling →
    ∀ u, u = modFeed i (fun e => { e with credit := 0, creditKnown := false, step := .none, job := none })
      (endJob j.id (if j.stallEnd then .failed else .cancelled) none (if j.stallEnd then some .fillStall else none)
        { busFreed s with feeds := upd s.feeds i fun e => { e with outstanding := none } }) →
      (EndsOk t a d → exec (.markAbortComplete a) s = .next (countedOk i u)) ∧
      (wireOutcome t a = .refused → exec (.markAbortComplete a) s = .next (countedRefused i u))) ∧
  (∀ (s : State) (t : Txn) (i : Slot) (o : BusOutcome), o ≠ .ok → ∀ ended : State → State,
    (ended = fun s => { s with feeds := upd s.feeds i fun e => { e with outstanding := none } }) →
    ∀ held : State → State,
    (held = fun s => { s with feeds := upd s.feeds i fun e => { e with outstanding := none, markHeld := true } }) →
    (EngineTxn s t i .markStart .printer →
      ((s.feeds[i]).step = .startMark → o = .refused → EndsWith .markStartComplete s t i o held) ∧
      ((s.feeds[i]).step ≠ .startMark ∨ o ≠ .refused → EndsWith .markStartComplete s t i o ended)) ∧
    (EngineTxn s t i .markEnd .printer →
      ((s.feeds[i]).step = .endMark → o = .refused → EndsWith .markEndComplete s t i o held) ∧
      ((s.feeds[i]).step ≠ .endMark ∨ o ≠ .refused → EndsWith .markEndComplete s t i o ended)) ∧
    (EngineTxn s t i .pstate .printer → EndsWith .pstateReadComplete s t i o ended) ∧
    (EngineTxn s t i .markAbort .printer →
      ((s.feeds[i]).step ≠ .abortMark → EndsWith .markAbortComplete s t i o ended) ∧
      ∀ j, (s.feeds[i]).step = .abortMark → headJob? s i = some j → j.state = .cancelling →
        EndsWith .markAbortComplete s t i o fun s =>
          modFeed i (fun e => { e with credit := 0, creditKnown := false, step := .none, job := none })
            (endJob j.id (if j.stallEnd then .failed else .cancelled) none (if j.stallEnd then some .fillStall else none)
              (ended s)))) ∧
  ∀ (s : State) (t : Txn) (i : Slot) (a : UnitAnswer) (d : List Byte), EngineTxn s t i .markAbort .printer →
    (s.feeds[i]).step ≠ .abortMark → EndsOk t a d →
    exec (.markAbortComplete a) s = .next (countedOk i { busFreed s with
      feeds := upd s.feeds i fun e => { e with outstanding := none } })

/-- R101, R103, R105, R90: the CREDIT reads and the FEEDs of a Feed Engine, with every outcome. -/
def Obligations.FeedCreditAndBlocks : Prop :=
  (∀ (s : State) (t : Txn) (i : Slot) (a : UnitAnswer) (d : List Byte), EngineTxn s t i .credit .printer →
    ((s.feeds[i]).step = .stream → EndsOk t a d →
      exec (.creditReadComplete a) s = .next (countedOk i { busFreed s with
        feeds := upd s.feeds i fun e => { e with
          outstanding := none, credit := (byteAt d 0).toNat, creditKnown := true, creditWanted := false } })) ∧
    ((s.feeds[i]).step ≠ .stream → EndsOk t a d →
      exec (.creditReadComplete a) s = .next (countedOk i { busFreed s with
        feeds := upd s.feeds i fun e => { e with outstanding := none } })) ∧
    (wireOutcome t a = .refused →
      exec (.creditReadComplete a) s = .next (countedRefused i { busFreed s with
        feeds := upd s.feeds i fun e => { e with outstanding := none } }))) ∧
  (∀ (s : State) (t : Txn) (i : Slot) (o : BusOutcome), o ≠ .ok → ∀ ended : State → State,
    (ended = fun s => { s with feeds := upd s.feeds i fun e => { e with outstanding := none } }) →
    (EngineTxn s t i .credit .printer → EndsWith .creditReadComplete s t i o ended) ∧
    (EngineTxn s t i .feed .printer →
      ((s.feeds[i]).step ≠ .stream ∨ o ≠ .refused → EndsWith .feedComplete s t i o ended) ∧
      ((s.feeds[i]).step = .stream → o = .refused → EndsWith .feedComplete s t i o fun s => { s with
        feeds := upd s.feeds i fun e => { e with
          outstanding := none, credit := 0, creditKnown := true, creditWanted := true } }))) ∧
  ∀ (s : State) (t : Txn) (i : Slot) (a : UnitAnswer) (d : List Byte), EngineTxn s t i .feed .printer →
    (∀ j b rest, (s.feeds[i]).step = .stream → EndsOk t a d → headJob? s i = some j → j.state = .feeding →
      j.chain = b :: rest → ∀ credit : Nat,
      credit = (if (s.feeds[i]).creditKnown then (s.feeds[i]).credit - 1 else (s.feeds[i]).credit) →
      exec (.feedComplete a) s = .next (countedOk i
        (modFeed i (fun e => { e with credit := credit, creditWanted := e.creditWanted || decide (credit = 0) })
          (freeBlocks j.kiosk [b] { busFreed s with
            feeds := upd s.feeds i fun e => { e with outstanding := none }
            jobs := s.jobs.map fun x => if x.id = j.id then { x with
              chain := rest, fed := x.fed + (if rest.isEmpty then j.fill else 48)
              fill := if rest.isEmpty then 0 else x.fill } else x })))) ∧
    ((s.feeds[i]).step = .stream → wireOutcome t a = .refused →
      exec (.feedComplete a) s = .next (countedRefused i { busFreed s with
        feeds := upd s.feeds i fun e => { e with
          outstanding := none, credit := 0, creditKnown := true, creditWanted := true } })) ∧
    ((s.feeds[i]).step = .abortMark → EndsOk t a d →
      exec (.feedComplete a) s = .next (countedOk i { busFreed s with
        feeds := upd s.feeds i fun e => { e with
          outstanding := none, credit := if e.creditKnown then e.credit - 1 else e.credit } })) ∧
    ((s.feeds[i]).step ≠ .stream → (s.feeds[i]).step ≠ .abortMark → EndsOk t a d →
      exec (.feedComplete a) s = .next (countedOk i { busFreed s with
        feeds := upd s.feeds i fun e => { e with outstanding := none } }))

/-! ### Chapter 6: scans -/

/-- R121, R122, R203: the cases of SCAN START in their order, the record it writes, and the bytes of its reply (a bed that no IDENT gave is empty: log
entry 24; the record keeps the kiosk of its last scan: log entry 28). -/
def Obligations.ScanStartCases : Prop :=
  (∀ (s : State) (i : Slot), ((s.units[i]).ident = none → bed s i = (0, 0)) ∧
    ∀ v, (s.units[i]).ident = some v → bed s i = (v.cap1.toNat, v.cap2.toNat)) ∧
  (∀ q : ScanRecord, settingsBytes q = u16n q.x ++ u16n q.y ++ u16n q.w ++ u16n q.h ++
    [BitVec.ofNat 8 q.resolution, BitVec.ofNat 8 q.mode.code, BitVec.ofNat 8 q.credit]) ∧
  ∀ (s : State) (l : Link) (r : ReqSlot) (k : Kiosk) (tag slot : Byte) (x y w h : Half) (res mode credit : Byte),
    Takes s l r → OnKiosk l k → (s.kiosks[k]).maintenance = false →
    (11 < slot.toNat →
      exec (.scanStart l tag slot x y w h res mode credit) s =
        .next (answered l r (reply .badArg []) (taken l r .scanStart tag s))) ∧
    ∀ i : Slot, slot.toNat = i.val →
      (definedKind s i ≠ some .scanner →
        exec (.scanStart l tag slot x y w h res mode credit) s =
          .next (answered l r (reply .noSuch []) (taken l r .scanStart tag s))) ∧
      (definedKind s i = some .scanner →
        (claimOf? s k (.scanner i) = none →
          exec (.scanStart l tag slot x y w h res mode credit) s =
            .next (answered l r (reply .notYours []) (taken l r .scanStart tag s))) ∧
        ∀ c, claimOf? s k (.scanner i) = some c →
          (c.held = false →
            exec (.scanStart l tag slot x y w h res mode credit) s =
              .next (answered l r (reply .badState [1]) (taken l r .scanStart tag s))) ∧
          (c.held = true → (s.scans[i]).state ≠ .idle →
            exec (.scanStart l tag slot x y w h res mode credit) s =
              .next (answered l r (reply .badState (u8 (s.scans[i]).state.code)) (taken l r .scanStart tag s))) ∧
          (c.held = true → (s.scans[i]).state = .idle → isReady s i = false →
            exec (.scanStart l tag slot x y w h res mode credit) s =
              .next (answered l r (reply .busy [1]) (taken l r .scanStart tag s))) ∧
          (c.held = true → (s.scans[i]).state = .idle → isReady s i = true →
            (0 < framesWaiting s k i →
              exec (.scanStart l tag slot x y w h res mode credit) s =
                .next (answered l r (reply .busy [2]) (taken l r .scanStart tag s))) ∧
            (framesWaiting s k i = 0 →
              (res = 0 ∨ 4 < res.toNat ∨ mode = 0 ∨ 3 < mode.toNat ∨ w = 0 ∨ h = 0 ∨ (bed s i).1 = 0 ∨ (bed s i).2 = 0 →
                exec (.scanStart l tag slot x y w h res mode credit) s =
                  .next (answered l r (reply .badArg []) (taken l r .scanStart tag s))) ∧
              (1 ≤ res.toNat → res.toNat ≤ 4 → w ≠ 0 → h ≠ 0 → 0 < (bed s i).1 → 0 < (bed s i).2 →
                ∀ (m : ScanMode) (x' y' : Nat) (q : ScanRecord), m.code = mode.toNat →
                  x' = min x.toNat ((bed s i).1 - 1) → y' = min y.toNat ((bed s i).2 - 1) →
                  q = { s.scans[i] with
                    state := .preparing, setup := some .sset, ownerClaim := some c.id, kiosk := some k
                    lastKiosk := some k, x := x', y := y'
                    w := min w.toNat ((bed s i).1 - x'), h := min h.toNat ((bed s i).2 - y')
                    resolution := res.toNat, mode := m, credit := min 32 credit.toNat, nextSeq := 0, delivered := 0
                    available := 0, total := none, haltOutcome := none, lastOutcome := .none, availWanted := false
                    stateWanted := false, haltOwed := false } →
                  exec (.scanStart l tag slot x y w h res mode credit) s =
                    .next (answered l r (reply .ok (settingsBytes q))
                      { taken l r .scanStart tag s with scans := upd s.scans i fun _ => q })))))

/-- R128, R129, R120: SCAN CREDIT and SCAN STOP. -/
def Obligations.ScanCreditAndStop : Prop :=
  ∀ (s : State) (l : Link) (r : ReqSlot) (k : Kiosk) (tag slot n : Byte), Takes s l r → OnKiosk l k →
    (11 < slot.toNat →
      exec (.scanCredit l tag slot n) s = .next (answered l r (reply .badArg []) (taken l r .scanCredit tag s)) ∧
      exec (.scanStop l tag slot) s = .next (answered l r (reply .badArg []) (taken l r .scanStop tag s))) ∧
    ∀ i : Slot, slot.toNat = i.val →
      (definedKind s i ≠ some .scanner →
        exec (.scanCredit l tag slot n) s = .next (answered l r (reply .noSuch []) (taken l r .scanCredit tag s)) ∧
        exec (.scanStop l tag slot) s = .next (answered l r (reply .noSuch []) (taken l r .scanStop tag s))) ∧
      (definedKind s i = some .scanner →
        ((s.scans[i]).state = .idle →
          exec (.scanCredit l tag slot n) s = .next (answered l r (reply .badState [0]) (taken l r .scanCredit tag s)) ∧
          exec (.scanStop l tag slot) s = .next (answered l r (reply .badState [0]) (taken l r .scanStop tag s))) ∧
        ((s.scans[i]).state ≠ .idle → (s.scans[i]).kiosk ≠ some k →
          exec (.scanCredit l tag slot n) s = .next (answered l r (reply .notYours []) (taken l r .scanCredit tag s)) ∧
          exec (.scanStop l tag slot) s = .next (answered l r (reply .notYours []) (taken l r .scanStop tag s))) ∧
        ((s.scans[i]).state ≠ .idle → (s.scans[i]).kiosk = some k →
          (∃ c, exec (.scanCredit l tag slot n) s =
              .next (answered l r (reply .ok (u8 c))
                { taken l r .scanCredit tag s with scans := upd s.scans i fun q => { q with credit := c } }) ∧
            ((s.scans[i]).credit + framesWaiting s k i ≤ 32 → c + framesWaiting s k i ≤ 32) ∧
            ((s.scans[i]).credit + n.toNat + framesWaiting s k i ≤ 32 → c = (s.scans[i]).credit + n.toNat) ∧
            (32 < (s.scans[i]).credit + n.toNat + framesWaiting s k i →
              c = max (s.scans[i]).credit (32 - framesWaiting s k i))) ∧
          ((s.scans[i]).state = .halting →
            exec (.scanStop l tag slot) s = .next (answered l r (reply .badState [4]) (taken l r .scanStop tag s))) ∧
          ((s.scans[i]).state ≠ .halting →
            exec (.scanStop l tag slot) s =
              .next (answered l r (reply .ok [])
                { taken l r .scanStop tag s with
                  scans := upd s.scans i fun q => { q with
                    state := .halting, haltOutcome := some .cancelled, haltOwed := true } }))))

/-- R122, R124, R127, R129: the setup writes, the SSTATE read and the SHALT of a Scan Engine, with every outcome. -/
def Obligations.ScanSteps : Prop :=
  (∀ (s : State) (t : Txn) (i : Slot) (a : UnitAnswer) (d : List Byte), EngineTxn s t i .sset .scanner →
    (s.scans[i]).state = .preparing → (s.scans[i]).setup = some .sset →
    (EndsOk t a d → exec (.ssetComplete a) s = .next (countedOk i { busFreed s with
      scans := upd s.scans i fun q => { q with outstanding := none, setup := some .sgo } })) ∧
    (wireOutcome t a = .refused → exec (.ssetComplete a) s = .next (countedRefused i
      (latch? (s.scans[i]).kiosk .scanFailed { busFreed s with
        scans := upd s.scans i fun q => { q with
          outstanding := none, state := .idle, lastOutcome := .unitFault, ownerClaim := none, kiosk := none, credit := 0
          setup := none } })))) ∧
  (∀ (s : State) (t : Txn) (i : Slot) (a : UnitAnswer) (d : List Byte), EngineTxn s t i .sgo .scanner →
    (s.scans[i]).state = .preparing → (s.scans[i]).setup = some .sgo →
    (EndsOk t a d → exec (.sgoComplete a) s = .next (countedOk i { busFreed s with
      scans := upd s.scans i fun q => { q with outstanding := none, setup := none, state := .running } })) ∧
    (wireOutcome t a = .refused → exec (.sgoComplete a) s = .next (countedRefused i
      (latch? (s.scans[i]).kiosk .scanFailed { busFreed s with
        scans := upd s.scans i fun q => { q with
          outstanding := none, state := .idle, lastOutcome := .unitFault, ownerClaim := none, kiosk := none, credit := 0
          setup := none } })))) ∧
  (∀ (s : State) (t : Txn) (i : Slot) (a : UnitAnswer) (d : List Byte), EngineTxn s t i .sstate .scanner →
    EndsOk t a d →
    ((s.scans[i]).state = .running → 3 ≤ d.length →
      exec (.sstateReadComplete a) s = .next (countedOk i { busFreed s with
        scans := upd s.scans i fun q => { q with
          outstanding := none, total := some (halfAt d 1), stateWanted := false, state := .ending
          availWanted := true } })) ∧
    ((s.scans[i]).state ≠ .running →
      exec (.sstateReadComplete a) s = .next (countedOk i { busFreed s with
        scans := upd s.scans i fun q => { q with outstanding := none } }))) ∧
  (∀ (s : State) (t : Txn) (i : Slot) (a : UnitAnswer) (d : List Byte), EndsOk t a d → ∀ u,
    u = { busFreed s with scans := upd s.scans i fun q => { q with outstanding := none } } →
    (EngineTxn s t i .sset .scanner → (s.scans[i]).state ≠ .preparing ∨ (s.scans[i]).setup ≠ some .sset →
      exec (.ssetComplete a) s = .next (countedOk i u)) ∧
    (EngineTxn s t i .sgo .scanner → (s.scans[i]).state ≠ .preparing ∨ (s.scans[i]).setup ≠ some .sgo →
      exec (.sgoComplete a) s = .next (countedOk i u)) ∧
    (EngineTxn s t i .shalt .scanner → (s.scans[i]).state ≠ .halting →
      exec (.shaltComplete a) s = .next (countedOk i u))) ∧
  (∀ (s : State) (t : Txn) (i : Slot) (o : BusOutcome), o ≠ .ok → ∀ ended failed halted : State → State,
    (ended = fun s => { s with scans := upd s.scans i fun q => { q with outstanding := none } }) →
    (failed = fun v => latch? (s.scans[i]).kiosk .scanFailed { v with
      scans := upd v.scans i fun q => { q with
        outstanding := none, state := .idle, lastOutcome := .unitFault, ownerClaim := none, kiosk := none, credit := 0
        setup := none } }) →
    (halted = fun v => { discardFrames (s.scans[i]).kiosk i v with
      scans := upd v.scans i fun q => { q with
        outstanding := none, state := .idle, lastOutcome := q.haltOutcome.getD .none, haltOutcome := none
        ownerClaim := none, kiosk := none, credit := 0, available := 0, availWanted := false
        stateWanted := false } }) →
    (EngineTxn s t i .sset .scanner →
      ((s.scans[i]).state = .preparing → (s.scans[i]).setup = some .sset → EndsWith .ssetComplete s t i o failed) ∧
      ((s.scans[i]).state ≠ .preparing ∨ (s.scans[i]).setup ≠ some .sset → EndsWith .ssetComplete s t i o ended)) ∧
    (EngineTxn s t i .sgo .scanner →
      ((s.scans[i]).state = .preparing → (s.scans[i]).setup = some .sgo → EndsWith .sgoComplete s t i o failed) ∧
      ((s.scans[i]).state ≠ .preparing ∨ (s.scans[i]).setup ≠ some .sgo → EndsWith .sgoComplete s t i o ended)) ∧
    (EngineTxn s t i .sstate .scanner → EndsWith .sstateReadComplete s t i o ended) ∧
    (EngineTxn s t i .shalt .scanner →
      ((s.scans[i]).state = .halting → EndsWith .shaltComplete s t i o halted) ∧
      ((s.scans[i]).state ≠ .halting → EndsWith .shaltComplete s t i o ended))) ∧
  ∀ (s : State) (t : Txn) (i : Slot) (a : UnitAnswer) (d : List Byte), EngineTxn s t i .shalt .scanner →
    (s.scans[i]).state = .halting →
    ∀ u, u = { discardFrames (s.scans[i]).kiosk i (busFreed s) with
        scans := upd s.scans i fun q => { q with
          outstanding := none, state := .idle, lastOutcome := q.haltOutcome.getD .none, haltOutcome := none
          ownerClaim := none, kiosk := none, credit := 0, available := 0, availWanted := false
          stateWanted := false } } →
      (EndsOk t a d → exec (.shaltComplete a) s = .next (countedOk i u)) ∧
      (wireOutcome t a = .refused → exec (.shaltComplete a) s = .next (countedRefused i u))

/-- R126, R127, R124: the AVAIL reads and the PULLs of a Scan Engine, with every outcome. -/
def Obligations.ScanData : Prop :=
  (∀ (s : State) (t : Txn) (i : Slot) (a : UnitAnswer) (d : List Byte), EngineTxn s t i .avail .scanner →
    EndsOk t a d →
    ((s.scans[i]).state = .running ∨ ((s.scans[i]).state = .ending ∧ byteAt d 0 ≠ 0) →
      exec (.availReadComplete a) s = .next (countedOk i { busFreed s with
        scans := upd s.scans i fun q => { q with
          outstanding := none, available := (byteAt d 0).toNat, availWanted := false } })) ∧
    ((s.scans[i]).state = .ending → byteAt d 0 = 0 →
      exec (.availReadComplete a) s = .next (countedOk i
        (latch? (s.scans[i]).kiosk .scanDone { busFreed s with
          scans := upd s.scans i fun q => { q with
            outstanding := none, available := 0, availWanted := false, state := .idle, lastOutcome := .done
            ownerClaim := none, kiosk := none, credit := 0 } }))) ∧
    ((s.scans[i]).state ≠ .running → (s.scans[i]).state ≠ .ending →
      exec (.availReadComplete a) s = .next (countedOk i { busFreed s with
        scans := upd s.scans i fun q => { q with outstanding := none } }))) ∧
  (∀ (s : State) (t : Txn) (i : Slot) (o : BusOutcome), o ≠ .ok → ∀ ended : State → State,
    (ended = fun s => { s with scans := upd s.scans i fun q => { q with outstanding := none } }) →
    (EngineTxn s t i .avail .scanner → EndsWith .availReadComplete s t i o ended) ∧
    (EngineTxn s t i .pull .scanner →
      ((s.scans[i]).state = .running ∨ (s.scans[i]).state = .ending → o = .refused →
        EndsWith .pullComplete s t i o fun s => { s with
          scans := upd s.scans i fun q => { q with
            outstanding := none, available := 0, availWanted := q.availWanted || decide (q.state = .ending) } }) ∧
      ((s.scans[i]).state ≠ .running ∧ (s.scans[i]).state ≠ .ending ∨ o ≠ .refused →
        EndsWith .pullComplete s t i o ended))) ∧
  ∀ (s : State) (t : Txn) (i : Slot) (a : UnitAnswer) (d : List Byte), EngineTxn s t i .pull .scanner →
    ((s.scans[i]).state = .running ∨ (s.scans[i]).state = .ending →
      (∀ k, EndsOk t a d → (s.scans[i]).kiosk = some k →
        exec (.pullComplete a) s = .next (countedOk i { busFreed s with
          kiosks := upd s.kiosks k fun q => { q with
            scan := q.scan ++ [{ slot := i, seq := (s.scans[i]).nextSeq, data := d }] }
          scans := upd s.scans i fun q => { q with
            outstanding := none, credit := q.credit - 1, available := q.available - 1, nextSeq := q.nextSeq + 1
            delivered := q.delivered + 1
            availWanted := q.availWanted || (decide (q.state = .ending) && decide (q.available - 1 = 0)) } })) ∧
      (wireOutcome t a = .refused →
        exec (.pullComplete a) s = .next (countedRefused i { busFreed s with
          scans := upd s.scans i fun q => { q with
            outstanding := none, available := 0, availWanted := q.availWanted || decide (q.state = .ending) } }))) ∧
    ((s.scans[i]).state ≠ .running → (s.scans[i]).state ≠ .ending → EndsOk t a d →
      exec (.pullComplete a) s = .next (countedOk i { busFreed s with
        scans := upd s.scans i fun q => { q with outstanding := none } }))

/-! ### Chapter 7: units -/

/-- R137, R142, R162, R18, R68, R44, R115, R132: UNIT DEFINE and UNIT REMOVE; at the removal a panel's contacts are freed
with the CANCELs of the LIVE ones, and its zones are cleared with ZONE_CHANGED for their owners; the claims on its open zones,
or on the scanner, are removed with CLAIM_LOST for holders and waiters alike, and the other claims, waits and zones stay; a
printer's jobs end or move; and a scan ends with its frames discarded. -/
def Obligations.UnitDefineAndRemove : Prop :=
  (∀ (s : State) (r : ReqSlot) (tag slot address kind mode enable : Byte), Takes s serviceLink r →
    (11 < slot.toNat →
      exec (.unitDefine serviceLink tag slot address kind mode enable) s =
        .next (answered serviceLink r (reply .badArg [1]) (taken serviceLink r .unitDefine tag s)) ∧
      exec (.unitRemove serviceLink tag slot) s =
        .next (answered serviceLink r (reply .badArg []) (taken serviceLink r .unitRemove tag s))) ∧
    ∀ i : Slot, slot.toNat = i.val →
      (∀ d, (s.units[i]).definition = some d →
        exec (.unitDefine serviceLink tag slot address kind mode enable) s =
          .next (answered serviceLink r (reply .badState (u8 (unitStateCode (some d.state))))
            (taken serviceLink r .unitDefine tag s)) ∧
        exec (.unitRemove serviceLink tag slot) s =
          .next (answered serviceLink r (reply .ok (u8 (unitStateCode (some d.state))))
            (removeSlot i d.kind (taken serviceLink r .unitRemove tag s)))) ∧
      ((s.units[i]).definition = none →
        exec (.unitRemove serviceLink tag slot) s =
          .next (answered serviceLink r (reply .noSuch []) (taken serviceLink r .unitRemove tag s)) ∧
        (address = 0 ∨ 119 < address.toNat →
          exec (.unitDefine serviceLink tag slot address kind mode enable) s =
            .next (answered serviceLink r (reply .badArg [2]) (taken serviceLink r .unitDefine tag s))) ∧
        (1 ≤ address.toNat → address.toNat ≤ 119 →
          (∀ j, addressHolder s address.toNat = some j →
            exec (.unitDefine serviceLink tag slot address kind mode enable) s =
              .next (answered serviceLink r (reply .badArg (2 :: u8 j.val)) (taken serviceLink r .unitDefine tag s))) ∧
          (addressHolder s address.toNat = none →
            (kind = 0 ∨ 3 < kind.toNat →
              exec (.unitDefine serviceLink tag slot address kind mode enable) s =
                .next (answered serviceLink r (reply .badArg [3]) (taken serviceLink r .unitDefine tag s))) ∧
            ∀ k : UnitKind, k.code = kind →
              (3 < mode.toNat →
                exec (.unitDefine serviceLink tag slot address kind mode enable) s =
                  .next (answered serviceLink r (reply .badArg [4]) (taken serviceLink r .unitDefine tag s))) ∧
              ∀ m : AttnMode, m.code = mode.toNat →
                exec (.unitDefine serviceLink tag slot address kind mode enable) s =
                  .next (answered serviceLink r (reply .ok [])
                    { taken serviceLink r .unitDefine tag s with
                      units := upd s.units i fun _ =>
                        { definition := some { address := address.toNat, kind := k, state := .probing }, mode := m
                          enable := decide (enable ≠ 0), failures := 0, probe := some .ping, reprobe := none
                          ident := none }
                      attn := upd s.attn i fun v => { v with pending := false }
                      feeds := upd s.feeds i fun _ => .reset
                      scans := upd s.scans i fun _ => .reset
                      panels := upd s.panels i fun _ => .reset
                      printQueue := upd s.printQueue i fun _ => []
                      board := upd s.board i fun _ => some
                        { owner := .probe, kind := .ping, address := address.toNat, command := 0, data := []
                          minCount := 0, rank := .probe, aging := 0 } }))))) ∧
  ∀ (s t : State) (i : Slot) (d : UnitDef), (s.units[i]).definition = some d → removeSlot i d.kind s = t →
    t.units[i] = { definition := none, mode := (s.units[i]).mode, enable := false, failures := 0, probe := none
                   reprobe := none, ident := none } ∧
    (∀ j : Slot, j ≠ i → t.units[j] = s.units[j] ∧ t.board[j] = s.board[j]) ∧
    (t.attn[i]).pending = false ∧ t.board[i] = none ∧ t.printQueue[i] = [] ∧
    (∀ x, s.bus = .running x → x.slot = some i → t.bus = .running { x with orphaned := true }) ∧
    (∀ x, s.bus = .running x → x.slot ≠ some i → t.bus = s.bus) ∧
    (∀ k : Kiosk, (t.notices[k]).pending.getLsbD 11 = true) ∧
    (∀ z : ZoneIx, t.zones[z] = if d.kind = .panel ∧ zoneOn s i z = true then none else s.zones[z]) ∧
    (ClaimLaw s →
      t.claims = (s.claims.filter fun c => !goesWith s i d.kind c) ∧
      t.waits = (s.waits.filter fun id => !s.claims.any fun c => decide (c.id = id) && goesWith s i d.kind c) ∧
      ∀ k : Kiosk,
        (t.notices[k]).pending.getLsbD 2 = ((s.notices[k]).pending.getLsbD 2 ||
          s.claims.any fun c => decide (c.kiosk = k) && goesWith s i d.kind c) ∧
        (t.notices[k]).pending.getLsbD 10 = ((s.notices[k]).pending.getLsbD 10 ||
          (decide (d.kind = .panel) && (indices 32).any fun z => zoneOn s i z && decide (zoneOwner s z = some k)))) ∧
    (d.kind = .panel → (∀ z : ZoneIx, ∀ e, t.zones[z] = some e → e.panel ≠ i) ∧
      (∀ n : ContactNo, ∀ c, t.contacts[n] = some c → c.panel ≠ i) ∧ t.ignored[i] = [] ∧
      (LiveLaw s →
        (∀ n : ContactNo, t.contacts[n] = (s.contacts[n]).bind fun c => if c.panel = i then none else some c) ∧
        ∀ k : Kiosk, t.kiosks[k] = arrivals (cancels (onPanel i) s k) s.kiosks[k])) ∧
    (d.kind = .printer → t.feeds[i] = FeedEngine.reset ∧
      (PrintQueueLaw s → ∀ u v w, HeadEnded i .unitRemoved s u → v = forEach (u.printQueue[i]) (moveAnyJob i) u →
        w = forEach (v.printQueue[i]) (fun id s => endJob id .failed none (some .unitRemoved) s) v → SpoolerOf w t)) ∧
    (d.kind = .scanner → (ClaimLaw s → ∀ c ∈ t.claims, c.resource ≠ .scanner i) ∧ t.scans[i] = ScanRecord.reset ∧
      ∀ k : Kiosk,
        ((s.scans[i]).state ≠ .idle → (s.scans[i]).kiosk = some k →
          t.kiosks[k] = { s.kiosks[k] with scan := (s.kiosks[k]).scan.filter fun f => f.slot ≠ i } ∧
          ((s.scans[i]).state ≠ .halting → (t.notices[k]).pending.getLsbD 8 = true)) ∧
        ((s.scans[i]).state = .idle ∨ (s.scans[i]).kiosk ≠ some k → t.kiosks[k] = s.kiosks[k]) ∧
        ((s.scans[i]).state = .idle ∨ (s.scans[i]).state = .halting ∨ (s.scans[i]).kiosk ≠ some k →
          (t.notices[k]).pending.getLsbD 8 = (s.notices[k]).pending.getLsbD 8))

/-- R144 to R149, R107, R108, R111 to R113, R125, R26, R43: ATTN SET, a change of an attention line, a cause poll with
every outcome, and what each cause flag does, taken in the order of the kind. That an orphaned poll in flight holds the level
rule off is an inference (log entry 17), and so is that in a full reset a change of a line changes its level alone (log entry
19). That a cause byte with no flag of a printer set leaves mark held as it is follows R148, where R111 clears it at a cause read
(log entry 26). The byte that reports the pending flag is the model's choice (log entry 32). That a
change of mode leaves the capture time held, which a poll already posted may then carry, is an inference (log entry 34). -/
def Obligations.Attention : Prop :=
  (∀ (s : State) (r : ReqSlot) (tag slot mode enable : Byte), Takes s serviceLink r →
    (11 < slot.toNat ∨ 3 < mode.toNat →
      exec (.attnSet serviceLink tag slot mode enable) s =
        .next (answered serviceLink r (reply .badArg []) (taken serviceLink r .attnSet tag s))) ∧
    ∀ (i : Slot) (m : AttnMode), slot.toNat = i.val → m.code = mode.toNat →
      ((s.units[i]).definition = none →
        exec (.attnSet serviceLink tag slot mode enable) s =
          .next (answered serviceLink r (reply .noSuch []) (taken serviceLink r .attnSet tag s))) ∧
      ((s.units[i]).definition ≠ none →
        ((s.units[i]).mode = m →
          exec (.attnSet serviceLink tag slot mode enable) s =
            .next (answered serviceLink r (reply .ok (flagByte (s.attn[i]).pending))
              { taken serviceLink r .attnSet tag s with
                units := upd s.units i fun u => { u with enable := decide (enable ≠ 0) } })) ∧
        ((s.units[i]).mode ≠ m → ∀ t,
          t = { taken serviceLink r .attnSet tag s with
            units := upd s.units i fun u => { u with mode := m, enable := decide (enable ≠ 0) } } →
          (lineActive t i = false ∨ pollInFlight s i = true →
            exec (.attnSet serviceLink tag slot mode enable) s =
              .next (answered serviceLink r (reply .ok [0])
                { t with attn := upd s.attn i fun v => { v with pending := false } })) ∧
          (lineActive t i = true → pollInFlight s i = false →
            exec (.attnSet serviceLink tag slot mode enable) s =
              .next (answered serviceLink r (reply .ok [1])
                { t with attn := upd s.attn i fun _ => { pending := true, capture := s.hubTime } }))))) ∧
  (∀ (s : State) (i : Slot) (high : Bool) (t : State), t = { s with attnLine := upd s.attnLine i fun _ => high } →
    (s.phase = .full ∨ (s.units[i]).mode = .levelLow ∨ (s.units[i]).mode = .levelHigh →
      exec (.attnLineChange i high) s = .next (settle t)) ∧
    (s.phase ≠ .full → (s.units[i]).mode = .edgeFall ∨ (s.units[i]).mode = .edgeRise →
      (s.attnLine[i] = high ∨ (s.attn[i]).pending = true ∨ high = decide ((s.units[i]).mode = .edgeFall) →
        exec (.attnLineChange i high) s = .next (settle t)) ∧
      (s.attnLine[i] ≠ high → (s.attn[i]).pending = false → high = decide ((s.units[i]).mode = .edgeRise) →
        exec (.attnLineChange i high) s =
          .next (settle { t with attn := upd s.attn i fun _ => { pending := true, capture := s.hubTime } })))) ∧
  (∀ (s : State) (i : Slot),
    (lineActive s i = true ↔ (s.units[i]).mode = .levelLow ∧ s.attnLine[i] = false ∨
      (s.units[i]).mode = .levelHigh ∧ s.attnLine[i] = true) ∧
    (pollInFlight s i = true ↔ ∃ t, s.bus = .running t ∧ t.owner = .cause ∧ t.slot = some i) ∧
    (lineActive s i = true → (s.attn[i]).pending = false → pollInFlight s i = false →
      levelRule i s = { s with attn := upd s.attn i fun _ => { pending := true, capture := s.hubTime } }) ∧
    (lineActive s i = false ∨ (s.attn[i]).pending = true ∨ pollInFlight s i = true → levelRule i s = s)) ∧
  (∀ (s : State) (t : Txn) (i : Slot) (a : UnitAnswer) (d : List Byte), s.bus = .running t → t.owner = .cause →
    t.slot = some i → t.orphaned = false → isReady s i = true →
    (EndsOk t a d →
      exec (.causePollComplete a) s =
        .next (countedOk i (levelRule i (causeToEngine i (byteAt d 0) t.capture (busFreed s))))) ∧
    (wireOutcome t a = .refused →
      exec (.causePollComplete a) s =
        .next (countedRefused i
          { busFreed s with attn := upd s.attn i fun _ => { pending := true, capture := t.capture } })) ∧
    ∀ o, o ≠ .ok → EndsWith .causePollComplete s t i o fun v => { v with
      attn := upd v.attn i fun _ => { pending := true, capture := t.capture } }) ∧
  (∀ (s : State) (i : Slot) (c : Time),
    (definedKind s i = some .panel → (s.panels[i]).readWanted = false →
      causeToEngine i 0x01 c s =
        { s with panels := upd s.panels i fun e => { e with readWanted := true, readCapture := some c } }) ∧
    (definedKind s i = some .scanner → (s.scans[i]).state = .running →
      causeToEngine i 0x03 c s =
        { s with scans := upd s.scans i fun q => { q with availWanted := true, stateWanted := true } }) ∧
    (definedKind s i = some .printer → (s.feeds[i]).step = .none →
      causeToEngine i 0x18 c s =
        { s with feeds := upd s.feeds i fun e => { e with markHeld := false, paused := true, pauseCause := some .jam } })) ∧
  (∀ (s : State) (i : Slot) (c : Time) (b : Byte),
    causeToEngine i 0 c s = s ∧
    (definedKind s i = some .panel → causeToEngine i b c s = causePart i b c 0x01 (causePart i b c 0x02 s)) ∧
    (definedKind s i = some .scanner →
      causeToEngine i b c s = causePart i b c 0x02 (causePart i b c 0x01 (causePart i b c 0x04 s))) ∧
    (definedKind s i = some .printer → b &&& 0x7F ≠ 0 →
      causeToEngine i b c s = causePart i b c 0x40 (causePart i b c 0x38 (causePart i b c 0x02 (causePart i b c 0x04
        (causePart i b c 0x01 s))))) ∧
    (definedKind s i = some .printer → causeToEngine i b c s = causeToEngine i (b &&& 0x7F) c s ∧
      (b &&& 0x7F = 0 → causeToEngine i b c s = s))) ∧
  (∀ (s : State) (i : Slot) (c : Time), definedKind s i = some .panel →
    (∀ t, causeToEngine i 0x02 c s = t → Cancelled (onPanel i) s t ∧
      t = { s with contacts := t.contacts, kiosks := t.kiosks }) ∧
    ((s.panels[i]).readWanted = true → causeToEngine i 0x01 c s = s)) ∧
  (∀ (s : State) (i : Slot) (c : Time) (q : ScanRecord), definedKind s i = some .scanner → q = s.scans[i] →
    (q.state = .preparing ∨ q.state = .running ∨ q.state = .ending →
      causeToEngine i 0x04 c s = latch? q.kiosk .scanFailed { s with scans := upd s.scans i fun q => { q with
        state := .halting, haltOutcome := some .unitFault, haltOwed := true } } ∧
      causeToEngine i 0x01 c s = { s with scans := upd s.scans i fun q => { q with availWanted := true } }) ∧
    (q.state = .halting ∨ q.state = .idle → causeToEngine i 0x04 c s = s ∧ causeToEngine i 0x01 c s = s) ∧
    (q.state = .preparing ∨ q.state = .running →
      causeToEngine i 0x02 c s = { s with scans := upd s.scans i fun q => { q with stateWanted := true } }) ∧
    (q.state ≠ .preparing → q.state ≠ .running → causeToEngine i 0x02 c s = s)) ∧
  ∀ (s : State) (i : Slot) (c : Time) (e : FeedEngine), definedKind s i = some .printer → e = s.feeds[i] →
    ∀ reported, reported = { s with feeds := upd s.feeds i fun e => { e with markHeld := false } } →
    causeToEngine i 0x01 c s =
      { s with feeds := upd s.feeds i fun e => { e with markHeld := false, creditWanted := true } } ∧
    (∀ j, WithPrinter e → headJob? s i = some j → j.state = .feeding ∨ j.state = .draining →
      causeToEngine i 0x04 c s =
        modFeed i (fun e => { e with
          markHeld := false, step := .none, job := none, pagesWanted := false, credit := 0, creditKnown := false })
          (endJob j.id .failed none (some .printerAbort) s)) ∧
    (¬WithPrinter e → causeToEngine i 0x04 c s = reported) ∧
    (e.step = .endWait →
      causeToEngine i 0x02 c s =
        { s with feeds := upd s.feeds i fun e => { e with markHeld := false, pagesWanted := true } }) ∧
    (∀ j, e.step = .endMark → headJob? s i = some j → j.state = .feeding → j.isOpen = false → j.chain = [] →
      causeToEngine i 0x02 c s = { s with
        feeds := upd s.feeds i fun e => { e with markHeld := false, step := .endWait, pagesWanted := true }
        jobs := s.jobs.map fun x => if x.id = j.id then { x with state := .draining } else x }) ∧
    (e.step ≠ .endWait → e.step ≠ .endMark → causeToEngine i 0x02 c s = reported) ∧
    (∀ (b : Byte) (p : PauseCause), b &&& 0x38 = b → b ≠ 0 → (b.getLsbD 5 = true → p = .coverOpen) →
      (b.getLsbD 5 = false → b.getLsbD 4 = true → p = .jam) →
      (b.getLsbD 5 = false → b.getLsbD 4 = false → p = .paperOut) →
      ∀ u, u = { s with
        feeds := upd s.feeds i fun e => { e with markHeld := false, paused := true, pauseCause := some p } } →
      (¬WithPrinter e ∨ e.pauseCause = some p → causeToEngine i b c s = u) ∧
      ∀ id j, WithPrinter e → e.pauseCause ≠ some p → e.job = some id → job? s id = some j →
        causeToEngine i b c s = latch j.kiosk .jobHeld u) ∧
    (e.paused = false → causeToEngine i 0x40 c s = reported) ∧
    (e.paused = true → ∀ u, u = { s with
        feeds := upd s.feeds i fun e => { e with
          markHeld := false, paused := false, pauseCause := none, credit := 0, creditKnown := false
          creditWanted := true } } →
      (¬WithPrinter e → causeToEngine i 0x40 c s = u) ∧
      ∀ id j, WithPrinter e → e.job = some id → job? s id = some j →
        causeToEngine i 0x40 c s = latch j.kiosk .jobResumed u)

/-- R138 to R140, R160, R168, R203: the steps of a probe with every outcome, one that a stall or an abort gives too, and the
re-probe timer. That a REPROBE_TIMER_EXPIRY before its time has no
effect is the model's choice (log entry 4). -/
def Obligations.Probing : Prop :=
  (∀ (k m1 m0 v a1 a0 b1 b0 : Byte) (rest : List Byte), identOf (k :: m1 :: m0 :: v :: a1 :: a0 :: b1 :: b0 :: rest) =
    { kind := k, model := m1 ++ m0, revision := v, cap1 := a1 ++ a0, cap2 := b1 ++ b0 }) ∧
  (∀ (s : State) (t : Txn) (i : Slot) (a : UnitAnswer) (d : List Byte), s.bus = .running t → t.owner = .probe →
    t.slot = some i → t.orphaned = false →
    (EndsOk t a d → t.kind = .ping →
      exec (.pingComplete a) s = .next (settle { busFreed s with
        units := upd s.units i fun u => { u with probe := some .restart }
        board := upd s.board i fun _ => some
          { owner := .probe, kind := .write, address := slotAddress s i, command := 0x02, data := [0], minCount := 0
            rank := .probe, aging := 0 } })) ∧
    (EndsOk t a d → t.kind = .write →
      exec (.restartComplete a) s = .next (settle { busFreed s with
        units := upd s.units i fun u => { u with probe := some .ident }
        board := upd s.board i fun _ => some
          { owner := .probe, kind := .read, address := slotAddress s i, command := 0x01, data := [], minCount := 8
            rank := .probe, aging := 0 } })) ∧
    (EndsOk t a d → t.kind = .read →
      (∀ k : UnitKind, definedKind s i = some k → k.code ≠ byteAt d 0 →
        exec (.identComplete a) s = .next (settle { busFreed s with
          units := upd s.units i fun u => { u with
            ident := some (identOf d), probe := none, reprobe := none
            definition := u.definition.map fun v => { v with state := .mismatch } } })) ∧
      (∀ k : UnitKind, definedKind s i = some k → k.code = byteAt d 0 →
        exec (.identComplete a) s = .next (settle (becomeReady i { busFreed s with
          units := upd s.units i fun u => { u with ident := some (identOf d), probe := none } })))) ∧
    (wireOutcome t a ≠ .ok → ∀ u, u = { busFreed s with
        units := upd s.units i fun u => { u with
          probe := some .ping, reprobe := some (s.hubTime + 2000)
          definition := u.definition.map fun v => { v with state := .lost } } } →
      (t.kind = .ping → exec (.pingComplete a) s = .next (settle u)) ∧
      (t.kind = .write → exec (.restartComplete a) s = .next (settle u)) ∧
      (t.kind = .read → exec (.identComplete a) s = .next (settle u)))) ∧
  (∀ (s : State) (t : Txn) (i : Slot) (p : Progress) (b : BusState) (o : BusOutcome), t.owner = .probe →
    t.slot = some i → t.orphaned = false → o ≠ .ok →
    handOn { t with progress := p } o { s with bus := b } = { s with
      bus := b
      units := upd s.units i fun u => { u with
        probe := some .ping, reprobe := some (s.hubTime + 2000)
        definition := u.definition.map fun v => { v with state := .lost } } }) ∧
  (∀ (s : State) (i : Slot) (d : UnitDef), (s.units[i]).definition = some d → ∀ t, becomeReady i s = t →
    isReady t i = true ∧ (t.units[i]).failures = 0 ∧ (t.units[i]).reprobe = none ∧ t.panels[i] = PanelEngine.reset ∧
    (t.attn[i]).pending = (lineActive s i && !pollInFlight s i) ∧
    ∀ k : Kiosk, (t.notices[k]).pending.getLsbD 11 = true) ∧
  ∀ (s : State) (i : Slot) (x : Time), unitState s i = some .lost → (s.units[i]).reprobe = some x →
    (reached s.hubTime x = false → exec (.reprobeTimerExpiry i) s = .next (settle s)) ∧
    (reached s.hubTime x = true →
      exec (.reprobeTimerExpiry i) s = .next (settle { s with
        units := upd s.units i fun u => { u with reprobe := none, probe := some .ping }
        board := upd s.board i fun _ => some
          { owner := .probe, kind := .ping, address := slotAddress s i, command := 0, data := [], minCount := 0
            rank := .probe, aging := 0 } }))

/-- R141, R44, R114, R132, R163, R81: the failure count of a READY slot, and its loss at the third failure in a row: a
panel's contacts are freed with the CANCELs of the LIVE ones, a printer's head job ends and its ANY jobs move, a scan ends
UNIT_LOST or with its halt outcome. -/
def Obligations.FailureCountAndLoss : Prop :=
  (∀ (s : State) (i : Slot),
    (isReady s i = false → ∀ o, countFailure i o s = s) ∧
    (isReady s i = true →
      countFailure i .ok s = { s with units := upd s.units i fun u => { u with failures := 0 } } ∧
      countFailure i .refused s = s ∧ countFailure i .aborted s = s ∧
      ∀ o, o = .noAnswer ∨ o = .checkFail ∨ o = .overlong ∨ o = .short ∨ o = .stalled →
        ((s.units[i]).failures < 2 →
          countFailure i o s = { s with units := upd s.units i fun u => { u with failures := u.failures + 1 } }) ∧
        (2 ≤ (s.units[i]).failures → ∀ t, countFailure i o s = t →
          unitState t i = some .lost ∧ (t.units[i]).failures = 3 ∧ (t.units[i]).probe = some .ping ∧
          (t.units[i]).reprobe = some (s.hubTime + 2000) ∧ t.board[i] = none ∧
          (∀ j : Slot, j ≠ i → t.units[j] = s.units[j] ∧ t.board[j] = s.board[j]) ∧
          (∀ k : Kiosk, (t.notices[k]).pending.getLsbD 11 = true) ∧
          (definedKind s i = some .panel → (∀ n : ContactNo, ∀ c, t.contacts[n] = some c → c.panel ≠ i) ∧
            t.ignored[i] = [] ∧ t.panels[i] = PanelEngine.reset ∧ t.zones = s.zones ∧
            (∀ n : ContactNo, t.contacts[n] = (s.contacts[n]).bind fun c => if c.panel = i then none else some c) ∧
            ∀ k : Kiosk, t.kiosks[k] = arrivals (cancels (onPanel i) s k) s.kiosks[k]) ∧
          (definedKind s i = some .printer → t.feeds[i] = FeedEngine.reset ∧
            ∀ u w, HeadEnded i .unitLost s u → w = forEach (u.printQueue[i]) (moveAnyJob i) u → SpoolerOf w t) ∧
          (definedKind s i = some .scanner → (t.scans[i]).outstanding = none ∧ (t.scans[i]).state = .idle ∧
            t.claims = s.claims ∧
            ((s.scans[i]).state = .idle → t.scans[i] = { s.scans[i] with outstanding := none } ∧ t.kiosks = s.kiosks ∧
              ∀ k : Kiosk, (t.notices[k]).pending.getLsbD 8 = (s.notices[k]).pending.getLsbD 8) ∧
            ((s.scans[i]).state ≠ .idle → ∀ last : ScanOutcome,
              ((s.scans[i]).state ≠ .halting → last = .unitLost) →
              ((s.scans[i]).state = .halting → (s.scans[i]).haltOutcome = some last) →
              t.scans[i] = { s.scans[i] with
                state := .idle, lastOutcome := last, ownerClaim := none, kiosk := none, haltOutcome := none
                haltOwed := false, setup := none, availWanted := false, stateWanted := false, credit := 0, available := 0
                outstanding := none } ∧
              ∀ k : Kiosk,
                ((s.scans[i]).kiosk = some k →
                  t.kiosks[k] = { s.kiosks[k] with scan := (s.kiosks[k]).scan.filter fun f => f.slot ≠ i } ∧
                  ((s.scans[i]).state ≠ .halting → (t.notices[k]).pending.getLsbD 8 = true)) ∧
                ((s.scans[i]).kiosk ≠ some k → t.kiosks[k] = s.kiosks[k]) ∧
                ((s.scans[i]).kiosk ≠ some k ∨ (s.scans[i]).state = .halting →
                  (t.notices[k]).pending.getLsbD 8 = (s.notices[k]).pending.getLsbD 8)))))) ∧
  ∀ (s : State) (i : Slot) (id : Nat),
    (∀ j, job? s id = some j → j.anyTarget = true → j.state = .filling ∨ j.state = .queued →
      (anyPrinter s (some i) = none → moveAnyJob i id s = s) ∧
      ∀ k : Slot, anyPrinter s (some i) = some k →
        moveAnyJob i id s = { s with
          printQueue := upd (upd s.printQueue i fun q => q.filter fun x => x ≠ id) k fun q => q ++ [id]
          jobs := s.jobs.map fun x => if x.id = id then { x with slot := k } else x }) ∧
    (job? s id = none ∨ (∃ j, job? s id = some j ∧
        (j.anyTarget = false ∨ (j.state ≠ .filling ∧ j.state ≠ .queued))) →
      moveAnyJob i id s = s)

/-! ### Chapter 8: the unit bus -/

/-- R167, R162, R157: BUS RAW is posted or refused, and its reply follows the end of its transaction, whatever its outcome:
the count of a READ that reached its count byte, the data received, and the checks of one that reached its check byte, one
that a stall or an abort then cut short too. The unnamed bits of the present byte are 0 (log entry 33). -/
def Obligations.BusRaw : Prop :=
  (∀ (s : State) (r : ReqSlot) (tag address command : Byte) (data : List Byte), Takes s serviceLink r →
    1 ≤ data.length → data.length ≤ 48 →
    (s.busRaw ≠ none → ∀ u, u = answered serviceLink r (reply .busy [0]) (taken serviceLink r .busRaw tag s) →
      exec (.busRawPing serviceLink tag address command) s = .next u ∧
      exec (.busRawRead serviceLink tag address command) s = .next u ∧
      exec (.busRawWrite serviceLink tag address command data) s = .next u) ∧
    (s.busRaw = none → 127 < address.toNat →
      ∀ u, u = answered serviceLink r (reply .badArg []) (taken serviceLink r .busRaw tag s) →
      exec (.busRawPing serviceLink tag address command) s = .next u ∧
      exec (.busRawRead serviceLink tag address command) s = .next u ∧
      exec (.busRawWrite serviceLink tag address command data) s = .next u) ∧
    (s.busRaw = none → address.toNat ≤ 127 →
      exec (.busRawPing serviceLink tag address command) s =
        .next (settle { taken serviceLink r .busRaw tag s with
          busRaw := some r
          servicePlace := some
            { owner := .service, kind := .ping, address := address.toNat, command := 0, data := [], minCount := 0
              rank := .service, aging := 0 } }) ∧
      exec (.busRawRead serviceLink tag address command) s =
        .next (settle { taken serviceLink r .busRaw tag s with
          busRaw := some r
          servicePlace := some
            { owner := .service, kind := .read, address := address.toNat, command := command, data := [], minCount := 0
              rank := .service, aging := 0 } }) ∧
      exec (.busRawWrite serviceLink tag address command data) s =
        .next (settle { taken serviceLink r .busRaw tag s with
          busRaw := some r
          servicePlace := some
            { owner := .service, kind := .write, address := address.toNat, command := command, data := data
              minCount := 0, rank := .service, aging := 0 } }))) ∧
  (∀ (s : State) (t : Txn) (a : UnitAnswer) (r : ReqSlot), s.bus = .running t → t.owner = .service →
    t.orphaned = false → s.busRaw = some r →
    exec (.busRawComplete a) s =
      .next (answered serviceLink r (rawReply { t with progress := wireProgress t a } (wireOutcome t a))
        { busFreed s with busRaw := none }) ∧
    (t.kind ≠ .read → rawReply { t with progress := wireProgress t a } (wireOutcome t a) =
      [0, BitVec.ofNat 8 (wireOutcome t a).code, 0, 0, 0, 0]) ∧
    ∀ d, t.kind = .read → EndsOk t a d →
      rawReply { t with progress := wireProgress t a } .ok =
        [0, 0, 3, BitVec.ofNat 8 d.length, crc8 (sentBytes t ++ BitVec.ofNat 8 d.length :: d),
          crc8 (sentBytes t ++ BitVec.ofNat 8 d.length :: d)] ++ d) ∧
  (∀ (t : Txn) (a : UnitAnswer) (raw : List Byte), t.kind = .read →
    raw = rawReply { t with progress := wireProgress t a } (wireOutcome t a) →
    (a.nackAt = some 0 ∨ a.nackAt = some 1 ∨ a.nackAt = some 2 →
      raw = [0, BitVec.ofNat 8 (wireOutcome t a).code, 0, 0, 0, 0]) ∧
    (a.nackAt = none → ∀ count rest, a.received = count :: rest →
      (48 < count.toNat ∨ count.toNat < t.minCount →
        raw = [0, BitVec.ofNat 8 (wireOutcome t a).code, 1, count, 0, 0]) ∧
      ∀ d check, count.toNat ≤ 48 → t.minCount ≤ count.toNat → rest = d ++ [check] → d.length = count.toNat →
        raw = [0, BitVec.ofNat 8 (wireOutcome t a).code, 3, count, check, crc8 (sentBytes t ++ count :: d)] ++ d)) ∧
  (∀ (t : Txn) (o : BusOutcome) (sent : Nat) (received raw : List Byte),
    raw = rawReply { t with progress := cutProgress t sent received } o →
    (t.kind ≠ .read ∨ sent < 3 ∨ received = [] → raw = [0, BitVec.ofNat 8 o.code, 0, 0, 0, 0]) ∧
    (t.kind = .read → 3 ≤ sent → ∀ count rest, received = count :: rest →
      (48 < count.toNat ∨ count.toNat < t.minCount → raw = [0, BitVec.ofNat 8 o.code, 1, count, 0, 0]) ∧
      (count.toNat ≤ 48 → t.minCount ≤ count.toNat →
        (rest.length ≤ count.toNat → raw = [0, BitVec.ofNat 8 o.code, 1, count, 0, 0] ++ rest) ∧
        ∀ d check more, rest = d ++ check :: more → d.length = count.toNat →
          raw = [0, BitVec.ofNat 8 o.code, 3, count, check, crc8 (sentBytes t ++ count :: d)] ++ d))) ∧
  (∀ (s : State) (t : Txn) (o : BusOutcome) (r : ReqSlot), t.owner = .service → t.orphaned = false → s.busRaw = some r →
    handOn t o s = queueReply serviceLink r (rawReply t o) { s with busRaw := none }) ∧
  [BusOutcome.ok, .noAnswer, .refused, .checkFail, .overlong, .short, .stalled, .aborted].map BusOutcome.code =
    [0, 1, 2, 3, 4, 5, 6, 7]

/-- R168, R160, R161, R162, R142: BUS ABORT, the stall timer and the release sequence; and the end of an orphaned
transaction, by itself, by a stall or by an abort, whose outcome goes to no block and is not counted, whether or not its slot
has been defined again. How far an aborted transaction had got
is a free value (log entry 6). When the stall timer is reached (log entry 5), the order of the two replies when a BUS ABORT
ends a BUS RAW (log entry 29), and that a STALL_TIMER_EXPIRY with no transaction, a RELEASE_WAIT_TIMEOUT before its time and
either release event outside RECOVERING have no effect (log entry 4) are the model's choices. -/
def Obligations.AbortStallRelease : Prop :=
  (∀ (s : State) (r : ReqSlot) (tag : Byte), Takes s serviceLink r →
    (∀ t, s.bus = .running t →
      exec (.busAbort serviceLink tag) s =
        .next (answered serviceLink r (reply .ok (u8 t.owner.code ++ orNone t.slot))
          (handOn { t with progress := cutProgress t (Config.abortSent s.freeDrawn) (Config.abortReceived s.freeDrawn) }
            .aborted { taken serviceLink r .busAbort tag s with
              bus := .recovering (s.hubTime + 30), freeDrawn := s.freeDrawn + 1 }))) ∧
    ((∀ t, s.bus ≠ .running t) →
      exec (.busAbort serviceLink tag) s =
        .next (answered serviceLink r (reply .ok [0, 0xFF]) (taken serviceLink r .busAbort tag s)))) ∧
  (∀ (s : State) (t : Txn) (sent : Nat) (received : List Byte), s.bus = .running t →
    (reached s.hubTime t.stallAt = true →
      exec (.stallTimerExpiry sent received) s =
        .next (settle (handOn { t with progress := cutProgress t sent received } .stalled
          { s with bus := .recovering (s.hubTime + 30) }))) ∧
    (reached s.hubTime t.stallAt = false → exec (.stallTimerExpiry sent received) s = .next (settle s))) ∧
  (∀ (s : State) (sent : Nat) (received : List Byte), (∀ t, s.bus ≠ .running t) →
    exec (.stallTimerExpiry sent received) s = .next (settle s)) ∧
  (∀ (s : State) (x : Time) (p : ResetPhase), s.bus = .recovering x →
    (∀ r b, s.phase = .soft r b → p = .soft r true) → ((∀ r b, s.phase ≠ .soft r b) → p = s.phase) →
    exec .releaseSequenceEnd s = .next (settle { s with bus := .idle, phase := p }) ∧
    (reached s.hubTime x = true → exec .releaseWaitTimeout s = .next (settle { s with bus := .idle, phase := p })) ∧
    (reached s.hubTime x = false → exec .releaseWaitTimeout s = .next (settle s))) ∧
  (∀ s : State, (∀ x, s.bus ≠ .recovering x) →
    exec .releaseSequenceEnd s = .next (settle s) ∧ exec .releaseWaitTimeout s = .next (settle s)) ∧
  (∀ (s : State) (t : Txn) (o : BusOutcome), t.orphaned = true → handOn t o s = s) ∧
  ∀ (s : State) (t : Txn) (a : UnitAnswer), s.bus = .running t → t.orphaned = true →
    exec (completionOf t.name a) s = .next (settle (busFreed s))

/-! ### Chapter 9: notices -/

/-- R176 to R180, R200: the requests of the Notice Controller. The byte that reports H is the model's choice (log entry 32). -/
def Obligations.NoticeRequests : Prop :=
  (∀ (s : State) (l : Link) (r : ReqSlot) (k : Kiosk) (tag : Byte) (classes : Half), Takes s l r → OnKiosk l k →
    (4095 < classes.toNat →
      exec (.noticeArm l tag classes) s = .next (answered l r (reply .badArg []) (taken l r .noticeArm tag s)) ∧
      exec (.noticeDisarm l tag classes) s = .next (answered l r (reply .badArg []) (taken l r .noticeDisarm tag s))) ∧
    (∀ c : ClassSet, classes.toNat = c.toNat →
      exec (.noticeArm l tag classes) s =
        .next (answered l r
          (reply .ok (classBytes ((s.notices[k]).enabled ||| c) ++ classBytes (s.notices[k]).pending))
          { taken l r .noticeArm tag s with
            notices := upd s.notices k fun n => { n with enabled := n.enabled ||| c } }) ∧
      exec (.noticeDisarm l tag classes) s =
        .next (answered l r
          (reply .ok (classBytes ((s.notices[k]).enabled &&& ~~~c) ++ classBytes (s.notices[k]).pending))
          { taken l r .noticeDisarm tag s with
            notices := upd s.notices k fun n => { n with enabled := n.enabled &&& ~~~c } })) ∧
    exec (.noticeHold l tag) s =
      .next (answered l r (reply .ok [1])
        { taken l r .noticeHold tag s with notices := upd s.notices k fun n => { n with hold := true } }) ∧
    exec (.noticeRelease l tag) s =
      .next (answered l r (reply .ok [0])
        { taken l r .noticeRelease tag s with notices := upd s.notices k fun n => { n with hold := false } }) ∧
    exec (.noticeTake l tag) s =
      .next (answered l r (reply .ok (classBytes (s.notices[k]).pending))
        { taken l r .noticeTake tag s with notices := upd s.notices k fun n => { n with pending := 0 } })) ∧
  ∀ (s : State) (r : ReqSlot) (tag b : Byte) (classes word : Half), Takes s serviceLink r →
    (7 < b.toNat ∨ 4095 < classes.toNat →
      exec (.noticeMaintainMask serviceLink tag b classes) s =
        .next (answered serviceLink r (reply .badArg []) (taken serviceLink r .noticeMaintainMask tag s)) ∧
      exec (.forceNotice serviceLink tag b classes word) s =
        .next (answered serviceLink r (reply .badArg []) (taken serviceLink r .forceNotice tag s))) ∧
    ∀ (k : Kiosk) (c : ClassSet), b.toNat = k.val → classes.toNat = c.toNat →
      exec (.noticeMaintainMask serviceLink tag b classes) s =
        .next (answered serviceLink r (reply .ok (classBytes c))
          { taken serviceLink r .noticeMaintainMask tag s with
            notices := upd s.notices k fun n => { n with mask := c } }) ∧
      ((s.notices[k]).forced = none →
        exec (.forceNotice serviceLink tag b classes word) s =
          .next (answered serviceLink r (reply .ok [])
            { taken serviceLink r .forceNotice tag s with
              notices := upd s.notices k fun n => { n with forced := some (c, word) } })) ∧
      ((s.notices[k]).forced ≠ none →
        exec (.forceNotice serviceLink tag b classes word) s =
          .next (answered serviceLink r (reply .busy [0]) (taken serviceLink r .forceNotice tag s)))

/-! ### Chapter 10: the bytes of the links -/

/-- R183 to R187, R189, R198, R200: a byte, a character error and the end of a frame on a link. The last byte of a frame with
a good check runs the request its KIND and payload spell, byte for byte as 11.4 lays it out; a KIND that is no request kind, a
wrong length and an unknown code are refused. A character error during a reset is discarded (R198). That TRANSMIT_END on a
free transmitter has no effect is the model's choice (log entry 4). -/
def Obligations.LinkEvents : Prop :=
  (∀ (s : State) (l : Link) (b : Byte), s.phase = .running →
    ((s.links[l]).receiver = .hunt →
      (b ≠ 0x5A → exec (.linkByteReceived l b) s = .next (settle s)) ∧
      (b = 0x5A → exec (.linkByteReceived l b) s = .next (settle { s with
        links := upd s.links l fun q => { q with receiver := .length } }))) ∧
    ((s.links[l]).receiver = .length →
      (b.toNat ≤ 200 → exec (.linkByteReceived l b) s = .next (settle { s with
        links := upd s.links l fun q => { q with receiver := .body b [] } })) ∧
      (200 < b.toNat → exec (.linkByteReceived l b) s = .next (settle { s with
        links := upd s.links l fun q => { q with receiver := .hunt, lenOverlong := true } }))) ∧
    ∀ len got, (s.links[l]).receiver = .body len got →
      (got.length + 1 < len.toNat + 4 → exec (.linkByteReceived l b) s = .next (settle { s with
        links := upd s.links l fun q => { q with receiver := .body len (got ++ [b]) } })) ∧
      ∀ (kind tag c : Byte) (p : List Byte), got ++ [b] = kind :: tag :: p ++ [c, b] → p.length = len.toNat →
        (crc16 (len :: kind :: tag :: p) = c ++ b →
          exec (.linkByteReceived l b) s = .next (settle (frameArrived l kind tag p { s with
            links := upd s.links l fun q => { q with receiver := .hunt } })) ∧
          (kind = 0x01 → exec (.linkByteReceived l b) s = exec (.echo l tag p) { s with
            links := upd s.links l fun q => { q with receiver := .hunt } })) ∧
        (crc16 (len :: kind :: tag :: p) ≠ c ++ b →
          exec (.linkByteReceived l b) s = .next (settle { s with
            links := upd s.links l fun q => { q with receiver := .hunt, check := true } }))) ∧
  (∀ (s : State) (i : Instr) (l : Link) (tag b : Byte) (k : ReqKind), s.phase = .running → i.wellFormed = true →
    requestOf i = some (l, tag, k) → LastByte s l k.code tag (payloadOf i) b →
    exec (.linkByteReceived l b) s = exec i (hunting l s)) ∧
  (∀ (s : State) (l : Link) (r : ReqSlot) (kind tag b : Byte) (p : List Byte), Takes s l r → LastByte s l kind tag p b →
    p.length ≤ 200 →
    ((∀ k : ReqKind, k.code ≠ kind) →
      exec (.linkByteReceived l b) s =
        .next (answered l r (reply .malformed [1]) { hunting l s with
          links := upd (hunting l s).links l fun q => { q with
            requests := upd q.requests r fun _ => some { kind := kind, tag := tag, ready := false } } })) ∧
    ∀ k : ReqKind, k.code = kind → ∀ refused : Status → List Byte → Prop,
      (refused = fun st rest =>
        exec (.linkByteReceived l b) s = .next (answered l r (reply st rest) (taken l r k tag (hunting l s)))) →
      (deniedOn l k = true → refused .denied [2]) ∧
      (deniedOn l k = false → lengthAgrees k (decide (l = serviceLink)) p.length (byteAt p 0) = false →
        refused .malformed [3]) ∧
      (deniedOn l k = false →
        (∀ x y : Byte, k = .maintain → p = [x, y] → y ≠ 0 → y ≠ 1 → refused .badArg []) ∧
        (∀ x : Byte, k = .reset → p = [x] → x ≠ 1 → x ≠ 2 → refused .badArg []) ∧
        (∀ x y : Byte, ∀ z : List Byte, k = .claimStatus → p = [x, y] ++ z →
          z.length = (if l = serviceLink then 1 else 0) → x ≠ 1 → x ≠ 2 → refused .badArg []) ∧
        ∀ x y z : Byte, k = .busRaw → p = [x, y, z] → x ≠ 1 → x ≠ 2 → x ≠ 3 →
          (s.busRaw = none → refused .badArg []) ∧ (s.busRaw ≠ none → refused .busy [0]))) ∧
  (∀ (i : Instr) (l : Link) (tag : Byte) (k : ReqKind), i.wellFormed = true → requestOf i = some (l, tag, k) →
    lengthAgrees k (decide (l = serviceLink)) (payloadOf i).length (byteAt (payloadOf i) 0) = lengthRight i) ∧
  (∀ (s : State) (l : Link),
    (s.phase ≠ .running ∨ (s.links[l]).receiver = .hunt → exec (.characterError l) s = .next (settle s)) ∧
    (s.phase = .running → (s.links[l]).receiver ≠ .hunt →
      exec (.characterError l) s = .next (settle { s with
        links := upd s.links l fun q => { q with receiver := .hunt, check := true } }))) ∧
  ∀ (s : State) (l : Link),
    ((s.links[l]).sending = none → exec (.transmitEnd l) s = .next (settle s)) ∧
    (∀ f, (s.links[l]).sending = some f → f.slot = none →
      exec (.transmitEnd l) s = .next (settle { s with links := upd s.links l fun q => { q with sending := none } })) ∧
    ∀ f r, (s.links[l]).sending = some f → f.slot = some r →
      exec (.transmitEnd l) s = .next (settle { s with
        links := upd s.links l fun q => { q with sending := none, requests := upd q.requests r fun _ => none } })

end
end

