-- ==== Sys2Proof/Laws/State.lean ====
section
/-!
SUPPORT. One lemma per field per update of the state, each true by `rfl`, and the lemmas of a place of a table.
-/

namespace Sys2Proof.Machine

/-! ### Tables -/

theorem upd_get {α : Type} {n : Nat} (v : Vector α n) (i j : Fin n) (f : α → α) :
    (upd v i f)[j] = if i = j then f v[j] else v[j] := by
  simp only [upd, Fin.getElem_fin, Vector.getElem_set, Fin.val_inj]
  split
  · next e => rw [e]
  · rfl

/-- The same with the place as a number, the form simp brings places to. -/
@[simp] theorem upd_get_val {α : Type} {n : Nat} (v : Vector α n) (i j : Fin n) (f : α → α) :
    (upd v i f)[j.val] = if i = j then f v[j.val] else v[j.val] := upd_get v i j f

theorem upd_get_self {α : Type} {n : Nat} (v : Vector α n) (i : Fin n) (f : α → α) : (upd v i f)[i] = f v[i] := by
  rw [upd_get, if_pos rfl]

theorem upd_get_ne {α : Type} {n : Nat} (v : Vector α n) (i j : Fin n) (f : α → α) (h : i ≠ j) :
    (upd v i f)[j] = v[j] := by
  rw [upd_get, if_neg h]

@[simp] theorem upd_upd {α : Type} {n : Nat} (v : Vector α n) (i : Fin n) (f g : α → α) :
    upd (upd v i f) i g = upd v i (fun x => g (f x)) := by
  simp [upd]

@[simp] theorem mapAll_get_val {α β : Type} {n : Nat} (v : Vector α n) (f : α → β) (i : Fin n) :
    (mapAll v f)[i.val] = f v[i.val] := by
  simp [mapAll]

theorem mapAll_get {α β : Type} {n : Nat} (v : Vector α n) (f : α → β) (i : Fin n) : (mapAll v f)[i] = f v[i] :=
  mapAll_get_val v f i

/-- Changing nothing leaves a table as it was. -/
theorem upd_same {α : Type} {n : Nat} (v : Vector α n) (i : Fin n) (f : α → α) (h : f v[i] = v[i]) : upd v i f = v := by
  apply Vector.ext
  intro j hj
  have e := upd_get v i ⟨j, hj⟩ f
  by_cases hij : i = ⟨j, hj⟩
  · subst hij
    exact e.trans ((if_pos rfl).trans h)
  · exact e.trans (if_neg hij)

/-! ### Fields after an update -/

@[simp] theorem modNotice_pending (k : Kiosk) (f : NoticeState → NoticeState) (s : State) :
    (modNotice k f s).pending = s.pending := rfl
@[simp] theorem modNotice_hubTime (k : Kiosk) (f : NoticeState → NoticeState) (s : State) :
    (modNotice k f s).hubTime = s.hubTime := rfl
@[simp] theorem modNotice_phase (k : Kiosk) (f : NoticeState → NoticeState) (s : State) :
    (modNotice k f s).phase = s.phase := rfl
@[simp] theorem modNotice_resetLow (k : Kiosk) (f : NoticeState → NoticeState) (s : State) :
    (modNotice k f s).resetLow = s.resetLow := rfl
@[simp] theorem modNotice_powerOnHold (k : Kiosk) (f : NoticeState → NoticeState) (s : State) :
    (modNotice k f s).powerOnHold = s.powerOnHold := rfl
@[simp] theorem modNotice_attnLine (k : Kiosk) (f : NoticeState → NoticeState) (s : State) :
    (modNotice k f s).attnLine = s.attnLine := rfl
@[simp] theorem modNotice_zones (k : Kiosk) (f : NoticeState → NoticeState) (s : State) :
    (modNotice k f s).zones = s.zones := rfl
@[simp] theorem modNotice_contacts (k : Kiosk) (f : NoticeState → NoticeState) (s : State) :
    (modNotice k f s).contacts = s.contacts := rfl
@[simp] theorem modNotice_ignored (k : Kiosk) (f : NoticeState → NoticeState) (s : State) :
    (modNotice k f s).ignored = s.ignored := rfl
@[simp] theorem modNotice_panels (k : Kiosk) (f : NoticeState → NoticeState) (s : State) :
    (modNotice k f s).panels = s.panels := rfl
@[simp] theorem modNotice_claims (k : Kiosk) (f : NoticeState → NoticeState) (s : State) :
    (modNotice k f s).claims = s.claims := rfl
@[simp] theorem modNotice_waits (k : Kiosk) (f : NoticeState → NoticeState) (s : State) :
    (modNotice k f s).waits = s.waits := rfl
@[simp] theorem modNotice_nextClaim (k : Kiosk) (f : NoticeState → NoticeState) (s : State) :
    (modNotice k f s).nextClaim = s.nextClaim := rfl
@[simp] theorem modNotice_spool (k : Kiosk) (f : NoticeState → NoticeState) (s : State) :
    (modNotice k f s).spool = s.spool := rfl
@[simp] theorem modNotice_free (k : Kiosk) (f : NoticeState → NoticeState) (s : State) :
    (modNotice k f s).free = s.free := rfl
@[simp] theorem modNotice_jobs (k : Kiosk) (f : NoticeState → NoticeState) (s : State) :
    (modNotice k f s).jobs = s.jobs := rfl
@[simp] theorem modNotice_terminal (k : Kiosk) (f : NoticeState → NoticeState) (s : State) :
    (modNotice k f s).terminal = s.terminal := rfl
@[simp] theorem modNotice_printQueue (k : Kiosk) (f : NoticeState → NoticeState) (s : State) :
    (modNotice k f s).printQueue = s.printQueue := rfl
@[simp] theorem modNotice_nextJob (k : Kiosk) (f : NoticeState → NoticeState) (s : State) :
    (modNotice k f s).nextJob = s.nextJob := rfl
@[simp] theorem modNotice_kioskSpool (k : Kiosk) (f : NoticeState → NoticeState) (s : State) :
    (modNotice k f s).kioskSpool = s.kioskSpool := rfl
@[simp] theorem modNotice_fillLimit (k : Kiosk) (f : NoticeState → NoticeState) (s : State) :
    (modNotice k f s).fillLimit = s.fillLimit := rfl
@[simp] theorem modNotice_feeds (k : Kiosk) (f : NoticeState → NoticeState) (s : State) :
    (modNotice k f s).feeds = s.feeds := rfl
@[simp] theorem modNotice_scans (k : Kiosk) (f : NoticeState → NoticeState) (s : State) :
    (modNotice k f s).scans = s.scans := rfl
@[simp] theorem modNotice_units (k : Kiosk) (f : NoticeState → NoticeState) (s : State) :
    (modNotice k f s).units = s.units := rfl
@[simp] theorem modNotice_attn (k : Kiosk) (f : NoticeState → NoticeState) (s : State) :
    (modNotice k f s).attn = s.attn := rfl
@[simp] theorem modNotice_bus (k : Kiosk) (f : NoticeState → NoticeState) (s : State) :
    (modNotice k f s).bus = s.bus := rfl
@[simp] theorem modNotice_board (k : Kiosk) (f : NoticeState → NoticeState) (s : State) :
    (modNotice k f s).board = s.board := rfl
@[simp] theorem modNotice_servicePlace (k : Kiosk) (f : NoticeState → NoticeState) (s : State) :
    (modNotice k f s).servicePlace = s.servicePlace := rfl
@[simp] theorem modNotice_pointers (k : Kiosk) (f : NoticeState → NoticeState) (s : State) :
    (modNotice k f s).pointers = s.pointers := rfl
@[simp] theorem modNotice_busRaw (k : Kiosk) (f : NoticeState → NoticeState) (s : State) :
    (modNotice k f s).busRaw = s.busRaw := rfl
@[simp] theorem modNotice_notices (k : Kiosk) (f : NoticeState → NoticeState) (s : State) :
    (modNotice k f s).notices = upd s.notices k f := rfl
@[simp] theorem modNotice_links (k : Kiosk) (f : NoticeState → NoticeState) (s : State) :
    (modNotice k f s).links = s.links := rfl
@[simp] theorem modNotice_kiosks (k : Kiosk) (f : NoticeState → NoticeState) (s : State) :
    (modNotice k f s).kiosks = s.kiosks := rfl
@[simp] theorem modNotice_freeDrawn (k : Kiosk) (f : NoticeState → NoticeState) (s : State) :
    (modNotice k f s).freeDrawn = s.freeDrawn := rfl

@[simp] theorem modKiosk_pending (k : Kiosk) (f : KioskLink → KioskLink) (s : State) :
    (modKiosk k f s).pending = s.pending := rfl
@[simp] theorem modKiosk_hubTime (k : Kiosk) (f : KioskLink → KioskLink) (s : State) :
    (modKiosk k f s).hubTime = s.hubTime := rfl
@[simp] theorem modKiosk_phase (k : Kiosk) (f : KioskLink → KioskLink) (s : State) :
    (modKiosk k f s).phase = s.phase := rfl
@[simp] theorem modKiosk_resetLow (k : Kiosk) (f : KioskLink → KioskLink) (s : State) :
    (modKiosk k f s).resetLow = s.resetLow := rfl
@[simp] theorem modKiosk_powerOnHold (k : Kiosk) (f : KioskLink → KioskLink) (s : State) :
    (modKiosk k f s).powerOnHold = s.powerOnHold := rfl
@[simp] theorem modKiosk_attnLine (k : Kiosk) (f : KioskLink → KioskLink) (s : State) :
    (modKiosk k f s).attnLine = s.attnLine := rfl
@[simp] theorem modKiosk_zones (k : Kiosk) (f : KioskLink → KioskLink) (s : State) :
    (modKiosk k f s).zones = s.zones := rfl
@[simp] theorem modKiosk_contacts (k : Kiosk) (f : KioskLink → KioskLink) (s : State) :
    (modKiosk k f s).contacts = s.contacts := rfl
@[simp] theorem modKiosk_ignored (k : Kiosk) (f : KioskLink → KioskLink) (s : State) :
    (modKiosk k f s).ignored = s.ignored := rfl
@[simp] theorem modKiosk_panels (k : Kiosk) (f : KioskLink → KioskLink) (s : State) :
    (modKiosk k f s).panels = s.panels := rfl
@[simp] theorem modKiosk_claims (k : Kiosk) (f : KioskLink → KioskLink) (s : State) :
    (modKiosk k f s).claims = s.claims := rfl
@[simp] theorem modKiosk_waits (k : Kiosk) (f : KioskLink → KioskLink) (s : State) :
    (modKiosk k f s).waits = s.waits := rfl
@[simp] theorem modKiosk_nextClaim (k : Kiosk) (f : KioskLink → KioskLink) (s : State) :
    (modKiosk k f s).nextClaim = s.nextClaim := rfl
@[simp] theorem modKiosk_spool (k : Kiosk) (f : KioskLink → KioskLink) (s : State) :
    (modKiosk k f s).spool = s.spool := rfl
@[simp] theorem modKiosk_free (k : Kiosk) (f : KioskLink → KioskLink) (s : State) :
    (modKiosk k f s).free = s.free := rfl
@[simp] theorem modKiosk_jobs (k : Kiosk) (f : KioskLink → KioskLink) (s : State) :
    (modKiosk k f s).jobs = s.jobs := rfl
@[simp] theorem modKiosk_terminal (k : Kiosk) (f : KioskLink → KioskLink) (s : State) :
    (modKiosk k f s).terminal = s.terminal := rfl
@[simp] theorem modKiosk_printQueue (k : Kiosk) (f : KioskLink → KioskLink) (s : State) :
    (modKiosk k f s).printQueue = s.printQueue := rfl
@[simp] theorem modKiosk_nextJob (k : Kiosk) (f : KioskLink → KioskLink) (s : State) :
    (modKiosk k f s).nextJob = s.nextJob := rfl
@[simp] theorem modKiosk_kioskSpool (k : Kiosk) (f : KioskLink → KioskLink) (s : State) :
    (modKiosk k f s).kioskSpool = s.kioskSpool := rfl
@[simp] theorem modKiosk_fillLimit (k : Kiosk) (f : KioskLink → KioskLink) (s : State) :
    (modKiosk k f s).fillLimit = s.fillLimit := rfl
@[simp] theorem modKiosk_feeds (k : Kiosk) (f : KioskLink → KioskLink) (s : State) :
    (modKiosk k f s).feeds = s.feeds := rfl
@[simp] theorem modKiosk_scans (k : Kiosk) (f : KioskLink → KioskLink) (s : State) :
    (modKiosk k f s).scans = s.scans := rfl
@[simp] theorem modKiosk_units (k : Kiosk) (f : KioskLink → KioskLink) (s : State) :
    (modKiosk k f s).units = s.units := rfl
@[simp] theorem modKiosk_attn (k : Kiosk) (f : KioskLink → KioskLink) (s : State) :
    (modKiosk k f s).attn = s.attn := rfl
@[simp] theorem modKiosk_bus (k : Kiosk) (f : KioskLink → KioskLink) (s : State) : (modKiosk k f s).bus = s.bus := rfl
@[simp] theorem modKiosk_board (k : Kiosk) (f : KioskLink → KioskLink) (s : State) :
    (modKiosk k f s).board = s.board := rfl
@[simp] theorem modKiosk_servicePlace (k : Kiosk) (f : KioskLink → KioskLink) (s : State) :
    (modKiosk k f s).servicePlace = s.servicePlace := rfl
@[simp] theorem modKiosk_pointers (k : Kiosk) (f : KioskLink → KioskLink) (s : State) :
    (modKiosk k f s).pointers = s.pointers := rfl
@[simp] theorem modKiosk_busRaw (k : Kiosk) (f : KioskLink → KioskLink) (s : State) :
    (modKiosk k f s).busRaw = s.busRaw := rfl
@[simp] theorem modKiosk_notices (k : Kiosk) (f : KioskLink → KioskLink) (s : State) :
    (modKiosk k f s).notices = s.notices := rfl
@[simp] theorem modKiosk_links (k : Kiosk) (f : KioskLink → KioskLink) (s : State) :
    (modKiosk k f s).links = s.links := rfl
@[simp] theorem modKiosk_kiosks (k : Kiosk) (f : KioskLink → KioskLink) (s : State) :
    (modKiosk k f s).kiosks = upd s.kiosks k f := rfl
@[simp] theorem modKiosk_freeDrawn (k : Kiosk) (f : KioskLink → KioskLink) (s : State) :
    (modKiosk k f s).freeDrawn = s.freeDrawn := rfl

@[simp] theorem modLink_pending (l : Link) (f : LinkState → LinkState) (s : State) :
    (modLink l f s).pending = s.pending := rfl
@[simp] theorem modLink_hubTime (l : Link) (f : LinkState → LinkState) (s : State) :
    (modLink l f s).hubTime = s.hubTime := rfl
@[simp] theorem modLink_phase (l : Link) (f : LinkState → LinkState) (s : State) :
    (modLink l f s).phase = s.phase := rfl
@[simp] theorem modLink_resetLow (l : Link) (f : LinkState → LinkState) (s : State) :
    (modLink l f s).resetLow = s.resetLow := rfl
@[simp] theorem modLink_powerOnHold (l : Link) (f : LinkState → LinkState) (s : State) :
    (modLink l f s).powerOnHold = s.powerOnHold := rfl
@[simp] theorem modLink_attnLine (l : Link) (f : LinkState → LinkState) (s : State) :
    (modLink l f s).attnLine = s.attnLine := rfl
@[simp] theorem modLink_zones (l : Link) (f : LinkState → LinkState) (s : State) :
    (modLink l f s).zones = s.zones := rfl
@[simp] theorem modLink_contacts (l : Link) (f : LinkState → LinkState) (s : State) :
    (modLink l f s).contacts = s.contacts := rfl
@[simp] theorem modLink_ignored (l : Link) (f : LinkState → LinkState) (s : State) :
    (modLink l f s).ignored = s.ignored := rfl
@[simp] theorem modLink_panels (l : Link) (f : LinkState → LinkState) (s : State) :
    (modLink l f s).panels = s.panels := rfl
@[simp] theorem modLink_claims (l : Link) (f : LinkState → LinkState) (s : State) :
    (modLink l f s).claims = s.claims := rfl
@[simp] theorem modLink_waits (l : Link) (f : LinkState → LinkState) (s : State) :
    (modLink l f s).waits = s.waits := rfl
@[simp] theorem modLink_nextClaim (l : Link) (f : LinkState → LinkState) (s : State) :
    (modLink l f s).nextClaim = s.nextClaim := rfl
@[simp] theorem modLink_spool (l : Link) (f : LinkState → LinkState) (s : State) :
    (modLink l f s).spool = s.spool := rfl
@[simp] theorem modLink_free (l : Link) (f : LinkState → LinkState) (s : State) : (modLink l f s).free = s.free := rfl
@[simp] theorem modLink_jobs (l : Link) (f : LinkState → LinkState) (s : State) : (modLink l f s).jobs = s.jobs := rfl
@[simp] theorem modLink_terminal (l : Link) (f : LinkState → LinkState) (s : State) :
    (modLink l f s).terminal = s.terminal := rfl
@[simp] theorem modLink_printQueue (l : Link) (f : LinkState → LinkState) (s : State) :
    (modLink l f s).printQueue = s.printQueue := rfl
@[simp] theorem modLink_nextJob (l : Link) (f : LinkState → LinkState) (s : State) :
    (modLink l f s).nextJob = s.nextJob := rfl
@[simp] theorem modLink_kioskSpool (l : Link) (f : LinkState → LinkState) (s : State) :
    (modLink l f s).kioskSpool = s.kioskSpool := rfl
@[simp] theorem modLink_fillLimit (l : Link) (f : LinkState → LinkState) (s : State) :
    (modLink l f s).fillLimit = s.fillLimit := rfl
@[simp] theorem modLink_feeds (l : Link) (f : LinkState → LinkState) (s : State) :
    (modLink l f s).feeds = s.feeds := rfl
@[simp] theorem modLink_scans (l : Link) (f : LinkState → LinkState) (s : State) :
    (modLink l f s).scans = s.scans := rfl
@[simp] theorem modLink_units (l : Link) (f : LinkState → LinkState) (s : State) :
    (modLink l f s).units = s.units := rfl
@[simp] theorem modLink_attn (l : Link) (f : LinkState → LinkState) (s : State) : (modLink l f s).attn = s.attn := rfl
@[simp] theorem modLink_bus (l : Link) (f : LinkState → LinkState) (s : State) : (modLink l f s).bus = s.bus := rfl
@[simp] theorem modLink_board (l : Link) (f : LinkState → LinkState) (s : State) :
    (modLink l f s).board = s.board := rfl
@[simp] theorem modLink_servicePlace (l : Link) (f : LinkState → LinkState) (s : State) :
    (modLink l f s).servicePlace = s.servicePlace := rfl
@[simp] theorem modLink_pointers (l : Link) (f : LinkState → LinkState) (s : State) :
    (modLink l f s).pointers = s.pointers := rfl
@[simp] theorem modLink_busRaw (l : Link) (f : LinkState → LinkState) (s : State) :
    (modLink l f s).busRaw = s.busRaw := rfl
@[simp] theorem modLink_notices (l : Link) (f : LinkState → LinkState) (s : State) :
    (modLink l f s).notices = s.notices := rfl
@[simp] theorem modLink_links (l : Link) (f : LinkState → LinkState) (s : State) :
    (modLink l f s).links = upd s.links l f := rfl
@[simp] theorem modLink_kiosks (l : Link) (f : LinkState → LinkState) (s : State) :
    (modLink l f s).kiosks = s.kiosks := rfl
@[simp] theorem modLink_freeDrawn (l : Link) (f : LinkState → LinkState) (s : State) :
    (modLink l f s).freeDrawn = s.freeDrawn := rfl

@[simp] theorem modFeed_pending (i : Slot) (f : FeedEngine → FeedEngine) (s : State) :
    (modFeed i f s).pending = s.pending := rfl
@[simp] theorem modFeed_hubTime (i : Slot) (f : FeedEngine → FeedEngine) (s : State) :
    (modFeed i f s).hubTime = s.hubTime := rfl
@[simp] theorem modFeed_phase (i : Slot) (f : FeedEngine → FeedEngine) (s : State) :
    (modFeed i f s).phase = s.phase := rfl
@[simp] theorem modFeed_resetLow (i : Slot) (f : FeedEngine → FeedEngine) (s : State) :
    (modFeed i f s).resetLow = s.resetLow := rfl
@[simp] theorem modFeed_powerOnHold (i : Slot) (f : FeedEngine → FeedEngine) (s : State) :
    (modFeed i f s).powerOnHold = s.powerOnHold := rfl
@[simp] theorem modFeed_attnLine (i : Slot) (f : FeedEngine → FeedEngine) (s : State) :
    (modFeed i f s).attnLine = s.attnLine := rfl
@[simp] theorem modFeed_zones (i : Slot) (f : FeedEngine → FeedEngine) (s : State) :
    (modFeed i f s).zones = s.zones := rfl
@[simp] theorem modFeed_contacts (i : Slot) (f : FeedEngine → FeedEngine) (s : State) :
    (modFeed i f s).contacts = s.contacts := rfl
@[simp] theorem modFeed_ignored (i : Slot) (f : FeedEngine → FeedEngine) (s : State) :
    (modFeed i f s).ignored = s.ignored := rfl
@[simp] theorem modFeed_panels (i : Slot) (f : FeedEngine → FeedEngine) (s : State) :
    (modFeed i f s).panels = s.panels := rfl
@[simp] theorem modFeed_claims (i : Slot) (f : FeedEngine → FeedEngine) (s : State) :
    (modFeed i f s).claims = s.claims := rfl
@[simp] theorem modFeed_waits (i : Slot) (f : FeedEngine → FeedEngine) (s : State) :
    (modFeed i f s).waits = s.waits := rfl
@[simp] theorem modFeed_nextClaim (i : Slot) (f : FeedEngine → FeedEngine) (s : State) :
    (modFeed i f s).nextClaim = s.nextClaim := rfl
@[simp] theorem modFeed_spool (i : Slot) (f : FeedEngine → FeedEngine) (s : State) :
    (modFeed i f s).spool = s.spool := rfl
@[simp] theorem modFeed_free (i : Slot) (f : FeedEngine → FeedEngine) (s : State) : (modFeed i f s).free = s.free := rfl
@[simp] theorem modFeed_jobs (i : Slot) (f : FeedEngine → FeedEngine) (s : State) : (modFeed i f s).jobs = s.jobs := rfl
@[simp] theorem modFeed_terminal (i : Slot) (f : FeedEngine → FeedEngine) (s : State) :
    (modFeed i f s).terminal = s.terminal := rfl
@[simp] theorem modFeed_printQueue (i : Slot) (f : FeedEngine → FeedEngine) (s : State) :
    (modFeed i f s).printQueue = s.printQueue := rfl
@[simp] theorem modFeed_nextJob (i : Slot) (f : FeedEngine → FeedEngine) (s : State) :
    (modFeed i f s).nextJob = s.nextJob := rfl
@[simp] theorem modFeed_kioskSpool (i : Slot) (f : FeedEngine → FeedEngine) (s : State) :
    (modFeed i f s).kioskSpool = s.kioskSpool := rfl
@[simp] theorem modFeed_fillLimit (i : Slot) (f : FeedEngine → FeedEngine) (s : State) :
    (modFeed i f s).fillLimit = s.fillLimit := rfl
@[simp] theorem modFeed_feeds (i : Slot) (f : FeedEngine → FeedEngine) (s : State) :
    (modFeed i f s).feeds = upd s.feeds i f := rfl
@[simp] theorem modFeed_scans (i : Slot) (f : FeedEngine → FeedEngine) (s : State) :
    (modFeed i f s).scans = s.scans := rfl
@[simp] theorem modFeed_units (i : Slot) (f : FeedEngine → FeedEngine) (s : State) :
    (modFeed i f s).units = s.units := rfl
@[simp] theorem modFeed_attn (i : Slot) (f : FeedEngine → FeedEngine) (s : State) : (modFeed i f s).attn = s.attn := rfl
@[simp] theorem modFeed_bus (i : Slot) (f : FeedEngine → FeedEngine) (s : State) : (modFeed i f s).bus = s.bus := rfl
@[simp] theorem modFeed_board (i : Slot) (f : FeedEngine → FeedEngine) (s : State) :
    (modFeed i f s).board = s.board := rfl
@[simp] theorem modFeed_servicePlace (i : Slot) (f : FeedEngine → FeedEngine) (s : State) :
    (modFeed i f s).servicePlace = s.servicePlace := rfl
@[simp] theorem modFeed_pointers (i : Slot) (f : FeedEngine → FeedEngine) (s : State) :
    (modFeed i f s).pointers = s.pointers := rfl
@[simp] theorem modFeed_busRaw (i : Slot) (f : FeedEngine → FeedEngine) (s : State) :
    (modFeed i f s).busRaw = s.busRaw := rfl
@[simp] theorem modFeed_notices (i : Slot) (f : FeedEngine → FeedEngine) (s : State) :
    (modFeed i f s).notices = s.notices := rfl
@[simp] theorem modFeed_links (i : Slot) (f : FeedEngine → FeedEngine) (s : State) :
    (modFeed i f s).links = s.links := rfl
@[simp] theorem modFeed_kiosks (i : Slot) (f : FeedEngine → FeedEngine) (s : State) :
    (modFeed i f s).kiosks = s.kiosks := rfl
@[simp] theorem modFeed_freeDrawn (i : Slot) (f : FeedEngine → FeedEngine) (s : State) :
    (modFeed i f s).freeDrawn = s.freeDrawn := rfl

@[simp] theorem modScan_pending (i : Slot) (f : ScanRecord → ScanRecord) (s : State) :
    (modScan i f s).pending = s.pending := rfl
@[simp] theorem modScan_hubTime (i : Slot) (f : ScanRecord → ScanRecord) (s : State) :
    (modScan i f s).hubTime = s.hubTime := rfl
@[simp] theorem modScan_phase (i : Slot) (f : ScanRecord → ScanRecord) (s : State) :
    (modScan i f s).phase = s.phase := rfl
@[simp] theorem modScan_resetLow (i : Slot) (f : ScanRecord → ScanRecord) (s : State) :
    (modScan i f s).resetLow = s.resetLow := rfl
@[simp] theorem modScan_powerOnHold (i : Slot) (f : ScanRecord → ScanRecord) (s : State) :
    (modScan i f s).powerOnHold = s.powerOnHold := rfl
@[simp] theorem modScan_attnLine (i : Slot) (f : ScanRecord → ScanRecord) (s : State) :
    (modScan i f s).attnLine = s.attnLine := rfl
@[simp] theorem modScan_zones (i : Slot) (f : ScanRecord → ScanRecord) (s : State) :
    (modScan i f s).zones = s.zones := rfl
@[simp] theorem modScan_contacts (i : Slot) (f : ScanRecord → ScanRecord) (s : State) :
    (modScan i f s).contacts = s.contacts := rfl
@[simp] theorem modScan_ignored (i : Slot) (f : ScanRecord → ScanRecord) (s : State) :
    (modScan i f s).ignored = s.ignored := rfl
@[simp] theorem modScan_panels (i : Slot) (f : ScanRecord → ScanRecord) (s : State) :
    (modScan i f s).panels = s.panels := rfl
@[simp] theorem modScan_claims (i : Slot) (f : ScanRecord → ScanRecord) (s : State) :
    (modScan i f s).claims = s.claims := rfl
@[simp] theorem modScan_waits (i : Slot) (f : ScanRecord → ScanRecord) (s : State) :
    (modScan i f s).waits = s.waits := rfl
@[simp] theorem modScan_nextClaim (i : Slot) (f : ScanRecord → ScanRecord) (s : State) :
    (modScan i f s).nextClaim = s.nextClaim := rfl
@[simp] theorem modScan_spool (i : Slot) (f : ScanRecord → ScanRecord) (s : State) :
    (modScan i f s).spool = s.spool := rfl
@[simp] theorem modScan_free (i : Slot) (f : ScanRecord → ScanRecord) (s : State) : (modScan i f s).free = s.free := rfl
@[simp] theorem modScan_jobs (i : Slot) (f : ScanRecord → ScanRecord) (s : State) : (modScan i f s).jobs = s.jobs := rfl
@[simp] theorem modScan_terminal (i : Slot) (f : ScanRecord → ScanRecord) (s : State) :
    (modScan i f s).terminal = s.terminal := rfl
@[simp] theorem modScan_printQueue (i : Slot) (f : ScanRecord → ScanRecord) (s : State) :
    (modScan i f s).printQueue = s.printQueue := rfl
@[simp] theorem modScan_nextJob (i : Slot) (f : ScanRecord → ScanRecord) (s : State) :
    (modScan i f s).nextJob = s.nextJob := rfl
@[simp] theorem modScan_kioskSpool (i : Slot) (f : ScanRecord → ScanRecord) (s : State) :
    (modScan i f s).kioskSpool = s.kioskSpool := rfl
@[simp] theorem modScan_fillLimit (i : Slot) (f : ScanRecord → ScanRecord) (s : State) :
    (modScan i f s).fillLimit = s.fillLimit := rfl
@[simp] theorem modScan_feeds (i : Slot) (f : ScanRecord → ScanRecord) (s : State) :
    (modScan i f s).feeds = s.feeds := rfl
@[simp] theorem modScan_scans (i : Slot) (f : ScanRecord → ScanRecord) (s : State) :
    (modScan i f s).scans = upd s.scans i f := rfl
@[simp] theorem modScan_units (i : Slot) (f : ScanRecord → ScanRecord) (s : State) :
    (modScan i f s).units = s.units := rfl
@[simp] theorem modScan_attn (i : Slot) (f : ScanRecord → ScanRecord) (s : State) : (modScan i f s).attn = s.attn := rfl
@[simp] theorem modScan_bus (i : Slot) (f : ScanRecord → ScanRecord) (s : State) : (modScan i f s).bus = s.bus := rfl
@[simp] theorem modScan_board (i : Slot) (f : ScanRecord → ScanRecord) (s : State) :
    (modScan i f s).board = s.board := rfl
@[simp] theorem modScan_servicePlace (i : Slot) (f : ScanRecord → ScanRecord) (s : State) :
    (modScan i f s).servicePlace = s.servicePlace := rfl
@[simp] theorem modScan_pointers (i : Slot) (f : ScanRecord → ScanRecord) (s : State) :
    (modScan i f s).pointers = s.pointers := rfl
@[simp] theorem modScan_busRaw (i : Slot) (f : ScanRecord → ScanRecord) (s : State) :
    (modScan i f s).busRaw = s.busRaw := rfl
@[simp] theorem modScan_notices (i : Slot) (f : ScanRecord → ScanRecord) (s : State) :
    (modScan i f s).notices = s.notices := rfl
@[simp] theorem modScan_links (i : Slot) (f : ScanRecord → ScanRecord) (s : State) :
    (modScan i f s).links = s.links := rfl
@[simp] theorem modScan_kiosks (i : Slot) (f : ScanRecord → ScanRecord) (s : State) :
    (modScan i f s).kiosks = s.kiosks := rfl
@[simp] theorem modScan_freeDrawn (i : Slot) (f : ScanRecord → ScanRecord) (s : State) :
    (modScan i f s).freeDrawn = s.freeDrawn := rfl

@[simp] theorem modPanel_pending (i : Slot) (f : PanelEngine → PanelEngine) (s : State) :
    (modPanel i f s).pending = s.pending := rfl
@[simp] theorem modPanel_hubTime (i : Slot) (f : PanelEngine → PanelEngine) (s : State) :
    (modPanel i f s).hubTime = s.hubTime := rfl
@[simp] theorem modPanel_phase (i : Slot) (f : PanelEngine → PanelEngine) (s : State) :
    (modPanel i f s).phase = s.phase := rfl
@[simp] theorem modPanel_resetLow (i : Slot) (f : PanelEngine → PanelEngine) (s : State) :
    (modPanel i f s).resetLow = s.resetLow := rfl
@[simp] theorem modPanel_powerOnHold (i : Slot) (f : PanelEngine → PanelEngine) (s : State) :
    (modPanel i f s).powerOnHold = s.powerOnHold := rfl
@[simp] theorem modPanel_attnLine (i : Slot) (f : PanelEngine → PanelEngine) (s : State) :
    (modPanel i f s).attnLine = s.attnLine := rfl
@[simp] theorem modPanel_zones (i : Slot) (f : PanelEngine → PanelEngine) (s : State) :
    (modPanel i f s).zones = s.zones := rfl
@[simp] theorem modPanel_contacts (i : Slot) (f : PanelEngine → PanelEngine) (s : State) :
    (modPanel i f s).contacts = s.contacts := rfl
@[simp] theorem modPanel_ignored (i : Slot) (f : PanelEngine → PanelEngine) (s : State) :
    (modPanel i f s).ignored = s.ignored := rfl
@[simp] theorem modPanel_panels (i : Slot) (f : PanelEngine → PanelEngine) (s : State) :
    (modPanel i f s).panels = upd s.panels i f := rfl
@[simp] theorem modPanel_claims (i : Slot) (f : PanelEngine → PanelEngine) (s : State) :
    (modPanel i f s).claims = s.claims := rfl
@[simp] theorem modPanel_waits (i : Slot) (f : PanelEngine → PanelEngine) (s : State) :
    (modPanel i f s).waits = s.waits := rfl
@[simp] theorem modPanel_nextClaim (i : Slot) (f : PanelEngine → PanelEngine) (s : State) :
    (modPanel i f s).nextClaim = s.nextClaim := rfl
@[simp] theorem modPanel_spool (i : Slot) (f : PanelEngine → PanelEngine) (s : State) :
    (modPanel i f s).spool = s.spool := rfl
@[simp] theorem modPanel_free (i : Slot) (f : PanelEngine → PanelEngine) (s : State) :
    (modPanel i f s).free = s.free := rfl
@[simp] theorem modPanel_jobs (i : Slot) (f : PanelEngine → PanelEngine) (s : State) :
    (modPanel i f s).jobs = s.jobs := rfl
@[simp] theorem modPanel_terminal (i : Slot) (f : PanelEngine → PanelEngine) (s : State) :
    (modPanel i f s).terminal = s.terminal := rfl
@[simp] theorem modPanel_printQueue (i : Slot) (f : PanelEngine → PanelEngine) (s : State) :
    (modPanel i f s).printQueue = s.printQueue := rfl
@[simp] theorem modPanel_nextJob (i : Slot) (f : PanelEngine → PanelEngine) (s : State) :
    (modPanel i f s).nextJob = s.nextJob := rfl
@[simp] theorem modPanel_kioskSpool (i : Slot) (f : PanelEngine → PanelEngine) (s : State) :
    (modPanel i f s).kioskSpool = s.kioskSpool := rfl
@[simp] theorem modPanel_fillLimit (i : Slot) (f : PanelEngine → PanelEngine) (s : State) :
    (modPanel i f s).fillLimit = s.fillLimit := rfl
@[simp] theorem modPanel_feeds (i : Slot) (f : PanelEngine → PanelEngine) (s : State) :
    (modPanel i f s).feeds = s.feeds := rfl
@[simp] theorem modPanel_scans (i : Slot) (f : PanelEngine → PanelEngine) (s : State) :
    (modPanel i f s).scans = s.scans := rfl
@[simp] theorem modPanel_units (i : Slot) (f : PanelEngine → PanelEngine) (s : State) :
    (modPanel i f s).units = s.units := rfl
@[simp] theorem modPanel_attn (i : Slot) (f : PanelEngine → PanelEngine) (s : State) :
    (modPanel i f s).attn = s.attn := rfl
@[simp] theorem modPanel_bus (i : Slot) (f : PanelEngine → PanelEngine) (s : State) :
    (modPanel i f s).bus = s.bus := rfl
@[simp] theorem modPanel_board (i : Slot) (f : PanelEngine → PanelEngine) (s : State) :
    (modPanel i f s).board = s.board := rfl
@[simp] theorem modPanel_servicePlace (i : Slot) (f : PanelEngine → PanelEngine) (s : State) :
    (modPanel i f s).servicePlace = s.servicePlace := rfl
@[simp] theorem modPanel_pointers (i : Slot) (f : PanelEngine → PanelEngine) (s : State) :
    (modPanel i f s).pointers = s.pointers := rfl
@[simp] theorem modPanel_busRaw (i : Slot) (f : PanelEngine → PanelEngine) (s : State) :
    (modPanel i f s).busRaw = s.busRaw := rfl
@[simp] theorem modPanel_notices (i : Slot) (f : PanelEngine → PanelEngine) (s : State) :
    (modPanel i f s).notices = s.notices := rfl
@[simp] theorem modPanel_links (i : Slot) (f : PanelEngine → PanelEngine) (s : State) :
    (modPanel i f s).links = s.links := rfl
@[simp] theorem modPanel_kiosks (i : Slot) (f : PanelEngine → PanelEngine) (s : State) :
    (modPanel i f s).kiosks = s.kiosks := rfl
@[simp] theorem modPanel_freeDrawn (i : Slot) (f : PanelEngine → PanelEngine) (s : State) :
    (modPanel i f s).freeDrawn = s.freeDrawn := rfl

@[simp] theorem modUnit_pending (i : Slot) (f : UnitSlot → UnitSlot) (s : State) :
    (modUnit i f s).pending = s.pending := rfl
@[simp] theorem modUnit_hubTime (i : Slot) (f : UnitSlot → UnitSlot) (s : State) :
    (modUnit i f s).hubTime = s.hubTime := rfl
@[simp] theorem modUnit_phase (i : Slot) (f : UnitSlot → UnitSlot) (s : State) : (modUnit i f s).phase = s.phase := rfl
@[simp] theorem modUnit_resetLow (i : Slot) (f : UnitSlot → UnitSlot) (s : State) :
    (modUnit i f s).resetLow = s.resetLow := rfl
@[simp] theorem modUnit_powerOnHold (i : Slot) (f : UnitSlot → UnitSlot) (s : State) :
    (modUnit i f s).powerOnHold = s.powerOnHold := rfl
@[simp] theorem modUnit_attnLine (i : Slot) (f : UnitSlot → UnitSlot) (s : State) :
    (modUnit i f s).attnLine = s.attnLine := rfl
@[simp] theorem modUnit_zones (i : Slot) (f : UnitSlot → UnitSlot) (s : State) : (modUnit i f s).zones = s.zones := rfl
@[simp] theorem modUnit_contacts (i : Slot) (f : UnitSlot → UnitSlot) (s : State) :
    (modUnit i f s).contacts = s.contacts := rfl
@[simp] theorem modUnit_ignored (i : Slot) (f : UnitSlot → UnitSlot) (s : State) :
    (modUnit i f s).ignored = s.ignored := rfl
@[simp] theorem modUnit_panels (i : Slot) (f : UnitSlot → UnitSlot) (s : State) :
    (modUnit i f s).panels = s.panels := rfl
@[simp] theorem modUnit_claims (i : Slot) (f : UnitSlot → UnitSlot) (s : State) :
    (modUnit i f s).claims = s.claims := rfl
@[simp] theorem modUnit_waits (i : Slot) (f : UnitSlot → UnitSlot) (s : State) : (modUnit i f s).waits = s.waits := rfl
@[simp] theorem modUnit_nextClaim (i : Slot) (f : UnitSlot → UnitSlot) (s : State) :
    (modUnit i f s).nextClaim = s.nextClaim := rfl
@[simp] theorem modUnit_spool (i : Slot) (f : UnitSlot → UnitSlot) (s : State) : (modUnit i f s).spool = s.spool := rfl
@[simp] theorem modUnit_free (i : Slot) (f : UnitSlot → UnitSlot) (s : State) : (modUnit i f s).free = s.free := rfl
@[simp] theorem modUnit_jobs (i : Slot) (f : UnitSlot → UnitSlot) (s : State) : (modUnit i f s).jobs = s.jobs := rfl
@[simp] theorem modUnit_terminal (i : Slot) (f : UnitSlot → UnitSlot) (s : State) :
    (modUnit i f s).terminal = s.terminal := rfl
@[simp] theorem modUnit_printQueue (i : Slot) (f : UnitSlot → UnitSlot) (s : State) :
    (modUnit i f s).printQueue = s.printQueue := rfl
@[simp] theorem modUnit_nextJob (i : Slot) (f : UnitSlot → UnitSlot) (s : State) :
    (modUnit i f s).nextJob = s.nextJob := rfl
@[simp] theorem modUnit_kioskSpool (i : Slot) (f : UnitSlot → UnitSlot) (s : State) :
    (modUnit i f s).kioskSpool = s.kioskSpool := rfl
@[simp] theorem modUnit_fillLimit (i : Slot) (f : UnitSlot → UnitSlot) (s : State) :
    (modUnit i f s).fillLimit = s.fillLimit := rfl
@[simp] theorem modUnit_feeds (i : Slot) (f : UnitSlot → UnitSlot) (s : State) : (modUnit i f s).feeds = s.feeds := rfl
@[simp] theorem modUnit_scans (i : Slot) (f : UnitSlot → UnitSlot) (s : State) : (modUnit i f s).scans = s.scans := rfl
@[simp] theorem modUnit_units (i : Slot) (f : UnitSlot → UnitSlot) (s : State) :
    (modUnit i f s).units = upd s.units i f := rfl
@[simp] theorem modUnit_attn (i : Slot) (f : UnitSlot → UnitSlot) (s : State) : (modUnit i f s).attn = s.attn := rfl
@[simp] theorem modUnit_bus (i : Slot) (f : UnitSlot → UnitSlot) (s : State) : (modUnit i f s).bus = s.bus := rfl
@[simp] theorem modUnit_board (i : Slot) (f : UnitSlot → UnitSlot) (s : State) : (modUnit i f s).board = s.board := rfl
@[simp] theorem modUnit_servicePlace (i : Slot) (f : UnitSlot → UnitSlot) (s : State) :
    (modUnit i f s).servicePlace = s.servicePlace := rfl
@[simp] theorem modUnit_pointers (i : Slot) (f : UnitSlot → UnitSlot) (s : State) :
    (modUnit i f s).pointers = s.pointers := rfl
@[simp] theorem modUnit_busRaw (i : Slot) (f : UnitSlot → UnitSlot) (s : State) :
    (modUnit i f s).busRaw = s.busRaw := rfl
@[simp] theorem modUnit_notices (i : Slot) (f : UnitSlot → UnitSlot) (s : State) :
    (modUnit i f s).notices = s.notices := rfl
@[simp] theorem modUnit_links (i : Slot) (f : UnitSlot → UnitSlot) (s : State) : (modUnit i f s).links = s.links := rfl
@[simp] theorem modUnit_kiosks (i : Slot) (f : UnitSlot → UnitSlot) (s : State) :
    (modUnit i f s).kiosks = s.kiosks := rfl
@[simp] theorem modUnit_freeDrawn (i : Slot) (f : UnitSlot → UnitSlot) (s : State) :
    (modUnit i f s).freeDrawn = s.freeDrawn := rfl

@[simp] theorem modAttn_pending (i : Slot) (f : Attention → Attention) (s : State) :
    (modAttn i f s).pending = s.pending := rfl
@[simp] theorem modAttn_hubTime (i : Slot) (f : Attention → Attention) (s : State) :
    (modAttn i f s).hubTime = s.hubTime := rfl
@[simp] theorem modAttn_phase (i : Slot) (f : Attention → Attention) (s : State) :
    (modAttn i f s).phase = s.phase := rfl
@[simp] theorem modAttn_resetLow (i : Slot) (f : Attention → Attention) (s : State) :
    (modAttn i f s).resetLow = s.resetLow := rfl
@[simp] theorem modAttn_powerOnHold (i : Slot) (f : Attention → Attention) (s : State) :
    (modAttn i f s).powerOnHold = s.powerOnHold := rfl
@[simp] theorem modAttn_attnLine (i : Slot) (f : Attention → Attention) (s : State) :
    (modAttn i f s).attnLine = s.attnLine := rfl
@[simp] theorem modAttn_zones (i : Slot) (f : Attention → Attention) (s : State) :
    (modAttn i f s).zones = s.zones := rfl
@[simp] theorem modAttn_contacts (i : Slot) (f : Attention → Attention) (s : State) :
    (modAttn i f s).contacts = s.contacts := rfl
@[simp] theorem modAttn_ignored (i : Slot) (f : Attention → Attention) (s : State) :
    (modAttn i f s).ignored = s.ignored := rfl
@[simp] theorem modAttn_panels (i : Slot) (f : Attention → Attention) (s : State) :
    (modAttn i f s).panels = s.panels := rfl
@[simp] theorem modAttn_claims (i : Slot) (f : Attention → Attention) (s : State) :
    (modAttn i f s).claims = s.claims := rfl
@[simp] theorem modAttn_waits (i : Slot) (f : Attention → Attention) (s : State) :
    (modAttn i f s).waits = s.waits := rfl
@[simp] theorem modAttn_nextClaim (i : Slot) (f : Attention → Attention) (s : State) :
    (modAttn i f s).nextClaim = s.nextClaim := rfl
@[simp] theorem modAttn_spool (i : Slot) (f : Attention → Attention) (s : State) :
    (modAttn i f s).spool = s.spool := rfl
@[simp] theorem modAttn_free (i : Slot) (f : Attention → Attention) (s : State) : (modAttn i f s).free = s.free := rfl
@[simp] theorem modAttn_jobs (i : Slot) (f : Attention → Attention) (s : State) : (modAttn i f s).jobs = s.jobs := rfl
@[simp] theorem modAttn_terminal (i : Slot) (f : Attention → Attention) (s : State) :
    (modAttn i f s).terminal = s.terminal := rfl
@[simp] theorem modAttn_printQueue (i : Slot) (f : Attention → Attention) (s : State) :
    (modAttn i f s).printQueue = s.printQueue := rfl
@[simp] theorem modAttn_nextJob (i : Slot) (f : Attention → Attention) (s : State) :
    (modAttn i f s).nextJob = s.nextJob := rfl
@[simp] theorem modAttn_kioskSpool (i : Slot) (f : Attention → Attention) (s : State) :
    (modAttn i f s).kioskSpool = s.kioskSpool := rfl
@[simp] theorem modAttn_fillLimit (i : Slot) (f : Attention → Attention) (s : State) :
    (modAttn i f s).fillLimit = s.fillLimit := rfl
@[simp] theorem modAttn_feeds (i : Slot) (f : Attention → Attention) (s : State) :
    (modAttn i f s).feeds = s.feeds := rfl
@[simp] theorem modAttn_scans (i : Slot) (f : Attention → Attention) (s : State) :
    (modAttn i f s).scans = s.scans := rfl
@[simp] theorem modAttn_units (i : Slot) (f : Attention → Attention) (s : State) :
    (modAttn i f s).units = s.units := rfl
@[simp] theorem modAttn_attn (i : Slot) (f : Attention → Attention) (s : State) :
    (modAttn i f s).attn = upd s.attn i f := rfl
@[simp] theorem modAttn_bus (i : Slot) (f : Attention → Attention) (s : State) : (modAttn i f s).bus = s.bus := rfl
@[simp] theorem modAttn_board (i : Slot) (f : Attention → Attention) (s : State) :
    (modAttn i f s).board = s.board := rfl
@[simp] theorem modAttn_servicePlace (i : Slot) (f : Attention → Attention) (s : State) :
    (modAttn i f s).servicePlace = s.servicePlace := rfl
@[simp] theorem modAttn_pointers (i : Slot) (f : Attention → Attention) (s : State) :
    (modAttn i f s).pointers = s.pointers := rfl
@[simp] theorem modAttn_busRaw (i : Slot) (f : Attention → Attention) (s : State) :
    (modAttn i f s).busRaw = s.busRaw := rfl
@[simp] theorem modAttn_notices (i : Slot) (f : Attention → Attention) (s : State) :
    (modAttn i f s).notices = s.notices := rfl
@[simp] theorem modAttn_links (i : Slot) (f : Attention → Attention) (s : State) :
    (modAttn i f s).links = s.links := rfl
@[simp] theorem modAttn_kiosks (i : Slot) (f : Attention → Attention) (s : State) :
    (modAttn i f s).kiosks = s.kiosks := rfl
@[simp] theorem modAttn_freeDrawn (i : Slot) (f : Attention → Attention) (s : State) :
    (modAttn i f s).freeDrawn = s.freeDrawn := rfl

@[simp] theorem modQuota_pending (k : Kiosk) (f : KioskSpool → KioskSpool) (s : State) :
    (modQuota k f s).pending = s.pending := rfl
@[simp] theorem modQuota_hubTime (k : Kiosk) (f : KioskSpool → KioskSpool) (s : State) :
    (modQuota k f s).hubTime = s.hubTime := rfl
@[simp] theorem modQuota_phase (k : Kiosk) (f : KioskSpool → KioskSpool) (s : State) :
    (modQuota k f s).phase = s.phase := rfl
@[simp] theorem modQuota_resetLow (k : Kiosk) (f : KioskSpool → KioskSpool) (s : State) :
    (modQuota k f s).resetLow = s.resetLow := rfl
@[simp] theorem modQuota_powerOnHold (k : Kiosk) (f : KioskSpool → KioskSpool) (s : State) :
    (modQuota k f s).powerOnHold = s.powerOnHold := rfl
@[simp] theorem modQuota_attnLine (k : Kiosk) (f : KioskSpool → KioskSpool) (s : State) :
    (modQuota k f s).attnLine = s.attnLine := rfl
@[simp] theorem modQuota_zones (k : Kiosk) (f : KioskSpool → KioskSpool) (s : State) :
    (modQuota k f s).zones = s.zones := rfl
@[simp] theorem modQuota_contacts (k : Kiosk) (f : KioskSpool → KioskSpool) (s : State) :
    (modQuota k f s).contacts = s.contacts := rfl
@[simp] theorem modQuota_ignored (k : Kiosk) (f : KioskSpool → KioskSpool) (s : State) :
    (modQuota k f s).ignored = s.ignored := rfl
@[simp] theorem modQuota_panels (k : Kiosk) (f : KioskSpool → KioskSpool) (s : State) :
    (modQuota k f s).panels = s.panels := rfl
@[simp] theorem modQuota_claims (k : Kiosk) (f : KioskSpool → KioskSpool) (s : State) :
    (modQuota k f s).claims = s.claims := rfl
@[simp] theorem modQuota_waits (k : Kiosk) (f : KioskSpool → KioskSpool) (s : State) :
    (modQuota k f s).waits = s.waits := rfl
@[simp] theorem modQuota_nextClaim (k : Kiosk) (f : KioskSpool → KioskSpool) (s : State) :
    (modQuota k f s).nextClaim = s.nextClaim := rfl
@[simp] theorem modQuota_spool (k : Kiosk) (f : KioskSpool → KioskSpool) (s : State) :
    (modQuota k f s).spool = s.spool := rfl
@[simp] theorem modQuota_free (k : Kiosk) (f : KioskSpool → KioskSpool) (s : State) :
    (modQuota k f s).free = s.free := rfl
@[simp] theorem modQuota_jobs (k : Kiosk) (f : KioskSpool → KioskSpool) (s : State) :
    (modQuota k f s).jobs = s.jobs := rfl
@[simp] theorem modQuota_terminal (k : Kiosk) (f : KioskSpool → KioskSpool) (s : State) :
    (modQuota k f s).terminal = s.terminal := rfl
@[simp] theorem modQuota_printQueue (k : Kiosk) (f : KioskSpool → KioskSpool) (s : State) :
    (modQuota k f s).printQueue = s.printQueue := rfl
@[simp] theorem modQuota_nextJob (k : Kiosk) (f : KioskSpool → KioskSpool) (s : State) :
    (modQuota k f s).nextJob = s.nextJob := rfl
@[simp] theorem modQuota_kioskSpool (k : Kiosk) (f : KioskSpool → KioskSpool) (s : State) :
    (modQuota k f s).kioskSpool = upd s.kioskSpool k f := rfl
@[simp] theorem modQuota_fillLimit (k : Kiosk) (f : KioskSpool → KioskSpool) (s : State) :
    (modQuota k f s).fillLimit = s.fillLimit := rfl
@[simp] theorem modQuota_feeds (k : Kiosk) (f : KioskSpool → KioskSpool) (s : State) :
    (modQuota k f s).feeds = s.feeds := rfl
@[simp] theorem modQuota_scans (k : Kiosk) (f : KioskSpool → KioskSpool) (s : State) :
    (modQuota k f s).scans = s.scans := rfl
@[simp] theorem modQuota_units (k : Kiosk) (f : KioskSpool → KioskSpool) (s : State) :
    (modQuota k f s).units = s.units := rfl
@[simp] theorem modQuota_attn (k : Kiosk) (f : KioskSpool → KioskSpool) (s : State) :
    (modQuota k f s).attn = s.attn := rfl
@[simp] theorem modQuota_bus (k : Kiosk) (f : KioskSpool → KioskSpool) (s : State) : (modQuota k f s).bus = s.bus := rfl
@[simp] theorem modQuota_board (k : Kiosk) (f : KioskSpool → KioskSpool) (s : State) :
    (modQuota k f s).board = s.board := rfl
@[simp] theorem modQuota_servicePlace (k : Kiosk) (f : KioskSpool → KioskSpool) (s : State) :
    (modQuota k f s).servicePlace = s.servicePlace := rfl
@[simp] theorem modQuota_pointers (k : Kiosk) (f : KioskSpool → KioskSpool) (s : State) :
    (modQuota k f s).pointers = s.pointers := rfl
@[simp] theorem modQuota_busRaw (k : Kiosk) (f : KioskSpool → KioskSpool) (s : State) :
    (modQuota k f s).busRaw = s.busRaw := rfl
@[simp] theorem modQuota_notices (k : Kiosk) (f : KioskSpool → KioskSpool) (s : State) :
    (modQuota k f s).notices = s.notices := rfl
@[simp] theorem modQuota_links (k : Kiosk) (f : KioskSpool → KioskSpool) (s : State) :
    (modQuota k f s).links = s.links := rfl
@[simp] theorem modQuota_kiosks (k : Kiosk) (f : KioskSpool → KioskSpool) (s : State) :
    (modQuota k f s).kiosks = s.kiosks := rfl
@[simp] theorem modQuota_freeDrawn (k : Kiosk) (f : KioskSpool → KioskSpool) (s : State) :
    (modQuota k f s).freeDrawn = s.freeDrawn := rfl

@[simp] theorem modJob_pending (n : Nat) (f : Job → Job) (s : State) : (modJob n f s).pending = s.pending := rfl
@[simp] theorem modJob_hubTime (n : Nat) (f : Job → Job) (s : State) : (modJob n f s).hubTime = s.hubTime := rfl
@[simp] theorem modJob_phase (n : Nat) (f : Job → Job) (s : State) : (modJob n f s).phase = s.phase := rfl
@[simp] theorem modJob_resetLow (n : Nat) (f : Job → Job) (s : State) : (modJob n f s).resetLow = s.resetLow := rfl
@[simp] theorem modJob_powerOnHold (n : Nat) (f : Job → Job) (s : State) :
    (modJob n f s).powerOnHold = s.powerOnHold := rfl
@[simp] theorem modJob_attnLine (n : Nat) (f : Job → Job) (s : State) : (modJob n f s).attnLine = s.attnLine := rfl
@[simp] theorem modJob_zones (n : Nat) (f : Job → Job) (s : State) : (modJob n f s).zones = s.zones := rfl
@[simp] theorem modJob_contacts (n : Nat) (f : Job → Job) (s : State) : (modJob n f s).contacts = s.contacts := rfl
@[simp] theorem modJob_ignored (n : Nat) (f : Job → Job) (s : State) : (modJob n f s).ignored = s.ignored := rfl
@[simp] theorem modJob_panels (n : Nat) (f : Job → Job) (s : State) : (modJob n f s).panels = s.panels := rfl
@[simp] theorem modJob_claims (n : Nat) (f : Job → Job) (s : State) : (modJob n f s).claims = s.claims := rfl
@[simp] theorem modJob_waits (n : Nat) (f : Job → Job) (s : State) : (modJob n f s).waits = s.waits := rfl
@[simp] theorem modJob_nextClaim (n : Nat) (f : Job → Job) (s : State) : (modJob n f s).nextClaim = s.nextClaim := rfl
@[simp] theorem modJob_spool (n : Nat) (f : Job → Job) (s : State) : (modJob n f s).spool = s.spool := rfl
@[simp] theorem modJob_free (n : Nat) (f : Job → Job) (s : State) : (modJob n f s).free = s.free := rfl
@[simp] theorem modJob_jobs (n : Nat) (f : Job → Job) (s : State) :
    (modJob n f s).jobs = s.jobs.map fun j => if j.id = n then f j else j := rfl
@[simp] theorem modJob_terminal (n : Nat) (f : Job → Job) (s : State) : (modJob n f s).terminal = s.terminal := rfl
@[simp] theorem modJob_printQueue (n : Nat) (f : Job → Job) (s : State) :
    (modJob n f s).printQueue = s.printQueue := rfl
@[simp] theorem modJob_nextJob (n : Nat) (f : Job → Job) (s : State) : (modJob n f s).nextJob = s.nextJob := rfl
@[simp] theorem modJob_kioskSpool (n : Nat) (f : Job → Job) (s : State) :
    (modJob n f s).kioskSpool = s.kioskSpool := rfl
@[simp] theorem modJob_fillLimit (n : Nat) (f : Job → Job) (s : State) : (modJob n f s).fillLimit = s.fillLimit := rfl
@[simp] theorem modJob_feeds (n : Nat) (f : Job → Job) (s : State) : (modJob n f s).feeds = s.feeds := rfl
@[simp] theorem modJob_scans (n : Nat) (f : Job → Job) (s : State) : (modJob n f s).scans = s.scans := rfl
@[simp] theorem modJob_units (n : Nat) (f : Job → Job) (s : State) : (modJob n f s).units = s.units := rfl
@[simp] theorem modJob_attn (n : Nat) (f : Job → Job) (s : State) : (modJob n f s).attn = s.attn := rfl
@[simp] theorem modJob_bus (n : Nat) (f : Job → Job) (s : State) : (modJob n f s).bus = s.bus := rfl
@[simp] theorem modJob_board (n : Nat) (f : Job → Job) (s : State) : (modJob n f s).board = s.board := rfl
@[simp] theorem modJob_servicePlace (n : Nat) (f : Job → Job) (s : State) :
    (modJob n f s).servicePlace = s.servicePlace := rfl
@[simp] theorem modJob_pointers (n : Nat) (f : Job → Job) (s : State) : (modJob n f s).pointers = s.pointers := rfl
@[simp] theorem modJob_busRaw (n : Nat) (f : Job → Job) (s : State) : (modJob n f s).busRaw = s.busRaw := rfl
@[simp] theorem modJob_notices (n : Nat) (f : Job → Job) (s : State) : (modJob n f s).notices = s.notices := rfl
@[simp] theorem modJob_links (n : Nat) (f : Job → Job) (s : State) : (modJob n f s).links = s.links := rfl
@[simp] theorem modJob_kiosks (n : Nat) (f : Job → Job) (s : State) : (modJob n f s).kiosks = s.kiosks := rfl
@[simp] theorem modJob_freeDrawn (n : Nat) (f : Job → Job) (s : State) : (modJob n f s).freeDrawn = s.freeDrawn := rfl

@[simp] theorem modClaim_pending (n : Nat) (f : Claim → Claim) (s : State) : (modClaim n f s).pending = s.pending := rfl
@[simp] theorem modClaim_hubTime (n : Nat) (f : Claim → Claim) (s : State) : (modClaim n f s).hubTime = s.hubTime := rfl
@[simp] theorem modClaim_phase (n : Nat) (f : Claim → Claim) (s : State) : (modClaim n f s).phase = s.phase := rfl
@[simp] theorem modClaim_resetLow (n : Nat) (f : Claim → Claim) (s : State) :
    (modClaim n f s).resetLow = s.resetLow := rfl
@[simp] theorem modClaim_powerOnHold (n : Nat) (f : Claim → Claim) (s : State) :
    (modClaim n f s).powerOnHold = s.powerOnHold := rfl
@[simp] theorem modClaim_attnLine (n : Nat) (f : Claim → Claim) (s : State) :
    (modClaim n f s).attnLine = s.attnLine := rfl
@[simp] theorem modClaim_zones (n : Nat) (f : Claim → Claim) (s : State) : (modClaim n f s).zones = s.zones := rfl
@[simp] theorem modClaim_contacts (n : Nat) (f : Claim → Claim) (s : State) :
    (modClaim n f s).contacts = s.contacts := rfl
@[simp] theorem modClaim_ignored (n : Nat) (f : Claim → Claim) (s : State) : (modClaim n f s).ignored = s.ignored := rfl
@[simp] theorem modClaim_panels (n : Nat) (f : Claim → Claim) (s : State) : (modClaim n f s).panels = s.panels := rfl
@[simp] theorem modClaim_claims (n : Nat) (f : Claim → Claim) (s : State) :
    (modClaim n f s).claims = s.claims.map fun c => if c.id = n then f c else c := rfl
@[simp] theorem modClaim_waits (n : Nat) (f : Claim → Claim) (s : State) : (modClaim n f s).waits = s.waits := rfl
@[simp] theorem modClaim_nextClaim (n : Nat) (f : Claim → Claim) (s : State) :
    (modClaim n f s).nextClaim = s.nextClaim := rfl
@[simp] theorem modClaim_spool (n : Nat) (f : Claim → Claim) (s : State) : (modClaim n f s).spool = s.spool := rfl
@[simp] theorem modClaim_free (n : Nat) (f : Claim → Claim) (s : State) : (modClaim n f s).free = s.free := rfl
@[simp] theorem modClaim_jobs (n : Nat) (f : Claim → Claim) (s : State) : (modClaim n f s).jobs = s.jobs := rfl
@[simp] theorem modClaim_terminal (n : Nat) (f : Claim → Claim) (s : State) :
    (modClaim n f s).terminal = s.terminal := rfl
@[simp] theorem modClaim_printQueue (n : Nat) (f : Claim → Claim) (s : State) :
    (modClaim n f s).printQueue = s.printQueue := rfl
@[simp] theorem modClaim_nextJob (n : Nat) (f : Claim → Claim) (s : State) : (modClaim n f s).nextJob = s.nextJob := rfl
@[simp] theorem modClaim_kioskSpool (n : Nat) (f : Claim → Claim) (s : State) :
    (modClaim n f s).kioskSpool = s.kioskSpool := rfl
@[simp] theorem modClaim_fillLimit (n : Nat) (f : Claim → Claim) (s : State) :
    (modClaim n f s).fillLimit = s.fillLimit := rfl
@[simp] theorem modClaim_feeds (n : Nat) (f : Claim → Claim) (s : State) : (modClaim n f s).feeds = s.feeds := rfl
@[simp] theorem modClaim_scans (n : Nat) (f : Claim → Claim) (s : State) : (modClaim n f s).scans = s.scans := rfl
@[simp] theorem modClaim_units (n : Nat) (f : Claim → Claim) (s : State) : (modClaim n f s).units = s.units := rfl
@[simp] theorem modClaim_attn (n : Nat) (f : Claim → Claim) (s : State) : (modClaim n f s).attn = s.attn := rfl
@[simp] theorem modClaim_bus (n : Nat) (f : Claim → Claim) (s : State) : (modClaim n f s).bus = s.bus := rfl
@[simp] theorem modClaim_board (n : Nat) (f : Claim → Claim) (s : State) : (modClaim n f s).board = s.board := rfl
@[simp] theorem modClaim_servicePlace (n : Nat) (f : Claim → Claim) (s : State) :
    (modClaim n f s).servicePlace = s.servicePlace := rfl
@[simp] theorem modClaim_pointers (n : Nat) (f : Claim → Claim) (s : State) :
    (modClaim n f s).pointers = s.pointers := rfl
@[simp] theorem modClaim_busRaw (n : Nat) (f : Claim → Claim) (s : State) : (modClaim n f s).busRaw = s.busRaw := rfl
@[simp] theorem modClaim_notices (n : Nat) (f : Claim → Claim) (s : State) : (modClaim n f s).notices = s.notices := rfl
@[simp] theorem modClaim_links (n : Nat) (f : Claim → Claim) (s : State) : (modClaim n f s).links = s.links := rfl
@[simp] theorem modClaim_kiosks (n : Nat) (f : Claim → Claim) (s : State) : (modClaim n f s).kiosks = s.kiosks := rfl
@[simp] theorem modClaim_freeDrawn (n : Nat) (f : Claim → Claim) (s : State) :
    (modClaim n f s).freeDrawn = s.freeDrawn := rfl

@[simp] theorem setContact_pending (n : ContactNo) (c : Option Contact) (s : State) :
    (setContact n c s).pending = s.pending := rfl
@[simp] theorem setContact_hubTime (n : ContactNo) (c : Option Contact) (s : State) :
    (setContact n c s).hubTime = s.hubTime := rfl
@[simp] theorem setContact_phase (n : ContactNo) (c : Option Contact) (s : State) :
    (setContact n c s).phase = s.phase := rfl
@[simp] theorem setContact_resetLow (n : ContactNo) (c : Option Contact) (s : State) :
    (setContact n c s).resetLow = s.resetLow := rfl
@[simp] theorem setContact_powerOnHold (n : ContactNo) (c : Option Contact) (s : State) :
    (setContact n c s).powerOnHold = s.powerOnHold := rfl
@[simp] theorem setContact_attnLine (n : ContactNo) (c : Option Contact) (s : State) :
    (setContact n c s).attnLine = s.attnLine := rfl
@[simp] theorem setContact_zones (n : ContactNo) (c : Option Contact) (s : State) :
    (setContact n c s).zones = s.zones := rfl
@[simp] theorem setContact_contacts (n : ContactNo) (c : Option Contact) (s : State) :
    (setContact n c s).contacts = upd s.contacts n fun _ => c := rfl
@[simp] theorem setContact_ignored (n : ContactNo) (c : Option Contact) (s : State) :
    (setContact n c s).ignored = s.ignored := rfl
@[simp] theorem setContact_panels (n : ContactNo) (c : Option Contact) (s : State) :
    (setContact n c s).panels = s.panels := rfl
@[simp] theorem setContact_claims (n : ContactNo) (c : Option Contact) (s : State) :
    (setContact n c s).claims = s.claims := rfl
@[simp] theorem setContact_waits (n : ContactNo) (c : Option Contact) (s : State) :
    (setContact n c s).waits = s.waits := rfl
@[simp] theorem setContact_nextClaim (n : ContactNo) (c : Option Contact) (s : State) :
    (setContact n c s).nextClaim = s.nextClaim := rfl
@[simp] theorem setContact_spool (n : ContactNo) (c : Option Contact) (s : State) :
    (setContact n c s).spool = s.spool := rfl
@[simp] theorem setContact_free (n : ContactNo) (c : Option Contact) (s : State) :
    (setContact n c s).free = s.free := rfl
@[simp] theorem setContact_jobs (n : ContactNo) (c : Option Contact) (s : State) :
    (setContact n c s).jobs = s.jobs := rfl
@[simp] theorem setContact_terminal (n : ContactNo) (c : Option Contact) (s : State) :
    (setContact n c s).terminal = s.terminal := rfl
@[simp] theorem setContact_printQueue (n : ContactNo) (c : Option Contact) (s : State) :
    (setContact n c s).printQueue = s.printQueue := rfl
@[simp] theorem setContact_nextJob (n : ContactNo) (c : Option Contact) (s : State) :
    (setContact n c s).nextJob = s.nextJob := rfl
@[simp] theorem setContact_kioskSpool (n : ContactNo) (c : Option Contact) (s : State) :
    (setContact n c s).kioskSpool = s.kioskSpool := rfl
@[simp] theorem setContact_fillLimit (n : ContactNo) (c : Option Contact) (s : State) :
    (setContact n c s).fillLimit = s.fillLimit := rfl
@[simp] theorem setContact_feeds (n : ContactNo) (c : Option Contact) (s : State) :
    (setContact n c s).feeds = s.feeds := rfl
@[simp] theorem setContact_scans (n : ContactNo) (c : Option Contact) (s : State) :
    (setContact n c s).scans = s.scans := rfl
@[simp] theorem setContact_units (n : ContactNo) (c : Option Contact) (s : State) :
    (setContact n c s).units = s.units := rfl
@[simp] theorem setContact_attn (n : ContactNo) (c : Option Contact) (s : State) :
    (setContact n c s).attn = s.attn := rfl
@[simp] theorem setContact_bus (n : ContactNo) (c : Option Contact) (s : State) : (setContact n c s).bus = s.bus := rfl
@[simp] theorem setContact_board (n : ContactNo) (c : Option Contact) (s : State) :
    (setContact n c s).board = s.board := rfl
@[simp] theorem setContact_servicePlace (n : ContactNo) (c : Option Contact) (s : State) :
    (setContact n c s).servicePlace = s.servicePlace := rfl
@[simp] theorem setContact_pointers (n : ContactNo) (c : Option Contact) (s : State) :
    (setContact n c s).pointers = s.pointers := rfl
@[simp] theorem setContact_busRaw (n : ContactNo) (c : Option Contact) (s : State) :
    (setContact n c s).busRaw = s.busRaw := rfl
@[simp] theorem setContact_notices (n : ContactNo) (c : Option Contact) (s : State) :
    (setContact n c s).notices = s.notices := rfl
@[simp] theorem setContact_links (n : ContactNo) (c : Option Contact) (s : State) :
    (setContact n c s).links = s.links := rfl
@[simp] theorem setContact_kiosks (n : ContactNo) (c : Option Contact) (s : State) :
    (setContact n c s).kiosks = s.kiosks := rfl
@[simp] theorem setContact_freeDrawn (n : ContactNo) (c : Option Contact) (s : State) :
    (setContact n c s).freeDrawn = s.freeDrawn := rfl

@[simp] theorem place_pending (i : Slot) (p : Posting) (s : State) : (place i p s).pending = s.pending := rfl
@[simp] theorem place_hubTime (i : Slot) (p : Posting) (s : State) : (place i p s).hubTime = s.hubTime := rfl
@[simp] theorem place_phase (i : Slot) (p : Posting) (s : State) : (place i p s).phase = s.phase := rfl
@[simp] theorem place_resetLow (i : Slot) (p : Posting) (s : State) : (place i p s).resetLow = s.resetLow := rfl
@[simp] theorem place_powerOnHold (i : Slot) (p : Posting) (s : State) :
    (place i p s).powerOnHold = s.powerOnHold := rfl
@[simp] theorem place_attnLine (i : Slot) (p : Posting) (s : State) : (place i p s).attnLine = s.attnLine := rfl
@[simp] theorem place_zones (i : Slot) (p : Posting) (s : State) : (place i p s).zones = s.zones := rfl
@[simp] theorem place_contacts (i : Slot) (p : Posting) (s : State) : (place i p s).contacts = s.contacts := rfl
@[simp] theorem place_ignored (i : Slot) (p : Posting) (s : State) : (place i p s).ignored = s.ignored := rfl
@[simp] theorem place_panels (i : Slot) (p : Posting) (s : State) : (place i p s).panels = s.panels := rfl
@[simp] theorem place_claims (i : Slot) (p : Posting) (s : State) : (place i p s).claims = s.claims := rfl
@[simp] theorem place_waits (i : Slot) (p : Posting) (s : State) : (place i p s).waits = s.waits := rfl
@[simp] theorem place_nextClaim (i : Slot) (p : Posting) (s : State) : (place i p s).nextClaim = s.nextClaim := rfl
@[simp] theorem place_spool (i : Slot) (p : Posting) (s : State) : (place i p s).spool = s.spool := rfl
@[simp] theorem place_free (i : Slot) (p : Posting) (s : State) : (place i p s).free = s.free := rfl
@[simp] theorem place_jobs (i : Slot) (p : Posting) (s : State) : (place i p s).jobs = s.jobs := rfl
@[simp] theorem place_terminal (i : Slot) (p : Posting) (s : State) : (place i p s).terminal = s.terminal := rfl
@[simp] theorem place_printQueue (i : Slot) (p : Posting) (s : State) : (place i p s).printQueue = s.printQueue := rfl
@[simp] theorem place_nextJob (i : Slot) (p : Posting) (s : State) : (place i p s).nextJob = s.nextJob := rfl
@[simp] theorem place_kioskSpool (i : Slot) (p : Posting) (s : State) : (place i p s).kioskSpool = s.kioskSpool := rfl
@[simp] theorem place_fillLimit (i : Slot) (p : Posting) (s : State) : (place i p s).fillLimit = s.fillLimit := rfl
@[simp] theorem place_feeds (i : Slot) (p : Posting) (s : State) : (place i p s).feeds = s.feeds := rfl
@[simp] theorem place_scans (i : Slot) (p : Posting) (s : State) : (place i p s).scans = s.scans := rfl
@[simp] theorem place_units (i : Slot) (p : Posting) (s : State) : (place i p s).units = s.units := rfl
@[simp] theorem place_attn (i : Slot) (p : Posting) (s : State) : (place i p s).attn = s.attn := rfl
@[simp] theorem place_bus (i : Slot) (p : Posting) (s : State) : (place i p s).bus = s.bus := rfl
@[simp] theorem place_board (i : Slot) (p : Posting) (s : State) :
    (place i p s).board = upd s.board i fun _ => some p := rfl
@[simp] theorem place_servicePlace (i : Slot) (p : Posting) (s : State) :
    (place i p s).servicePlace = s.servicePlace := rfl
@[simp] theorem place_pointers (i : Slot) (p : Posting) (s : State) : (place i p s).pointers = s.pointers := rfl
@[simp] theorem place_busRaw (i : Slot) (p : Posting) (s : State) : (place i p s).busRaw = s.busRaw := rfl
@[simp] theorem place_notices (i : Slot) (p : Posting) (s : State) : (place i p s).notices = s.notices := rfl
@[simp] theorem place_links (i : Slot) (p : Posting) (s : State) : (place i p s).links = s.links := rfl
@[simp] theorem place_kiosks (i : Slot) (p : Posting) (s : State) : (place i p s).kiosks = s.kiosks := rfl
@[simp] theorem place_freeDrawn (i : Slot) (p : Posting) (s : State) : (place i p s).freeDrawn = s.freeDrawn := rfl

@[simp] theorem withdraw_pending (i : Slot) (s : State) : (withdraw i s).pending = s.pending := rfl
@[simp] theorem withdraw_hubTime (i : Slot) (s : State) : (withdraw i s).hubTime = s.hubTime := rfl
@[simp] theorem withdraw_phase (i : Slot) (s : State) : (withdraw i s).phase = s.phase := rfl
@[simp] theorem withdraw_resetLow (i : Slot) (s : State) : (withdraw i s).resetLow = s.resetLow := rfl
@[simp] theorem withdraw_powerOnHold (i : Slot) (s : State) : (withdraw i s).powerOnHold = s.powerOnHold := rfl
@[simp] theorem withdraw_attnLine (i : Slot) (s : State) : (withdraw i s).attnLine = s.attnLine := rfl
@[simp] theorem withdraw_zones (i : Slot) (s : State) : (withdraw i s).zones = s.zones := rfl
@[simp] theorem withdraw_contacts (i : Slot) (s : State) : (withdraw i s).contacts = s.contacts := rfl
@[simp] theorem withdraw_ignored (i : Slot) (s : State) : (withdraw i s).ignored = s.ignored := rfl
@[simp] theorem withdraw_panels (i : Slot) (s : State) : (withdraw i s).panels = s.panels := rfl
@[simp] theorem withdraw_claims (i : Slot) (s : State) : (withdraw i s).claims = s.claims := rfl
@[simp] theorem withdraw_waits (i : Slot) (s : State) : (withdraw i s).waits = s.waits := rfl
@[simp] theorem withdraw_nextClaim (i : Slot) (s : State) : (withdraw i s).nextClaim = s.nextClaim := rfl
@[simp] theorem withdraw_spool (i : Slot) (s : State) : (withdraw i s).spool = s.spool := rfl
@[simp] theorem withdraw_free (i : Slot) (s : State) : (withdraw i s).free = s.free := rfl
@[simp] theorem withdraw_jobs (i : Slot) (s : State) : (withdraw i s).jobs = s.jobs := rfl
@[simp] theorem withdraw_terminal (i : Slot) (s : State) : (withdraw i s).terminal = s.terminal := rfl
@[simp] theorem withdraw_printQueue (i : Slot) (s : State) : (withdraw i s).printQueue = s.printQueue := rfl
@[simp] theorem withdraw_nextJob (i : Slot) (s : State) : (withdraw i s).nextJob = s.nextJob := rfl
@[simp] theorem withdraw_kioskSpool (i : Slot) (s : State) : (withdraw i s).kioskSpool = s.kioskSpool := rfl
@[simp] theorem withdraw_fillLimit (i : Slot) (s : State) : (withdraw i s).fillLimit = s.fillLimit := rfl
@[simp] theorem withdraw_feeds (i : Slot) (s : State) : (withdraw i s).feeds = s.feeds := rfl
@[simp] theorem withdraw_scans (i : Slot) (s : State) : (withdraw i s).scans = s.scans := rfl
@[simp] theorem withdraw_units (i : Slot) (s : State) : (withdraw i s).units = s.units := rfl
@[simp] theorem withdraw_attn (i : Slot) (s : State) : (withdraw i s).attn = s.attn := rfl
@[simp] theorem withdraw_bus (i : Slot) (s : State) : (withdraw i s).bus = s.bus := rfl
@[simp] theorem withdraw_board (i : Slot) (s : State) : (withdraw i s).board = upd s.board i fun _ => none := rfl
@[simp] theorem withdraw_servicePlace (i : Slot) (s : State) : (withdraw i s).servicePlace = s.servicePlace := rfl
@[simp] theorem withdraw_pointers (i : Slot) (s : State) : (withdraw i s).pointers = s.pointers := rfl
@[simp] theorem withdraw_busRaw (i : Slot) (s : State) : (withdraw i s).busRaw = s.busRaw := rfl
@[simp] theorem withdraw_notices (i : Slot) (s : State) : (withdraw i s).notices = s.notices := rfl
@[simp] theorem withdraw_links (i : Slot) (s : State) : (withdraw i s).links = s.links := rfl
@[simp] theorem withdraw_kiosks (i : Slot) (s : State) : (withdraw i s).kiosks = s.kiosks := rfl
@[simp] theorem withdraw_freeDrawn (i : Slot) (s : State) : (withdraw i s).freeDrawn = s.freeDrawn := rfl

end Sys2Proof.Machine
end

