-- ==== Sys2Proof/Laws/Memory.lean ====
section
/-!
SUPPORT. The spool memory (R72): every write keeps the canonical form; a read after a write gives the byte written, and
every other byte is as before; the memory after a reset has the form.
-/

namespace Sys2Proof.Machine

/-- The canonical form, said entry by entry. -/
theorem Memory.wf_cons {c : Host.Cell} {m : List Host.Cell} :
    Memory.wf (c :: m) = true ↔ (∀ d ∈ m, c.1 < d.1) ∧ c.2 ≠ Memory.unlisted ∧ Memory.wf m = true := by
  simp only [Memory.wf, List.pairwise_cons, Bool.and_eq_true, decide_eq_true_eq, List.all_cons, bne_iff_ne]
  tauto

/-- A write lists no address but its own and those listed before. -/
theorem Memory.mem_write {m : List Host.Cell} {a : Nat} {v : Byte} {c : Host.Cell} (h : c ∈ Memory.write m a v) :
    c = (a, v) ∨ c ∈ m := by
  induction m with
  | nil => unfold Memory.write at h; split at h <;> simp_all
  | cons d m ih =>
    obtain ⟨b, w⟩ := d
    unfold Memory.write at h
    split at h
    · split at h <;> simp_all
    · split at h
      · split at h <;> simp_all
        tauto
      · rcases List.mem_cons.mp h with e | e
        · exact .inr (by simp [e])
        · rcases ih e with e | e
          · exact .inl e
          · exact .inr (List.mem_cons_of_mem _ e)

/-- Every write keeps the canonical form. -/
theorem Memory.wf_write {m : List Host.Cell} (a : Nat) (v : Byte) (h : Memory.wf m = true) :
    Memory.wf (Memory.write m a v) = true := by
  induction m with
  | nil =>
    unfold Memory.write
    split
    · rfl
    · exact Memory.wf_cons.mpr ⟨by simp, ‹_›, rfl⟩
  | cons d m ih =>
    obtain ⟨b, w⟩ := d
    obtain ⟨hb, hw, hm⟩ := Memory.wf_cons.mp h
    unfold Memory.write
    split
    · next hab =>
      split
      · exact h
      · refine Memory.wf_cons.mpr ⟨?_, ‹_›, h⟩
        intro d hd
        rcases List.mem_cons.mp hd with e | e
        · subst e; exact hab
        · exact Nat.lt_trans hab (hb d e)
    · split
      · next hab =>
        subst hab
        split
        · exact hm
        · exact Memory.wf_cons.mpr ⟨hb, ‹_›, hm⟩
      · refine Memory.wf_cons.mpr ⟨?_, hw, ih hm⟩
        intro d hd
        rcases Memory.mem_write hd with e | e
        · subst e; show b < a; omega
        · exact hb d e

/-- An address above which nothing is listed below reads as unlisted. -/
theorem Memory.read_absent {m : List Host.Cell} {a : Nat} (h : ∀ d ∈ m, a < d.1) : Memory.read m a = Memory.unlisted := by
  induction m with
  | nil => rfl
  | cons d m ih =>
    obtain ⟨b, w⟩ := d
    have hb := h (b, w) List.mem_cons_self
    unfold Memory.read
    rw [if_neg (by simp at hb; omega)]
    exact ih fun d hd => h d (List.mem_cons_of_mem _ hd)

/-- A read after a write to the same address gives the byte written. -/
theorem Memory.read_write_self {m : List Host.Cell} (a : Nat) (v : Byte) (h : Memory.wf m = true) :
    Memory.read (Memory.write m a v) a = v := by
  induction m with
  | nil =>
    unfold Memory.write
    split
    · next e => simp [Memory.read, e]
    · simp [Memory.read]
  | cons d m ih =>
    obtain ⟨b, w⟩ := d
    obtain ⟨hb, hw, hm⟩ := Memory.wf_cons.mp h
    unfold Memory.write
    split
    · next hab =>
      split
      · next e =>
        rw [e]
        refine Memory.read_absent ?_
        intro d hd
        rcases List.mem_cons.mp hd with e | e
        · subst e; exact hab
        · exact Nat.lt_trans hab (hb d e)
      · simp [Memory.read]
    · split
      · next hab =>
        subst hab
        split
        · next e => rw [e]; exact Memory.read_absent hb
        · simp [Memory.read]
      · next hab => simp only [Memory.read, if_neg hab]; exact ih hm

/-- A write leaves every other byte as it was. -/
theorem Memory.read_write_ne {m : List Host.Cell} {a b : Nat} (v : Byte) (h : b ≠ a) :
    Memory.read (Memory.write m a v) b = Memory.read m b := by
  induction m with
  | nil => unfold Memory.write; split <;> simp [Memory.read, h]
  | cons d m ih =>
    obtain ⟨x, w⟩ := d
    unfold Memory.write
    split
    · split
      · rfl
      · simp [Memory.read, h]
    · split
      · next hab =>
        subst hab
        split <;> simp [Memory.read, h]
      · simp only [Memory.read]; split
        · rfl
        · exact ih

/-- The memory after a reset is in canonical form. -/
theorem Memory.wf_reset : Memory.wf State.reset.spool = true := rfl

/-- Writing one accepted byte keeps the canonical form (R83). -/
theorem writeByte_wf {w : Writing} (b : Byte) (h : Memory.wf w.spool = true) : Memory.wf (writeByte w b).spool = true := by
  unfold writeByte
  split
  · exact Memory.wf_write _ _ h
  · split
    · exact h
    · exact Memory.wf_write _ _ h

/-- Writing the accepted bytes of a job keeps the canonical form (R83). -/
theorem writeBytes_wf (s : State) (j : Job) (bytes : List Byte) (h : Memory.wf s.spool = true) :
    Memory.wf (writeBytes s j bytes).spool = true := by
  unfold writeBytes
  generalize hw : (Writing.mk s.spool s.free j.chain j.fill) = w
  have hw' : Memory.wf w.spool = true := by rw [← hw]; exact h
  clear hw
  induction bytes generalizing w with
  | nil => exact hw'
  | cons b bs ih => exact ih (writeByte w b) (writeByte_wf b hw')

end Sys2Proof.Machine
end

