-- ==== Sys2Proof/Laws/Frames.lean ====
section
/-!
SUPPORT. What each shared operation can change: one frame lemma per operation, saying that every field of the state but
those its mask blanks is as before. A field is read off a frame lemma by `congrArg`, as in `(congrArg State.zones h :)`.
-/

namespace Sys2Proof.Machine

/-! ### Masks -/

/-- The state with every field taken from a fixed one that latching a notice may change. -/
def offNotices (base s : State) : State := { s with notices := base.notices }

/-- The same for handing on a touch event or discarding scan frames. -/
def offKiosks (base s : State) : State := { s with kiosks := base.kiosks }

/-- The same for muting. -/
def offMuted (base s : State) : State := { s with contacts := base.contacts, kiosks := base.kiosks }

/-- The same for the Contact Tracker. -/
def offTouch (base s : State) : State :=
  { s with contacts := base.contacts, kiosks := base.kiosks, ignored := base.ignored
           panels := base.panels }

/-- The same for freeing blocks. -/
def offRoom (base s : State) : State :=
  { s with free := base.free, kioskSpool := base.kioskSpool, notices := base.notices }

/-- The same for the Spooler's endings and reports. -/
def offJobs (base s : State) : State :=
  { s with jobs := base.jobs, printQueue := base.printQueue, free := base.free
           kioskSpool := base.kioskSpool, terminal := base.terminal, notices := base.notices }

/-- The same for the Feed Engines. -/
def offFeed (base s : State) : State := { offJobs base s with feeds := base.feeds }

/-- The same for the Scan Engines. -/
def offScan (base s : State) : State :=
  { s with scans := base.scans, kiosks := base.kiosks, notices := base.notices }

/-- The same for every engine. -/
def offEngines (base s : State) : State := offTouch base (offScan base (offFeed base s))

/-- The same for the Claim Manager. -/
def offClaims (base s : State) : State :=
  { offScan base (offMuted base s) with claims := base.claims, waits := base.waits }

/-- The same for the Zone Map. -/
def offZones (base s : State) : State := { offClaims base s with zones := base.zones }

/-- The same for a posting. -/
def offBoard (base s : State) : State := { s with board := base.board }

/-- The same for an engine's choice of work. -/
def offWork (base s : State) : State :=
  { s with board := base.board, feeds := base.feeds, scans := base.scans
           panels := base.panels, jobs := base.jobs }

/-- The same for the attention latches. -/
def offAttn (base s : State) : State := { s with attn := base.attn }

/-- The same for a grant. -/
def offGrant (base s : State) : State :=
  { s with board := base.board, servicePlace := base.servicePlace, pointers := base.pointers
           bus := base.bus, attn := base.attn }

/-- The same for the end of an event at the unit bus. -/
def offBus (base s : State) : State := offWork base (offGrant base s)

/-- The same for the transmitters. -/
def offLinks (base s : State) : State :=
  { s with links := base.links, kiosks := base.kiosks, notices := base.notices }

/-- The same for the end of an event. -/
def offSettle (base s : State) : State := offLinks base (offBus base s)

/-- A frame under a mask holds under every mask that blanks more. -/
theorem frame_of {m n : State → State} (h : ∀ s, m (n s) = m s) {t s : State} (e : n t = n s) : m t = m s := by
  rw [← h t, e, h]

/-- A frame of each step of a loop is a frame of the loop. -/
theorem forEach_frame {α : Type} (m : State → State) {f : α → State → State} (h : ∀ a s, m (f a s) = m s) (l : List α)
    (s : State) : m (forEach l f s) = m s := by
  unfold forEach
  induction l generalizing s with
  | nil => rfl
  | cons a l ih => exact (ih (f a s)).trans (h a s)

/-! ### Notices, touch events and muting -/

theorem latch_frame (base : State) (k : Kiosk) (c : NoticeClass) (s : State) :
    offNotices base (latch k c s) = offNotices base s := rfl

theorem latchOpt_frame (base : State) (k : Option Kiosk) (c : NoticeClass) (s : State) :
    offNotices base (latch? k c s) = offNotices base s := by
  cases k <;> rfl

theorem latchAll_frame (base : State) (c : NoticeClass) (s : State) :
    offNotices base (latchAll c s) = offNotices base s :=
  forEach_frame (offNotices base) (fun k => latch_frame base k c) _ s

theorem deliver_frame (base : State) (k : Kiosk) (e : TouchEvent) (s : State) :
    offKiosks base (deliver k e s) = offKiosks base s := rfl

theorem produce_frame (base : State) (n : ContactNo) (c : Contact) (ph : Phase) (p : Produced) (t : Time) (s : State) :
    offKiosks base (produce n c ph p t s) = offKiosks base s := by
  unfold produce
  split <;> rfl

theorem produceCancel_frame (base : State) (n : ContactNo) (c : Contact) (s : State) :
    offKiosks base (produceCancel n c s) = offKiosks base s := by
  unfold produceCancel
  split
  · rfl
  · exact produce_frame base ..

theorem muteEntry_frame (base : State) (fits : Contact → Bool) (cancel : Bool) (n : ContactNo) (s : State) :
    offMuted base (muteEntry fits cancel n s) = offMuted base s := by
  unfold muteEntry
  split
  · rfl
  · next c _ =>
    dsimp only
    split
    · split
      · have h := produceCancel_frame base n c (setContact n (some { c with live := false }) s)
        exact (frame_of (m := offMuted base) (n := offKiosks base) (fun _ => rfl) h).trans rfl
      · rfl
    · rfl

theorem muteContacts_frame (base : State) (fits : Contact → Bool) (cancel : Bool) (s : State) :
    offMuted base (muteContacts fits cancel s) = offMuted base s :=
  forEach_frame (offMuted base) (muteEntry_frame base fits cancel) _ s

theorem ownerChange_frame (base : State) (r : Resource) (cancel : Bool) (s : State) :
    offMuted base (ownerChange r cancel s) = offMuted base s := by
  cases r with
  | scanner i => rfl
  | zone z => exact muteContacts_frame base (fun c => decide (c.zone = some z)) cancel s

theorem freeOfPanel_frame (base : State) (i : Slot) (n : ContactNo) (s : State) :
    offMuted base (freeOfPanel i n s) = offMuted base s := by
  unfold freeOfPanel
  split
  · rfl
  · next c _ =>
    dsimp only
    split
    · split
      · have h := produceCancel_frame base n c (setContact n none s)
        exact (frame_of (m := offMuted base) (n := offKiosks base) (fun _ => rfl) h).trans rfl
      · rfl
    · rfl

theorem panelGone_frame (base : State) (i : Slot) (s : State) : offTouch base (panelGone i s) = offTouch base s :=
  by
  have h := forEach_frame (offMuted base) (freeOfPanel_frame base i) (indices 40) s
  unfold panelGone
  dsimp only
  generalize forEach (indices 40) (freeOfPanel i) s = t at h ⊢
  exact (frame_of (m := offTouch base) (n := offMuted base) (fun _ => rfl) h).trans rfl

/-! ### Contact records -/

theorem captureContact_frame (base : State) (i : Slot) (id : RawId) (x y : Nat) (t : Time) (s : State) :
    offTouch base (captureContact i id x y t s) = offTouch base s := by
  unfold captureContact
  dsimp only
  split
  · rfl
  · split
    · exact (frame_of (m := offTouch base) (n := offKiosks base) (fun _ => rfl) (produce_frame base ..)).trans rfl
    · rfl

theorem contactDown_frame (base : State) (i : Slot) (id : RawId) (x y : Nat) (t : Time) (s : State) :
    offTouch base (contactDown i id x y t s) = offTouch base s := by
  unfold contactDown
  split
  · exact captureContact_frame base ..
  · split
    · exact captureContact_frame base ..
    · refine (captureContact_frame base ..).trans ?_
      split
      · exact (frame_of (m := offTouch base) (n := offKiosks base) (fun _ => rfl) (produceCancel_frame base ..)).trans rfl
      · rfl

theorem contactMove_frame (base : State) (i : Slot) (id : RawId) (x y : Nat) (t : Time) (s : State) :
    offTouch base (contactMove i id x y t s) = offTouch base s := by
  unfold contactMove
  split
  · split
    · rfl
    · exact captureContact_frame base ..
  · split
    · rfl
    · unfold contactMoveEntry
      split
      · dsimp only
        split
        · exact (frame_of (m := offTouch base) (n := offKiosks base) (fun _ => rfl) (produce_frame base ..)).trans rfl
        · rfl
      · rfl

theorem contactUp_frame (base : State) (i : Slot) (id : RawId) (x y : Nat) (t : Time) (s : State) :
    offTouch base (contactUp i id x y t s) = offTouch base s := by
  unfold contactUp
  split
  · rfl
  · split
    · rfl
    · dsimp only
      split
      · exact (frame_of (m := offTouch base) (n := offKiosks base) (fun _ => rfl) (produce_frame base ..)).trans rfl
      · rfl

theorem processRecord_frame (base : State) (i : Slot) (t : Time) (r : ContactRecord) (s : State) :
    offTouch base (processRecord i t r s) = offTouch base s := by
  unfold processRecord
  split
  · rfl
  · split
    · rfl
    · split
      · exact contactDown_frame base ..
      · exact contactMove_frame base ..
      · exact contactUp_frame base ..
      · rfl

theorem processContacts_frame (base : State) (i : Slot) (d : List Byte) (s : State) :
    offTouch base (processContacts i d s) = offTouch base s := by
  have h := forEach_frame (offTouch base) (processRecord_frame base i ((s.panels[i].readCapture).getD 0)) (contactRecords d)
    (modPanel i (fun e => { e with readWanted := false, readCapture := none }) s)
  unfold processContacts
  dsimp only at h ⊢
  generalize forEach (contactRecords d) (processRecord i ((s.panels[i].readCapture).getD 0))
    (modPanel i (fun e => { e with readWanted := false, readCapture := none }) s) = t at h ⊢
  split
  · split
    · exact (frame_of (m := offTouch base) (n := offTouch base) (fun _ => rfl) h).trans rfl
    · exact h
  · rfl

theorem panelAct_frame (base : State) (i : Slot) (o : BusOutcome) (d : List Byte) (s : State) :
    offTouch base (panelAct i o d s) = offTouch base s := by
  unfold panelAct
  dsimp only
  split
  · exact processContacts_frame base ..
  · rfl

theorem panelCause_frame (base : State) (i : Slot) (b : Byte) (t : Time) (s : State) :
    offTouch base (panelCause i b t s) = offTouch base s := by
  unfold panelCause
  dsimp only
  generalize ht : (if (panelCauses b).fault = true then mutePanel i s else s) = u
  have h : offTouch base u = offTouch base s := by
    rw [← ht]
    split
    · exact (frame_of (m := offTouch base) (n := offMuted base) (fun _ => rfl) (muteContacts_frame base ..)).trans rfl
    · rfl
  split
  · exact (frame_of (m := offTouch base) (n := offTouch base) (fun _ => rfl) h).trans rfl
  · exact h

/-! ### The Spooler -/

theorem wantRoomTest_frame (base : State) (k : Kiosk) (s : State) :
    offRoom base (wantRoomTest k s) = offRoom base s := by
  unfold wantRoomTest
  dsimp only
  split <;> rfl

theorem freeBlocks_frame (base : State) (k : Kiosk) (l : List Nat) (s : State) :
    offRoom base (freeBlocks k l s) = offRoom base s := by
  unfold freeBlocks
  exact forEach_frame (offRoom base) (wantRoomTest_frame base) _ _

theorem endJob_frame (base : State) (id : Nat) (st : JobState) (p : Option Half) (c : Option JobCause) (s : State) :
    offJobs base (endJob id st p c s) = offJobs base s := by
  unfold endJob
  split
  · rfl
  · dsimp only
    generalize hv : freeBlocks _ _ _ = v
    have h : offJobs base v = offJobs base s :=
      hv ▸ (frame_of (m := offJobs base) (n := offRoom base) (fun _ => rfl) (freeBlocks_frame base ..)).trans rfl
    split <;> exact Eq.trans (by rfl) h

theorem failJob_frame (base : State) (id : Nat) (c : JobCause) (s : State) :
    offJobs base (failJob id c s) = offJobs base s := endJob_frame base ..

theorem endCancelling_frame (base : State) (j : Job) (s : State) :
    offJobs base (endCancelling j s) = offJobs base s := by
  unfold endCancelling
  split <;> exact endJob_frame base ..

theorem reportFed_frame (base : State) (i : Slot) (s : State) : offJobs base (reportFed i s) = offJobs base s := by
  unfold reportFed
  split
  · rfl
  · split
    · exact (frame_of (m := offJobs base) (n := offRoom base) (fun _ => rfl) (freeBlocks_frame base ..)).trans rfl
    · rfl

theorem reportEndMark_frame (base : State) (i : Slot) (s : State) :
    offJobs base (reportEndMark i s) = offJobs base s := by
  unfold reportEndMark
  split
  · rfl
  · split <;> rfl

theorem reportJobEnd_frame (base : State) (i : Slot) (p : Half) (s : State) :
    offJobs base (reportJobEnd i p s) = offJobs base s := by
  unfold reportJobEnd
  split
  · rfl
  · split
    · exact endJob_frame base ..
    · rfl

theorem reportAborted_frame (base : State) (i : Slot) (s : State) :
    offJobs base (reportAborted i s) = offJobs base s := by
  unfold reportAborted
  split
  · rfl
  · split
    · exact failJob_frame base ..
    · exact failJob_frame base ..
    · rfl

theorem reportAbortEnded_frame (base : State) (i : Slot) (s : State) :
    offJobs base (reportAbortEnded i s) = offJobs base s := by
  unfold reportAbortEnded
  split
  · rfl
  · split
    · exact endCancelling_frame base ..
    · rfl

theorem reportGone_frame (base : State) (i : Slot) (c : JobCause) (s : State) :
    offJobs base (reportGone i c s) = offJobs base s := by
  unfold reportGone
  split
  · rfl
  · split
    · exact failJob_frame base ..
    · exact failJob_frame base ..
    · exact endCancelling_frame base ..
    · rfl

theorem reportLeft_frame (base : State) (id : Nat) (s : State) : offJobs base (reportLeft id s) = offJobs base s := by
  unfold reportLeft
  split
  · rfl
  · split
    · exact failJob_frame base ..
    · exact failJob_frame base ..
    · rfl

theorem moveAnyJob_frame (base : State) (i : Slot) (id : Nat) (s : State) :
    offJobs base (moveAnyJob i id s) = offJobs base s := by
  unfold moveAnyJob
  split
  · rfl
  · split
    · split <;> rfl
    · rfl

theorem cancelJob_frame (base : State) (j : Job) (s : State) : offFeed base (cancelJob j s) = offFeed base s := by
  unfold cancelJob
  split
  · exact (frame_of (m := offFeed base) (n := offJobs base) (fun _ => rfl) (endJob_frame base ..)).trans rfl
  · exact (frame_of (m := offFeed base) (n := offJobs base) (fun _ => rfl) (endJob_frame base ..)).trans rfl
  · rfl
  · rfl
  · rfl

theorem stallJob_frame (base : State) (j : Job) (s : State) : offFeed base (stallJob j s) = offFeed base s := by
  unfold stallJob
  split
  · exact (frame_of (m := offFeed base) (n := offJobs base) (fun _ => rfl) (failJob_frame base ..)).trans rfl
  · rfl
  · rfl

theorem clearJobs_frame (base : State) (k : Kiosk) (s : State) : offFeed base (clearJobs k s) = offFeed base s :=
  (forEach_frame (offFeed base) (cancelJob_frame base) _ _).trans rfl

/-! ### The Feed Engines -/

theorem feedAct_frame (base : State) (i : Slot) (w : TxnName) (o : BusOutcome) (d : List Byte) (s : State) :
    offFeed base (feedAct i w o d s) = offFeed base s := by
  have lift : ∀ {t u : State}, offJobs base t = offJobs base u → offFeed base t = offFeed base u := fun h =>
    frame_of (m := offFeed base) (n := offJobs base) (fun _ => rfl) h
  unfold feedAct
  dsimp only
  split
  · unfold actMarkStart; split
    · split <;> rfl
    · rfl
  · unfold actCredit; split <;> rfl
  · unfold actFeed; split
    · exact (lift (reportFed_frame base i (feedEnded i s))).trans rfl
    · rfl
    · rfl
    · rfl
  · unfold actMarkEnd; split
    · split
      · exact (lift (reportEndMark_frame base i (feedEnded i s))).trans rfl
      · rfl
      · rfl
    · rfl
  · unfold actPstate; split
    · exact (lift (reportJobEnd_frame base i (halfAt d 1) (feedEnded i s))).trans rfl
    · rfl
  · unfold actMarkAbort; split
    · exact (lift (reportAbortEnded_frame base i (feedEnded i s))).trans rfl
    · rfl
  · rfl

theorem causeAborted_frame (base : State) (i : Slot) (s : State) :
    offFeed base (causeAborted i s) = offFeed base s := by
  unfold causeAborted
  split
  · exact (frame_of (m := offFeed base) (n := offJobs base) (fun _ => rfl) (reportAborted_frame base i s)).trans rfl
  · rfl

theorem causeJobEnd_frame (base : State) (i : Slot) (s : State) : offFeed base (causeJobEnd i s) = offFeed base s := by
  unfold causeJobEnd
  split
  · rfl
  · exact (frame_of (m := offFeed base) (n := offJobs base) (fun _ => rfl) (reportEndMark_frame base i s)).trans rfl
  · rfl

theorem causePause_frame (base : State) (i : Slot) (c : PrinterCauses) (s : State) :
    offFeed base (causePause i c s) = offFeed base s := by
  unfold causePause
  split
  · rfl
  · dsimp only
    split
    · exact (frame_of (m := offFeed base) (n := offNotices base) (fun _ => rfl) (latchOpt_frame base ..)).trans rfl
    · rfl

theorem causeCleared_frame (base : State) (i : Slot) (s : State) :
    offFeed base (causeCleared i s) = offFeed base s := by
  unfold causeCleared
  split
  · dsimp only
    split
    · exact (frame_of (m := offFeed base) (n := offNotices base) (fun _ => rfl) (latchOpt_frame base ..)).trans rfl
    · rfl
  · rfl

theorem printerCause_frame (base : State) (i : Slot) (b : Byte) (s : State) :
    offFeed base (printerCause i b s) = offFeed base s := by
  have ite_frame : ∀ (p : Bool) (f : State → State), (∀ t, offFeed base (f t) = offFeed base t) → ∀ t,
      offFeed base (if p then f t else t) = offFeed base t := by
    intro p f h t
    cases p
    · rfl
    · exact h t
  unfold printerCause
  refine (ite_frame _ (causeCleared i) (causeCleared_frame base i) _).trans ((causePause_frame base ..).trans ?_)
  refine (ite_frame _ (causeJobEnd i) (causeJobEnd_frame base i) _).trans ?_
  exact (ite_frame _ (causeAborted i) (causeAborted_frame base i) _).trans rfl

theorem printerGone_frame (base : State) (i : Slot) (c : JobCause) (s : State) :
    offFeed base (printerGone i c s) = offFeed base s := by
  have h := (forEach_frame (offJobs base) (moveAnyJob_frame base i) ((reportGone i c s).printQueue[i]) (reportGone i c s)).trans
    (reportGone_frame base i c s)
  exact (frame_of (m := offFeed base) (n := offJobs base) (fun _ => rfl) h).trans rfl

theorem printerRemoved_frame (base : State) (i : Slot) (s : State) :
    offFeed base (printerRemoved i s) = offFeed base s :=
  (frame_of (m := offFeed base) (n := offJobs base) (fun _ => rfl) (forEach_frame (offJobs base) (reportLeft_frame base) _ _)).trans
    (printerGone_frame base i .unitRemoved s)

/-! ### The Scan Engines -/

theorem discardFrames_frame (base : State) (k : Option Kiosk) (i : Slot) (s : State) :
    offKiosks base (discardFrames k i s) = offKiosks base s := by
  cases k <;> rfl

theorem scanClaimEnd_frame (base : State) (i : Slot) (lapse : Bool) (s : State) :
    offScan base (scanClaimEnd i lapse s) = offScan base s := by
  unfold scanClaimEnd
  dsimp only
  split
  · split
    · exact (frame_of (m := offScan base) (n := offNotices base) (fun _ => rfl) (latchOpt_frame base ..)).trans rfl
    · rfl
  · split
    · exact (frame_of (m := offScan base) (n := offNotices base) (fun _ => rfl) (latchOpt_frame base ..)).trans rfl
    · rfl

theorem setupFailed_frame (base : State) (i : Slot) (s : State) : offScan base (setupFailed i s) = offScan base s :=
  (frame_of (m := offScan base) (n := offNotices base) (fun _ => rfl) (latchOpt_frame base ..)).trans rfl

theorem scanDone_frame (base : State) (i : Slot) (s : State) : offScan base (scanDone i s) = offScan base s :=
  (frame_of (m := offScan base) (n := offNotices base) (fun _ => rfl) (latchOpt_frame base ..)).trans rfl

theorem endHalt_frame (base : State) (i : Slot) (s : State) : offScan base (endHalt i s) = offScan base s :=
  (frame_of (m := offScan base) (n := offKiosks base) (fun _ => rfl) (discardFrames_frame base ..)).trans rfl

theorem scanAct_frame (base : State) (i : Slot) (w : TxnName) (o : BusOutcome) (d : List Byte) (s : State) :
    offScan base (scanAct i w o d s) = offScan base s := by
  have back : ∀ {t : State}, offScan base t = offScan base (scanEnded i s) → offScan base t = offScan base s := fun h => h
  unfold scanAct
  dsimp only
  split
  · refine back ?_
    unfold actSset; split
    · split
      · rfl
      · exact setupFailed_frame base ..
    · rfl
  · refine back ?_
    unfold actSgo; split
    · split
      · rfl
      · exact setupFailed_frame base ..
    · rfl
  · refine back ?_
    unfold actAvail; split
    · dsimp only
      split
      · exact scanDone_frame base ..
      · rfl
    · rfl
  · refine back ?_
    unfold actPull; dsimp only; split
    · split
      · cases ((scanEnded i s).scans[i]).kiosk <;> rfl
      · rfl
      · rfl
    · rfl
  · refine back ?_
    unfold actSstate; split <;> rfl
  · refine back ?_
    unfold actShalt; split
    · exact endHalt_frame base ..
    · rfl
  · rfl

theorem scannerCause_frame (base : State) (i : Slot) (b : Byte) (s : State) :
    offScan base (scannerCause i b s) = offScan base s := by
  unfold scannerCause
  dsimp only
  generalize ht : (if (scannerCauses b).fault && (s.scans[i]).state.active then
    latch? (s.scans[i]).kiosk .scanFailed (haltScan i .unitFault s) else s) = t
  have h1 : offScan base t = offScan base s := by
    rw [← ht]
    split
    · exact (frame_of (m := offScan base) (n := offNotices base) (fun _ => rfl) (latchOpt_frame base ..)).trans rfl
    · rfl
  generalize hu : (if (scannerCauses b).data && (t.scans[i]).state.active then
    modScan i (fun r => { r with availWanted := true }) t else t) = u
  have h2 : offScan base u = offScan base t := by
    rw [← hu]
    split <;> rfl
  split
  · exact h2.trans h1
  · exact h2.trans h1

theorem scannerGone_frame (base : State) (i : Slot) (s : State) : offScan base (scannerGone i s) = offScan base s := by
  have h : ∀ (k : Option Kiosk) (f : ScanRecord → ScanRecord), offScan base (modScan i f (discardFrames k i s)) = offScan base s :=
    fun k f => (frame_of (m := offScan base) (n := offKiosks base) (fun _ => rfl) (discardFrames_frame base k i s)).trans rfl
  unfold scannerGone
  dsimp only
  split
  · exact (frame_of (m := offScan base) (n := offNotices base) (fun _ => rfl) (latchOpt_frame base ..)).trans (h ..)
  · split
    · exact h ..
    · rfl

/-! ### Claims and zones -/

theorem grantHead_frame (base : State) (r : Resource) (s : State) :
    offClaims base (grantHead r s) = offClaims base s := by
  unfold grantHead
  split
  · rfl
  · split
    · rfl
    · exact (frame_of (m := offClaims base) (n := offMuted base) (fun _ => rfl) (ownerChange_frame base ..)).trans rfl

theorem tellScan_frame (base : State) (c : Claim) (lapse : Bool) (s : State) :
    offScan base (tellScan c lapse s) = offScan base s := by
  unfold tellScan
  split
  · split
    · exact scanClaimEnd_frame base ..
    · rfl
  · rfl

theorem removeHeld_frame (base : State) (c : Claim) (why : Removal) (s : State) :
    offClaims base (removeHeld c why s) = offClaims base s := by
  have h : ∀ lapse, offClaims base (tellScan c lapse (ownerChange c.resource (decide (why ≠ .clearKiosk)) (dropClaim c.id s))) =
      offClaims base s := fun lapse =>
    (frame_of (m := offClaims base) (n := offScan base) (fun _ => rfl) (tellScan_frame base ..)).trans
      ((frame_of (m := offClaims base) (n := offMuted base) (fun _ => rfl)
        (ownerChange_frame base c.resource (decide (why ≠ .clearKiosk)) (dropClaim c.id s))).trans rfl)
  have l : ∀ k t, offClaims base (latch k .claimLost t) = offClaims base t := fun _ _ => rfl
  unfold removeHeld
  dsimp only
  cases why
  · exact (grantHead_frame base ..).trans (h false)
  · exact (grantHead_frame base ..).trans (h false)
  · exact (grantHead_frame base ..).trans ((l ..).trans (h true))
  · exact (l ..).trans (h false)

theorem removeWaiting_frame (base : State) (c : Claim) (lost : Bool) (s : State) :
    offClaims base (removeWaiting c lost s) = offClaims base s := by
  cases lost <;> rfl

theorem removeResource_frame (base : State) (r : Resource) (s : State) :
    offClaims base (removeResource r s) = offClaims base s := by
  unfold removeResource
  dsimp only
  generalize ht : ((holder? s r).elim s fun c => removeHeld c .resourceGone s) = t
  have h1 : offClaims base t = offClaims base s := by
    rw [← ht]
    cases holder? s r with
    | none => rfl
    | some c => exact removeHeld_frame base c .resourceGone s
  refine (forEach_frame (offClaims base) ?_ _ _).trans h1
  intro id u
  cases claim? u id with
  | none => rfl
  | some c => exact removeWaiting_frame base c true u

theorem clearClaims_frame (base : State) (k : Kiosk) (s : State) :
    offClaims base (clearClaims k s) = offClaims base s := by
  unfold clearClaims
  dsimp only
  refine (forEach_frame (offClaims base) ?_ _ _).trans (forEach_frame (offClaims base) ?_ _ _)
  · exact fun c t => removeHeld_frame base c .clearKiosk t
  · exact fun c t => removeWaiting_frame base c false t

theorem changeZone_frame (base : State) (z : ZoneIx) (e : Option Zone) (s : State) :
    offZones base (changeZone z e s) = offZones base s := by
  unfold changeZone
  dsimp only
  generalize ht : muteZone z true s = t
  have h1 : offZones base t = offZones base s := by
    rw [← ht]
    exact (frame_of (m := offZones base) (n := offMuted base) (fun _ => rfl) (muteContacts_frame base ..)).trans rfl
  generalize hu : (if Zone.isOpen s.zones[z] && !Zone.isOpen e then removeResource (.zone z) t else t) = u
  have h2 : offZones base u = offZones base t := by
    rw [← hu]
    split
    · exact (frame_of (m := offZones base) (n := offClaims base) (fun _ => rfl) (removeResource_frame base ..)).trans rfl
    · rfl
  refine Eq.trans ?_ (h2.trans h1)
  unfold zoneChanged
  dsimp only
  have l : ∀ k t, offZones base (latch? k .zoneChanged t) = offZones base t := fun k t =>
    (frame_of (m := offZones base) (n := offNotices base) (fun _ => rfl) (latchOpt_frame base k .zoneChanged t)).trans rfl
  split
  · exact (l ..).trans rfl
  · exact (l ..).trans ((l ..).trans rfl)

theorem applyZone_frame (base : State) (z : ZoneIx) (e : Zone) (s : State) :
    offZones base (applyZone z e s) = offZones base s := by
  unfold applyZone
  split
  · exact changeZone_frame base ..
  · split
    · rfl
    · exact changeZone_frame base ..

theorem applyRecord_frame (base : State) (r : ZoneRecord) (s : State) :
    offZones base (applyRecord r s) = offZones base s := by
  unfold applyRecord
  cases zoneOf r
  · rfl
  · exact applyZone_frame base ..

theorem clearZone_frame (base : State) (z : ZoneIx) (s : State) : offZones base (clearZone z s) = offZones base s := by
  unfold clearZone
  split
  · rfl
  · exact changeZone_frame base ..

theorem clearPanelZones_frame (base : State) (i : Slot) (s : State) :
    offZones base (clearPanelZones i s) = offZones base s :=
  forEach_frame (offZones base) (fun z t => by
    unfold clearZoneOf
    split
    · exact clearZone_frame base ..
    · rfl) _ s

/-! ### The end of an event -/

theorem postProbe_frame (base : State) (i : Slot) (p : ProbeStep) (s : State) :
    offBoard base (postProbe i p s) = offBoard base s := rfl

theorem reportStarted_frame (base : State) (i : Slot) (s : State) :
    offWork base (reportStarted i s) = offWork base s := by
  unfold reportStarted
  split
  · rfl
  · split <;> rfl

theorem chooseWork_frame (base : State) (i : Slot) (k : UnitKind) (s : State) :
    offWork base (chooseWork i k s) = offWork base s := by
  cases k
  · unfold chooseWork chooseFeed
    dsimp only
    split
    · rfl
    · split
      · rfl
      · split
        · exact (frame_of (m := offWork base) (n := offWork base) (fun _ => rfl) (reportStarted_frame base ..)).trans rfl
        · rfl
  · unfold chooseWork chooseScan
    dsimp only
    split
    · rfl
    · split <;> rfl
  · unfold chooseWork choosePanel
    dsimp only
    split <;> rfl

theorem fillPlace_frame (base : State) (i : Slot) (s : State) : offWork base (fillPlace i s) = offWork base s := by
  unfold fillPlace
  split
  · rfl
  · split
    · split
      · rfl
      · exact chooseWork_frame base ..
    · rfl

theorem levelRule_frame (base : State) (i : Slot) (s : State) : offAttn base (levelRule i s) = offAttn base s := by
  unfold levelRule
  split <;> rfl

theorem grant_frame (base : State) (s : State) : offGrant base (grant s) = offGrant base s := by
  unfold grant
  split
  · split
    · rfl
    · split
      · rfl
      · split
        · rfl
        · unfold grantSlot
          dsimp only
          split <;> rfl
  · rfl

theorem levelRules_frame (base : State) (s : State) : offAttn base (levelRules s) = offAttn base s :=
  forEach_frame (offAttn base) (levelRule_frame base) _ s

theorem settleBus_frame (base : State) (s : State) : offBus base (settleBus s) = offBus base s := by
  have f : ∀ t, offBus base (forEach (indices 12) fillPlace t) = offBus base t := fun t =>
    frame_of (m := offBus base) (n := offWork base) (fun _ => rfl) (forEach_frame (offWork base) (fillPlace_frame base) _ t)
  unfold settleBus
  dsimp only
  refine (f _).trans ((frame_of (m := offBus base) (n := offGrant base) (fun _ => rfl) (grant_frame base _)).trans ((f _).trans ?_))
  exact (frame_of (m := offBus base) (n := offAttn base) (fun _ => rfl) (levelRules_frame base s)).trans rfl

theorem transmit_frame (base : State) (l : Link) (s : State) : offLinks base (transmit l s) = offLinks base s := by
  unfold transmit
  split
  · rfl
  · split
    · rfl
    · cases kioskOf l with
      | none => rfl
      | some k =>
        show offLinks base (chooseUnasked l k s) = offLinks base s
        unfold chooseUnasked
        dsimp only
        split
        · rfl
        · split
          · rfl
          · split <;> rfl

/-- What the end of an event is, by the phase (R198). -/
theorem settle_full (s : State) (h : s.phase = .full) : settle s = s := by unfold settle; rw [h]

theorem settle_soft (s : State) (r : ReqSlot) (b : Bool) (h : s.phase = .soft r b) : settle s = levelRules s := by
  unfold settle; rw [h]

theorem settle_running (s : State) (h : s.phase = .running) :
    settle s = forEach (indices 9) transmit (settleBus s) := by unfold settle; rw [h]

theorem settle_frame (base : State) (s : State) : offSettle base (settle s) = offSettle base s := by
  have b : offSettle base (settleBus s) = offSettle base s :=
    frame_of (m := offSettle base) (n := offBus base) (fun _ => rfl) (settleBus_frame base s)
  unfold settle
  split
  · rfl
  · exact frame_of (m := offSettle base) (n := offAttn base) (fun _ => rfl) (levelRules_frame base s)
  · exact (frame_of (m := offSettle base) (n := offLinks base) (fun _ => rfl)
      (forEach_frame (offLinks base) (transmit_frame base) _ _)).trans b

theorem queueReply_frame (base : State) (l : Link) (r : ReqSlot) (p : List Byte) (s : State) :
    offLinks base (queueReply l r p s) = offLinks base s := by
  unfold queueReply
  split <;> rfl

end Sys2Proof.Machine
end

