-- ==== Sys2Proof/Laws/Requests.lean ====
section
/-!
SUPPORT. What a request command can do (R186 to R188), said once: it is dropped, refused by the first check it fails, or
served by its block.
-/

namespace Sys2Proof.Machine

/-- Each KIND code names its kind (11.2). -/
theorem ofCode_code (k : ReqKind) : ReqKind.ofCode k.code = some k := by cases k <;> decide

/-- Holding a slot is what `taken` says. -/
theorem holdSlot_taken (l : Link) (r : ReqSlot) (k : ReqKind) (tag : Byte) (n : Nat) (b : Bool) (s : State) :
    holdSlot { link := l, code := k.code, tag := tag, length := n, agrees := b } r s = taken l r k tag s := rfl

@[simp] theorem taken_slot (l : Link) (r : ReqSlot) (k : ReqKind) (tag : Byte) (s : State) :
    ((taken l r k tag s).links[l]).requests[r] = some { kind := k.code, tag := tag, ready := false } := by
  simp [taken]

section
variable {s : State} {l : Link} {r : ReqSlot} {k : ReqKind} {tag : Byte} {n : Nat} {b : Bool}
  {block : ReqSlot → State → State × BlockAnswer}

/-- A request in a free slot is dispatched (R186). -/
theorem request_dispatch (h : Takes s l r) (hn : n ≤ 200) :
    request { link := l, code := k.code, tag := tag, length := n, agrees := b } block s =
      .next (settle (dispatch { link := l, code := k.code, tag := tag, length := n, agrees := b } r block
        (taken l r k tag s))) := by
  obtain ⟨hp, hs⟩ := h
  have h2 : ¬(200 < n) := by omega
  simp only [request, arrive, hp, hs, h2, ne_eq, not_true_eq_false, if_false, holdSlot_taken]

/-- A request that passes every check and whose block answers at once is answered (R187, R188). -/
theorem request_now {t : State} {p : List Byte} (h : Takes s l r) (hn : n ≤ 200) (hd : deniedOn l k = false)
    (hb : b = true) (hm : (inMaintenance s l && k.heldBack) = false)
    (he : block r (taken l r k tag s) = (t, .now p)) :
    request { link := l, code := k.code, tag := tag, length := n, agrees := b } block s =
      .next (answered l r p t) := by
  have hm' : (inMaintenance (taken l r k tag s) l && k.heldBack) = false := hm
  rw [request_dispatch h hn]
  simp only [dispatch, checkRequest, ofCode_code, hd, hb, hm', he, Bool.not_true, Bool.false_eq_true, if_false, answered]

/-- A request that passes every check and whose block answers later keeps its slot (R188). -/
theorem request_later {t : State} (h : Takes s l r) (hn : n ≤ 200) (hd : deniedOn l k = false)
    (hb : b = true) (hm : (inMaintenance s l && k.heldBack) = false)
    (he : block r (taken l r k tag s) = (t, .later)) :
    request { link := l, code := k.code, tag := tag, length := n, agrees := b } block s = .next (settle t) := by
  have hm' : (inMaintenance (taken l r k tag s) l && k.heldBack) = false := hm
  rw [request_dispatch h hn]
  simp only [dispatch, checkRequest, ofCode_code, hd, hb, hm', he, Bool.not_true, Bool.false_eq_true, if_false]

/-- A request on a link that may not send it is DENIED with check 2 (R187). -/
theorem request_denied (h : Takes s l r) (hn : n ≤ 200) (hd : deniedOn l k = true) :
    request { link := l, code := k.code, tag := tag, length := n, agrees := b } block s =
      .next (answered l r (reply .denied (u8 2)) (taken l r k tag s)) := by
  rw [request_dispatch h hn]
  simp only [dispatch, checkRequest, ofCode_code, hd, if_true, answered]

/-- A request of a length its kind does not allow is MALFORMED with check 3 (R187, R200). -/
theorem request_malformed (h : Takes s l r) (hn : n ≤ 200) (hd : deniedOn l k = false) (hb : b = false) :
    request { link := l, code := k.code, tag := tag, length := n, agrees := b } block s =
      .next (answered l r (reply .malformed (u8 3)) (taken l r k tag s)) := by
  rw [request_dispatch h hn]
  simp only [dispatch, checkRequest, ofCode_code, hd, hb, Bool.not_false, Bool.false_eq_true, if_false, if_true, answered]

/-- A request held back in maintenance is DENIED with check 4 (R187, R197). -/
theorem request_maintenance (h : Takes s l r) (hn : n ≤ 200) (hd : deniedOn l k = false) (hb : b = true)
    (hm : (inMaintenance s l && k.heldBack) = true) :
    request { link := l, code := k.code, tag := tag, length := n, agrees := b } block s =
      .next (answered l r (reply .denied (u8 4)) (taken l r k tag s)) := by
  have hm' : (inMaintenance (taken l r k tag s) l && k.heldBack) = true := hm
  rw [request_dispatch h hn]
  simp only [dispatch, checkRequest, ofCode_code, hd, hb, hm', Bool.not_true, Bool.false_eq_true, if_false, if_true, answered]

/-- A request that finds no free slot is dropped (R186). -/
theorem request_dropped (hp : s.phase = .running) (hf : freeSlot? s l = none) (hn : n ≤ 200) :
    request { link := l, code := k.code, tag := tag, length := n, agrees := b } block s =
      .next (settle (faultDropped l s)) := by
  have h2 : ¬(200 < n) := by omega
  simp only [request, arrive, hp, hf, h2, ne_eq, not_true_eq_false, if_false]

/-- A request in a reset is discarded (R198). -/
theorem request_reset (hp : s.phase ≠ .running) :
    request { link := l, code := k.code, tag := tag, length := n, agrees := b } block s = .next (settle s) := by
  simp only [request, arrive, hp, ne_eq, not_false_eq_true, if_true]

end

/-- A kiosk's link is not the service link. -/
theorem OnKiosk.ne_service {l : Link} {k : Kiosk} (h : OnKiosk l k) : l ≠ serviceLink := by
  rintro rfl
  simp [OnKiosk, kioskOf, serviceLink, index?] at h

/-- The service link is no kiosk's. -/
@[simp] theorem kioskOf_service : kioskOf serviceLink = none := rfl

/-- What a kiosk's link may send is not denied on it. -/
theorem OnKiosk.allowed {l : Link} {k : Kiosk} {q : ReqKind} (h : OnKiosk l k) (ha : q.access ≠ .serviceOnly) :
    deniedOn l q = false := by
  unfold deniedOn
  cases hq : q.access
  · simp [h.ne_service]
  · exact absurd hq ha
  · rfl

/-- A block of a kiosk-only request on a kiosk's link acts for that kiosk. -/
theorem forKiosk_on {l : Link} {k : Kiosk} (h : OnKiosk l k) (f : Kiosk → State → State × List Byte) (s : State) :
    forKiosk l f s = f k s := by
  unfold forKiosk
  rw [h]

end Sys2Proof.Machine
end

