-- ==== Sys2Proof/Laws/Completions.lean ====
section
/-!
SUPPORT. What a completion command of an engine's transaction can do (R162), said once: the engine acts on the outcome with
the bus free, the slot's place is filled again, and the outcome is counted (R141).
-/

namespace Sys2Proof.Machine

/-! ### What an engine and a posting leave of the Unit Table -/

theorem fillPlace_units (i : Slot) (s : State) : (fillPlace i s).units = s.units :=
  (congrArg State.units (fillPlace_frame State.reset i s) :)

/-- The mask of the Feed Engines keeps the Unit Table. -/
theorem units_of_offFeed {base t s : State} (h : offFeed base t = offFeed base s) : t.units = s.units :=
  (congrArg State.units h :)

theorem engineAct_units (i : Slot) (w : TxnName) (o : BusOutcome) (d : List Byte) (s : State) :
    (engineAct i w o d s).units = s.units := by
  unfold engineAct
  split
  · exact units_of_offFeed (feedAct_frame State.reset i w o d s)
  · exact (congrArg State.units (scanAct_frame State.reset i w o d s) :)
  · exact (congrArg State.units (panelAct_frame State.reset i o d s) :)
  · rfl

theorem causeToEngine_units (i : Slot) (b : Byte) (c : Time) (s : State) : (causeToEngine i b c s).units = s.units := by
  unfold causeToEngine
  split
  · exact units_of_offFeed (printerCause_frame State.reset i b s)
  · exact (congrArg State.units (scannerCause_frame State.reset i b s) :)
  · exact (congrArg State.units (panelCause_frame State.reset i b c s) :)
  · rfl

theorem levelRule_units (i : Slot) (s : State) : (levelRule i s).units = s.units :=
  (congrArg State.units (levelRule_frame State.reset i s) :)

/-- A slot stays READY while the Unit Table stays as it is. -/
theorem isReady_congr {s t : State} (i : Slot) (h : t.units = s.units) : isReady t i = isReady s i := by
  unfold isReady unitState
  rw [h]

/-! ### Counting -/

/-- An OK outcome of a READY slot makes its count 0 (R141). -/
theorem countFailure_ok {s : State} {i : Slot} (h : isReady s i = true) :
    countFailure i .ok s = modUnit i (fun u => { u with failures := 0 }) s := by
  unfold countFailure
  rw [if_pos h]

/-- A REFUSED outcome leaves the count (R141). -/
theorem countFailure_refused {s : State} {i : Slot} : countFailure i .refused s = s := by
  unfold countFailure
  split <;> rfl

/-- An ABORTED outcome leaves the count (R141). -/
theorem countFailure_aborted {s : State} {i : Slot} : countFailure i .aborted s = s := by
  unfold countFailure
  split <;> rfl

/-! ### The completion of an engine's transaction -/

/-- A transaction that ends by itself is never STALLED or ABORTED. -/
theorem wireOutcome_ends (t : Txn) (a : UnitAnswer) : wireOutcome t a ≠ .stalled ∧ wireOutcome t a ≠ .aborted := by
  unfold wireOutcome pingOutcome writeOutcome readOutcome
  dsimp only
  repeat' split
  all_goals simp

/-- After an outcome that a transaction ends with by itself the bus is IDLE (R162 stage 4). -/
theorem busAfter_ends {o : BusOutcome} (h : o ≠ .stalled ∧ o ≠ .aborted) (now : Time) : busAfter o now = .idle := by
  obtain ⟨h1, h2⟩ := h
  cases o <;> first | rfl | contradiction

/-- The outcome of an engine's transaction goes to the engine, then its slot's place is filled and the outcome counted
(R162). -/
theorem handOn_engine {i : Slot} {w : TxnName} {o : BusOutcome} {d : List Byte} (v : Txn) (u : State)
    (hown : v.owner = .engine) (hs : v.slot = some i) (horp : v.orphaned = false) (hn : v.name = w)
    (hd : okData v o = d) : handOn v o u = countFailure i o (fillPlace i (engineAct i w o d u)) := by
  unfold handOn
  rw [horp, hown, hs]
  dsimp only
  rw [hn, hd]
  rfl

/-- A completion command of an engine's transaction that is in flight. -/
theorem completion_engine {s : State} {t : Txn} {i : Slot} {w : TxnName} {k : UnitKind} {a : UnitAnswer} {o : BusOutcome}
    {d : List Byte} (h : EngineTxn s t i w k) (ho : wireOutcome t a = o)
    (hd : okData { t with progress := wireProgress t a } o = d) :
    completion w a s = .next (settle (countFailure i o (fillPlace i (engineAct i w o d (busFreed s))))) := by
  obtain ⟨hb, hown, hs, horp, hn, -, -⟩ := h
  have e : complete w a s = endTransaction { t with progress := wireProgress t a } (wireOutcome t a) s := by
    unfold complete
    rw [hb]
    dsimp only
    rw [if_pos hn]
    rfl
  unfold completion
  rw [e, ho]
  unfold endTransaction
  rw [busAfter_ends (ho ▸ wireOutcome_ends t a),
    handOn_engine { t with progress := wireProgress t a } _ hown hs horp hn hd]
  rfl

/-- An engine's transaction that ends OK. -/
theorem completion_ok {s u : State} {t : Txn} {i : Slot} {w : TxnName} {k : UnitKind} {a : UnitAnswer} {d : List Byte}
    (h : EngineTxn s t i w k) (he : EndsOk t a d) (hu : engineAct i w .ok d (busFreed s) = u) :
    completion w a s = .next (countedOk i u) := by
  have r : isReady (fillPlace i u) i = true := by
    rw [isReady_congr i ((fillPlace_units i u).trans (hu ▸ engineAct_units i w .ok d (busFreed s)))]
    exact h.2.2.2.2.2.1
  rw [completion_engine h he.1 he.2, hu, countFailure_ok r]
  rfl

/-- An engine's transaction that ends REFUSED. -/
theorem completion_refused {s u : State} {t : Txn} {i : Slot} {w : TxnName} {k : UnitKind} {a : UnitAnswer}
    (h : EngineTxn s t i w k) (he : wireOutcome t a = .refused) (hu : ∀ d, engineAct i w .refused d (busFreed s) = u) :
    completion w a s = .next (countedRefused i u) := by
  rw [completion_engine h he rfl, hu, countFailure_refused]
  rfl

/-- No outcome but OK has data (R157). -/
theorem okData_not_ok {t : Txn} {o : BusOutcome} (h : o ≠ .ok) : okData t o = [] := by
  simp [okData, h]

/-- A transaction of an engine ends with an outcome other than OK: at its completion, a stall or an abort the engine does
the same (R101, R124). -/
theorem endsWith_engine {c : UnitAnswer → Instr} {s : State} {t : Txn} {i : Slot} {w : TxnName} {k : UnitKind}
    {o : BusOutcome} {f : State → State} (h : EngineTxn s t i w k) (ho : o ≠ .ok)
    (hc : ∀ a, exec (c a) s = completion w a s)
    (hf : ∀ b, engineAct i w o [] { s with bus := b } = f { s with bus := b }) : EndsWith c s t i o f := by
  refine ⟨fun a ha => ?_, fun p b => ?_⟩
  · rw [hc, completion_engine h ha (okData_not_ok ho)]
    exact congrArg (fun u => Host.Outcome.next (settle (countFailure i o (fillPlace i u)))) (hf .idle)
  · obtain ⟨-, hown, hs, horp, hn, -, -⟩ := h
    rw [handOn_engine { t with progress := p } _ hown hs horp hn (okData_not_ok ho), hf]

/-- The engine of a slot is that of the slot's kind. -/
theorem engineAct_kind {s : State} {i : Slot} {w : TxnName} {o : BusOutcome} {d : List Byte} :
    (definedKind s i = some .printer → engineAct i w o d s = feedAct i w o d s) ∧
    (definedKind s i = some .scanner → engineAct i w o d s = scanAct i w o d s) ∧
    (definedKind s i = some .panel → engineAct i w o d s = panelAct i o d s) := by
  unfold engineAct
  refine ⟨?_, ?_, ?_⟩ <;> intro h <;> rw [h]

end Sys2Proof.Machine
end

