-- ==== Sys2Proof/Laws/Contacts.lean ====
section
/-!
SUPPORT. What muting contacts and freeing a panel's entries can do, said once (R39, R41 to R44): the entries, and the
CANCEL events that reach the owners' queues.
-/

namespace Sys2Proof.Machine

/-- Delivering the CANCEL of a contact, if it has one for k (R28). -/
theorem produceCancel_kiosk (n : ContactNo) (c : Contact) (s : State) (k : Kiosk) :
    (produceCancel n c s).kiosks[k] =
      arrivals (if c.owner = some k then (c.last.map (cancelOf s.hubTime n c)).toList else []) s.kiosks[k] := by
  unfold produceCancel produce
  cases hl : c.last with
  | none => simp [arrivals]
  | some p =>
    cases ho : c.owner with
    | none => simp [arrivals]
    | some m =>
      by_cases e : m = k
      · subst e
        simp [arrivals, deliver, modKiosk, touchEvent, cancelOf]
      · have e' : ¬(some m = some k) := by simpa using e
        simp only [if_neg e']
        exact upd_get_ne _ _ _ _ e

theorem produceCancel_contact (n m : ContactNo) (c : Contact) (s : State) :
    (produceCancel n c s).contacts[m] = s.contacts[m] := by
  unfold produceCancel produce
  split
  · rfl
  · split <;> rfl

theorem produceCancel_hubTime (n : ContactNo) (c : Contact) (s : State) :
    (produceCancel n c s).hubTime = s.hubTime := by
  unfold produceCancel produce
  split
  · rfl
  · split <;> rfl

/-- What a change of some entries of the contact table does when it acts entry by entry: `keep` says what becomes of an
entry, `fits` which LIVE entries send their CANCEL. -/
structure ByEntry (keep : Contact → Option Contact) (fits : Contact → Bool) (f : ContactNo → State → State) : Prop where
  time : ∀ n s, (f n s).hubTime = s.hubTime
  same : ∀ n m s, n ≠ m → (f n s).contacts[m] = s.contacts[m]
  here : ∀ n s, (f n s).contacts[n] = (s.contacts[n]).bind keep
  sent : ∀ n s k, (f n s).kiosks[k] = arrivals (cancelFor fits s k n).toList s.kiosks[k]

/-- Entry by entry over a list without repeats, the CANCELs arrive in the order of the list. -/
theorem ByEntry.forEach {keep : Contact → Option Contact} {fits : Contact → Bool} {f : ContactNo → State → State}
    (h : ByEntry keep fits f) : ∀ (l : List ContactNo), l.Nodup → ∀ s : State,
    (∀ n : ContactNo, (Machine.forEach l f s).contacts[n] = if n ∈ l then (s.contacts[n]).bind keep else s.contacts[n]) ∧
      ∀ k : Kiosk, (Machine.forEach l f s).kiosks[k] = arrivals (l.filterMap (cancelFor fits s k)) s.kiosks[k] := by
  intro l
  induction l with
  | nil => exact fun _ s => ⟨fun n => by simp [Machine.forEach], fun k => rfl⟩
  | cons m l ih =>
    intro hl s
    obtain ⟨hm, hl⟩ := List.nodup_cons.mp hl
    obtain ⟨hc, hk⟩ := ih hl (f m s)
    have e : Machine.forEach (m :: l) f s = Machine.forEach l f (f m s) := rfl
    refine ⟨fun n => ?_, fun k => ?_⟩
    · rw [e, hc]
      by_cases hn : n = m
      · subst hn
        simp [hm, h.here]
      · rw [h.same m n s (Ne.symm hn)]
        simp [hn]
    · have g : l.filterMap (cancelFor fits (f m s) k) = l.filterMap (cancelFor fits s k) := by
        refine List.filterMap_congr fun n hn => ?_
        have : m ≠ n := fun e => hm (e ▸ hn)
        unfold cancelFor
        rw [h.same m n s this, h.time]
      rw [e, hk, h.sent, g, List.filterMap_cons]
      cases cancelFor fits s k m <;> rfl

/-- The entries of a whole table, and the CANCELs of it. -/
theorem ByEntry.all {keep : Contact → Option Contact} {fits : Contact → Bool} {f : ContactNo → State → State}
    (h : ByEntry keep fits f) (s : State) :
    (∀ n : ContactNo, (Machine.forEach (indices 40) f s).contacts[n] = (s.contacts[n]).bind keep) ∧
      ∀ k : Kiosk, (Machine.forEach (indices 40) f s).kiosks[k] = arrivals (cancels fits s k) s.kiosks[k] := by
  obtain ⟨hc, hk⟩ := h.forEach (indices 40) (List.nodup_finRange 40) s
  exact ⟨fun n => (hc n).trans (if_pos (show n ∈ indices 40 from List.mem_finRange n)), hk⟩

/-- Muting with CANCELs (R41, R43). -/
theorem muteEntry_byEntry (fits : Contact → Bool) :
    ByEntry (fun c => some (if fits c then { c with live := false } else c)) fits (muteEntry fits true) where
  time n s := by
    unfold muteEntry
    split
    · rfl
    · dsimp only
      split
      · rw [if_pos rfl, produceCancel_hubTime]; rfl
      · rfl
  same n m s h := by
    unfold muteEntry
    split
    · rfl
    · dsimp only
      split
      · exact (produceCancel_contact n m _ _).trans (upd_get_ne _ _ _ _ h)
      · rfl
  here n s := by
    unfold muteEntry
    cases hc : s.contacts[n] with
    | none => simp [hc]
    | some c =>
      dsimp only
      split
      · next g =>
        simp only [Bool.and_eq_true] at g
        refine (produceCancel_contact n n _ _).trans ?_
        simp [setContact, g.2]
      · next g =>
        rw [hc]
        cases hf : fits c <;> simp_all
        cases c; simp_all
  sent n s k := by
    unfold muteEntry cancelFor
    cases hc : s.contacts[n] with
    | none => simp [arrivals]
    | some c =>
      dsimp only
      by_cases g : (c.live && fits c) = true
      · rw [if_pos g, if_pos rfl, produceCancel_kiosk]
        simp only [g, Bool.true_and, Option.bind_some]
        by_cases o : c.owner = some k <;> simp [o, setContact]
      · rw [if_neg g]
        have g' : (c.live && fits c) = false := by simpa using g
        simp only [Option.bind_some, g', Bool.false_and, Bool.false_eq_true, if_false]
        rfl

/-- Freeing the entries of a panel with CANCELs (R44). -/
theorem freeOfPanel_byEntry (i : Slot) :
    ByEntry (fun c => if c.panel = i then none else some c) (onPanel i) (freeOfPanel i) where
  time n s := by
    unfold freeOfPanel
    split
    · rfl
    · dsimp only
      split
      · split
        · rw [produceCancel_hubTime]; rfl
        · rfl
      · rfl
  same n m s h := by
    unfold freeOfPanel
    split
    · rfl
    · dsimp only
      split
      · split
        · exact (produceCancel_contact n m _ _).trans (upd_get_ne _ _ _ _ h)
        · exact upd_get_ne _ _ _ _ h
      · rfl
  here n s := by
    unfold freeOfPanel
    cases hc : s.contacts[n] with
    | none => simp [hc]
    | some c =>
      dsimp only
      by_cases g : c.panel = i
      · rw [if_pos g]
        simp only [Option.bind_some, if_pos g]
        split
        · exact (produceCancel_contact n n _ _).trans (by simp [setContact])
        · simp [setContact]
      · rw [if_neg g, hc]; simp [g]
  sent n s k := by
    unfold freeOfPanel cancelFor onPanel
    cases hc : s.contacts[n] with
    | none => simp [arrivals]
    | some c =>
      dsimp only
      by_cases g : c.panel = i
      · rw [if_pos g]
        cases hl : c.live
        · simp [arrivals, setContact, hl]
        · simp only [if_true]
          rw [produceCancel_kiosk]
          by_cases o : c.owner = some k <;> simp [o, setContact, g, hl]
      · simp [g, arrivals]

/-- Muting with CANCELs says what `Cancelled` says (R39, R41, R43). -/
theorem muteContacts_cancelled (fits : Contact → Bool) (s : State) : Cancelled fits s (muteContacts fits true s) := by
  obtain ⟨hc, hk⟩ := (muteEntry_byEntry fits).all s
  exact ⟨fun n => (hc n).trans (by cases s.contacts[n] <;> rfl), hk⟩

/-- A panel that is lost or removed frees its entries and sends the CANCELs of those that were LIVE (R44). -/
theorem panelGone_cancels (i : Slot) (s : State) :
    (∀ n : ContactNo, (panelGone i s).contacts[n] = (s.contacts[n]).bind fun c => if c.panel = i then none else some c) ∧
      ∀ k : Kiosk, (panelGone i s).kiosks[k] = arrivals (cancels (onPanel i) s k) s.kiosks[k] := by
  have h := (freeOfPanel_byEntry i).all s
  have e : (panelGone i s).contacts = (forEach (indices 40) (freeOfPanel i) s).contacts ∧
      (panelGone i s).kiosks = (forEach (indices 40) (freeOfPanel i) s).kiosks := by
    unfold panelGone
    generalize forEach (indices 40) (freeOfPanel i) s = u
    exact ⟨rfl, rfl⟩
  rw [e.1, e.2]
  exact h

/-- With no LIVE contact that fits, muting changes nothing. -/
theorem muteContacts_idle {fits : Contact → Bool} {b : Bool} {s : State}
    (h : ∀ n : ContactNo, ∀ c, s.contacts[n] = some c → fits c = true → c.live = false) : muteContacts fits b s = s := by
  have key : ∀ l : List ContactNo, forEach l (muteEntry fits b) s = s := by
    intro l
    induction l with
    | nil => rfl
    | cons n l ih =>
      have e : muteEntry fits b n s = s := by
        unfold muteEntry
        split
        · rfl
        · next c hc =>
          rw [if_neg]
          intro g
          simp only [Bool.and_eq_true] at g
          simp [h n c hc g.2] at g
      show forEach l (muteEntry fits b) (muteEntry fits b n s) = s
      rw [e, ih]
  exact key _

end Sys2Proof.Machine
end

