-- ==== Sys2Proof/Tests/Slice0.lean ====
section
/-!
SUPPORT. Tests: the refusals of WellFormed, the worked cases and worked sequences of spec/ on small states, and, for each
statement with hypotheses, a named witness that meets them (its clauses at boundary values).
-/

set_option Elab.async false

namespace Sys2Proof.Tests

open Sys2Proof.Machine

/-! ### WellFormed -/

theorem test_wellFormed_echo : (Instr.echo 0 7 (List.replicate 200 0)).wellFormed = true := by decide +kernel
theorem test_wellFormed_echo_201 : (Instr.echo 0 7 (List.replicate 201 0)).wellFormed = false := by decide +kernel
theorem test_wellFormed_printData_199 : (Instr.printData 0 7 1 (List.replicate 199 0)).wellFormed = false := by
  decide +kernel
theorem test_wellFormed_zoneSet_12 :
    (Instr.zoneSet 8 7 (List.replicate 12 ⟨0, 1, 0, 0, 0, 1, 1, 0, 1, 1, 0, 0⟩)).wellFormed = false := by decide +kernel
theorem test_wellFormed_answer : (Instr.causePollComplete ⟨none, [1, 0, 0]⟩).wellFormed = true := by decide +kernel
theorem test_wellFormed_answer_short : (Instr.causePollComplete ⟨none, [2, 0, 0]⟩).wellFormed = false := by decide +kernel
theorem test_wellFormed_lease_zero : (Instr.leaseExpiry 0).wellFormed = false := by decide +kernel
theorem test_wellFormed_wait_zero : (Instr.waitLimitExpiry 0).wellFormed = false := by decide +kernel
theorem test_wellFormed_fill_zero : (Instr.fillStallExpiry 0).wellFormed = false := by decide +kernel
theorem test_wellFormed_stall_sent : (Instr.stallTimerExpiry 53 []).wellFormed = false := by decide +kernel
theorem test_wellFormed_stall_received : (Instr.stallTimerExpiry 3 (List.replicate 50 0)).wellFormed = true ∧
    (Instr.stallTimerExpiry 3 (List.replicate 51 0)).wellFormed = false := by decide +kernel

/-! ### No word spells a command -/

theorem test_no_word_decodes : decodeTableWord 8 1 = none := rfl
theorem test_withFetchWord : (State.reset).withFetchWord 8 1 = State.reset := rfl

/-! ### Checks (R158, R183) -/

theorem test_crc8_one : crc8 [0x00] = 0xAC := by decide +kernel
theorem test_crc8_two : crc8 [0x00, 0x01] = 0xB0 := by decide +kernel
theorem test_crc16_one : crc16 [0x00] = 0xE1F0 := by decide +kernel
theorem test_crc16_digits : crc16 [0x31, 0x32, 0x33, 0x34, 0x35, 0x36, 0x37, 0x38, 0x39] = 0x29B1 := by decide +kernel

/-! ### Helpers -/

/-- Something holds of the next state. -/
def after (a : Answer) (p : State → Bool) : Bool :=
  match a with
  | .next t => p t
  | _ => false

/-- The reply payload being sent on a link. -/
def replyOn (l : Link) (a : Answer) : List Byte :=
  match a with
  | .next t => (((t.links[l]).sending.map fun f => (f.bytes.drop 4).dropLast.dropLast)).getD []
  | _ => []

/-- Put something in a place of a table. -/
def put {α : Type} {n : Nat} (v : Vector α n) (i : Fin n) (a : α) : Vector α n := upd v i fun _ => a

/-- A READY unit. -/
def readyUnit (address : Nat) (kind : UnitKind) : UnitSlot :=
  { definition := some { address := address, kind := kind, state := .ready }, mode := .levelLow, enable := true,
    failures := 0, probe := none, reprobe := none, ident := none }

/-- The zone of the worked case of chapter 2 (owner kiosk 2, on panel slot 4). -/
def workedZone : Zone :=
  { enabled := true, panel := 4, left := 1024, top := 2048, width := 1024, height := 2048, rotation := 1,
    logicalWidth := 800, logicalHeight := 600, deadBand := 4, home := some 2 }

/-- An open zone on panel slot 4. -/
def openZone : Zone := { workedZone with left := 0, top := 0, home := none }

/-- The scanner record of a scan that is RUNNING for kiosk 3. -/
def runningScan : ScanRecord :=
  { ScanRecord.reset with
    state := .running, ownerClaim := some 1, kiosk := some 3, w := 216, h := 297, resolution := 2, credit := 4
    available := 6 }

/-- A job of kiosk 1 at printer slot 3. -/
def jobOf (id : Nat) (state : JobState) (open_ : Bool) (chain : List Nat) (fill : Nat) : Job :=
  { id := id, kiosk := 1, anyTarget := false, slot := 3, state := state, isOpen := open_, chain := chain,
    spooled := 48 * chain.length + fill - 48, fed := 0, fill := fill, lastData := 0, stallEnd := false, pages := none,
    cause := none }

/-- A hub with a panel in slot 4, printers in slots 3 and 6, a scanner in slot 9, a slot 10 that is LOST and a slot 11 that
is PROBING; zones 0 (home kiosk 2), 1 (open) and 31 (open); three claims, one of them WAITING; a LIVE and a MUTE
contact; three jobs. The attention lines are high and no notice is pending. -/
def rig : State :=
  { State.reset with
    units := put (put (put (put (put (put State.reset.units 4 (readyUnit 10 .panel)) 3 (readyUnit 33 .printer))
      6 (readyUnit 34 .printer))
      9 { readyUnit 35 .scanner with ident := some { kind := 2, model := 1, revision := 1, cap1 := 216, cap2 := 297 } })
      10 { readyUnit 36 .printer with
        definition := some { address := 36, kind := .printer, state := .lost }, probe := some .ping, reprobe := some 0 })
      11 { readyUnit 119 .printer with
        definition := some { address := 119, kind := .printer, state := .probing }, probe := some .ping }
    zones := put (put (put State.reset.zones 0 (some workedZone)) 1 (some openZone)) 31 (some openZone)
    contacts := put (put State.reset.contacts 0
        (some { panel := 4, rawId := 3, zone := some 0, owner := some 2, live := true, last := some ⟨372, 320, false⟩ }))
      39 (some { panel := 4, rawId := 15, zone := none, owner := none, live := false, last := none })
    ignored := put State.reset.ignored 4 [5]
    claims := [
      { id := 1, kiosk := 3, resource := .scanner 9, held := true, lease := 1000, waitLimit := 0, expiry := 0 },
      { id := 2, kiosk := 4, resource := .scanner 9, held := false, lease := 600000, waitLimit := 60000, expiry := 0 },
      { id := 255, kiosk := 0, resource := .zone 31, held := true, lease := 100, waitLimit := 0, expiry := 5 }]
    waits := [2], nextClaim := 255
    jobs := [jobOf 1 .feeding false [0, 1] 20, { jobOf 2 .filling true [2] 20 with anyTarget := true },
      jobOf 65535 .done false [] 48]
    terminal := [65535], printQueue := put State.reset.printQueue 3 [1, 2], nextJob := 65535
    free := (List.range 1024).drop 3
    kioskSpool := put State.reset.kioskSpool 1 { quota := 1024, held := 3, wantRoom := false }
    feeds := put State.reset.feeds 3
      { FeedEngine.reset with credit := 2, creditKnown := true, step := .stream, job := some 1 }
    scans := put State.reset.scans 9 runningScan
    notices := Vector.replicate 8 { NoticeState.reset with pending := 0, enabled := 0 } }

/-- A requests slot that is held. -/
def heldSlot (k : ReqKind) : Option Request := some { kind := k.code, tag := 7, ready := false }

/-- Slot 0 of every link is free in the rig. -/
theorem takes_rig (l : Link) : Takes rig l 0 := ⟨rfl, by revert l; decide +kernel⟩

/-- A link of a kiosk. -/
theorem onKiosk_three : OnKiosk 3 3 := rfl

/-- What holds of the value of an optional place, from a test of the place. -/
theorem of_all {α : Type} {o : Option α} {p : α → Prop} [DecidablePred p] (h : (o.all fun x => decide (p x)) = true)
    {x : α} (e : o = some x) : p x := by
  subst e
  simpa using h

/-! ### Chapters 1 and 2: the worked case of the rotated zone, lookups, zones -/

theorem test_mapping_down : mapPosition workedZone 1500 3000 = ⟨372, 320, false⟩ := by decide +kernel
theorem test_mapping_edge : mapPosition workedZone 900 3000 = ⟨372, 599, true⟩ := by decide +kernel
theorem test_mapping_up : mapPosition workedZone 1100 2900 = ⟨333, 555, false⟩ := by decide +kernel
theorem test_deadBand_suppresses : moveProduced 4 ⟨372, 320, false⟩ (mapPosition workedZone 1501 3001) = false := by
  decide +kernel
theorem test_deadBand_edge : moveProduced 4 ⟨372, 320, false⟩ (mapPosition workedZone 900 3000) = true := by decide +kernel

/-- Zones 0 and 1 meet at x 1024: the lowest entry that contains the point. -/
theorem test_pointLookup : pointLookup rig 4 1024 2048 = some 0 ∧ pointLookup rig 4 1023 2047 = some 1 ∧
    pointLookup rig 4 2048 2048 = none ∧ pointLookup rig 3 1024 2048 = none := by decide +kernel

/-- A record of ZONE SET that passes every check of R9; its dead-band is clamped to 15. -/
def goodRecord : ZoneRecord :=
  { index := 31, state := 1, panel := 4, left := 0, top := 0, width := 4096, height := 4096, rotation := 3
    logicalWidth := 32767, logicalHeight := 1, deadBand := 16, home := 7 }

theorem test_zoneSet :
    after (exec (.zoneSet 8 7 [goodRecord]) rig) (fun t => t.zones[(31 : ZoneIx)].any (fun e =>
      e.deadBand = 15 && e.home = some 7 && e.width = 4096) && t.claims.length = 2 &&
      (t.notices[(0 : Kiosk)]).pending = 0x404) = true := by decide +kernel
theorem test_zoneSet_refused :
    replyOn 8 (exec (.zoneSet 8 7 [goodRecord, { goodRecord with left := 1 }]) rig) = [8, 2, 2] := by decide +kernel
theorem test_zoneClear : replyOn 8 (exec (.zoneClear 8 7 [31, 30, 31]) rig) = [0, 1] := by decide +kernel
theorem test_zoneClear_refused : replyOn 8 (exec (.zoneClear 8 7 [31, 32]) rig) = [8, 2] := by decide +kernel
theorem test_touchList : replyOn 2 (exec (.touchList 2 7 none 0) rig) = [0, 255, 1, 0, 0, 0x01, 0x74, 0x01, 0x40] := by
  decide +kernel

/-! ### Chapter 3: one scanner, four kiosks -/

/-- The claim table of the worked sequence of chapter 3. -/
def fourKiosks : State :=
  { rig with
    hubTime := 20000, nextClaim := 254, waits := [], scans := State.reset.scans
    claims := [{ id := 255, kiosk := 0, resource := .zone 31, held := true, lease := 100, waitLimit := 0, expiry := 9 }] }

theorem test_claim_held : replyOn 1 (exec (.claim 1 7 1 9 30000 0) fourKiosks) = [0, 254, 0, 0, 0x75, 0x30] := by
  decide +kernel
theorem test_claim_held_state : after (exec (.claim 1 7 1 9 30000 0) fourKiosks) (fun t =>
    t.nextClaim = 255 && (claim? t 254).any fun c => c.held && c.expiry = 50000) = true := by decide +kernel

/-- Claim 254 is HELD by kiosk 1 at 20,100, and the counter is 255. -/
def oneHolder : State :=
  { fourKiosks with
    hubTime := 20100, nextClaim := 255
    claims := [{ id := 254, kiosk := 1, resource := .scanner 9, held := true, lease := 30000, waitLimit := 0
                 expiry := 50000 },
      { id := 255, kiosk := 0, resource := .zone 31, held := true, lease := 100, waitLimit := 0, expiry := 9 }] }

theorem test_claim_queued :
    replyOn 3 (exec (.claim 3 7 1 9 45000 90000) oneHolder) = [2, 1, 0, 0, 0xAF, 0xC8, 0xEA, 0x60, 1] := by decide +kernel
theorem test_claim_again : replyOn 1 (exec (.claim 1 7 1 9 30000 10000) oneHolder) = [7, 254, 2] := by decide +kernel
theorem test_claim_busy : replyOn 6 (exec (.claim 6 7 1 9 30000 0) oneHolder) = [3, 0] := by decide +kernel
theorem test_renew : replyOn 1 (exec (.renew 1 7 254) { oneHolder with hubTime := 49990 }) = [0, 0, 1, 0x38, 0x76] := by
  decide +kernel
theorem test_renew_notYours : replyOn 2 (exec (.renew 2 7 254) oneHolder) = [6] := by decide +kernel

/-- Hub time 79,990: the lease of claim 254 has expired, its scan is RUNNING, and claim 1 of kiosk 3 waits. -/
def lapsing : State :=
  { oneHolder with
    hubTime := 79990, waits := [1]
    scans := put State.reset.scans 9 { runningScan with ownerClaim := some 254, kiosk := some 1 }
    claims := { id := 1, kiosk := 3, resource := .scanner 9, held := false, lease := 45000, waitLimit := 60000
                expiry := 80100 } ::
      { id := 254, kiosk := 1, resource := .scanner 9, held := true, lease := 30000, waitLimit := 0, expiry := 79990 } ::
      [] }

theorem test_lapse_claims : after (exec (.leaseExpiry 254) lapsing) (fun t =>
    t.waits = [] && (claim? t 254).isNone && (claim? t 1).any fun c => c.held && c.expiry = 124990) = true := by
  decide +kernel
theorem test_lapse_notices : after (exec (.leaseExpiry 254) lapsing) (fun t =>
    (t.scans[(9 : Slot)]).haltOutcome = some .lapsed && (t.notices[(1 : Kiosk)]).pending = 0x104 &&
      (t.notices[(3 : Kiosk)]).pending = 0x002) = true := by decide +kernel
theorem test_lapse_early : after (exec (.leaseExpiry 254) { lapsing with hubTime := 79989 }) (fun t =>
    t.claims = lapsing.claims) = true := by decide +kernel
theorem test_waitLimit : after (exec (.waitLimitExpiry 1) { lapsing with hubTime := 80100 }) (fun t =>
    t.waits = [] && t.claims.length = 1 && (t.notices[(3 : Kiosk)]).pending = 0x004) = true := by decide +kernel
theorem test_release_waiting : after (exec (.release 3 7 1) lapsing) (fun t =>
    t.waits = [] && t.claims.length = 1 && (t.notices[(3 : Kiosk)]).pending = 0) = true := by decide +kernel
theorem test_forceRelease : replyOn 8 (exec (.forceRelease 8 7 1) lapsing) = [0, 3, 1] := by decide +kernel

/-! ### Chapter 4: a PARTIAL reply and the room that follows -/

/-- Kiosk 2 holds 254 of 256 blocks; its job 40 is FEEDING and open, and its last block holds 20 bytes. -/
def nearQuota : State :=
  { rig with
    jobs := [{ jobOf 40 .feeding true [7] 20 with kiosk := 2 }], terminal := [], printQueue := put State.reset.printQueue 3 [40]
    free := (List.range 1024).drop 924
    kioskSpool := put State.reset.kioskSpool 2 { quota := 256, held := 254, wantRoom := false } }

theorem test_printData_partial : replyOn 2 (exec (.printData 2 7 40 (List.replicate 192 1)) nearQuota) = [1, 124] := by
  decide +kernel
theorem test_printData_state : after (exec (.printData 2 7 40 (List.replicate 192 1)) nearQuota) (fun t =>
    t.kioskSpool[(2 : Kiosk)] = { quota := 256, held := 256, wantRoom := true } && t.free.length = 98 &&
      (job? t 40).any fun j => j.chain.length = 3 && j.fill = 48) = true := by decide +kernel
theorem test_printOpen : replyOn 1 (exec (.printOpen 1 7 3) rig) = [0, 0, 3, 3, 3] := by decide +kernel
theorem test_printOpen_any : after (exec (.printOpen 1 7 0xFF) rig) (fun t => t.printQueue[(6 : Slot)] = [3] &&
    t.nextJob = 4) = true := by decide +kernel
theorem test_printClose : replyOn 1 (exec (.printClose 1 7 2) rig) = [0, 0, 0, 0, 20, 2] := by decide +kernel
theorem test_printCancel_feeding : replyOn 1 (exec (.printCancel 1 7 1) rig) = [0, 5] := by decide +kernel
theorem test_printCancel_filling : after (exec (.printCancel 1 7 2) rig) (fun t =>
    t.printQueue[(3 : Slot)] = [1] && t.free.getLast? = some 2 && t.terminal = [65535, 2] &&
      (t.kioskSpool[(1 : Kiosk)]).held = 2) = true := by decide +kernel
theorem test_fillStall : after (exec (.fillStallExpiry 2) { rig with hubTime := 15000 }) (fun t =>
    (job? t 2).any fun j => j.state = .failed && j.cause = some .fillStall) = true := by decide +kernel
theorem test_jobStatus_collect : after (exec (.jobStatus 8 7 65535 1) rig) (fun t => t.terminal = [] &&
    t.jobs.length = 2) = true := by decide +kernel
theorem test_quotaSet : replyOn 8 (exec (.quotaSet 8 7 1 1025) rig) = [0, 4, 0, 0, 3] := by decide +kernel
theorem test_fillLimit : replyOn 8 (exec (.fillLimitSet 8 7 999) rig) = [0, 0, 0, 3, 0xE8] := by decide +kernel

/-! ### The unit bus in the tests -/

/-- A transaction of a slot in flight. -/
def flight (owner : Owner) (i : Slot) (kind : BusKind) (command : Byte) (data : List Byte) (least : Nat) : Txn :=
  { owner := owner, slot := some i, kind := kind, address := 33, command := command, data := data, minCount := least,
    capture := 77, orphaned := false, progress := { sent := [], received := [], check := 0xFF }, stallAt := 30 }

/-- The rig with a transaction in flight. -/
def flying (t : Txn) : State := { rig with bus := .running t }

/-- The answer of a unit that acknowledges every byte and sends this data with the right check (R157, R158). -/
def good (t : Txn) (d : List Byte) : UnitAnswer :=
  { nackAt := none, received := BitVec.ofNat 8 d.length :: d ++ [crc8 (sentBytes t ++ BitVec.ofNat 8 d.length :: d)] }

/-- The answer of a unit that does not acknowledge a byte. -/
def nack (k : Nat) : UnitAnswer := { nackAt := some k, received := [] }

/-- The rig with a Feed Engine, its job 1 and a transaction in flight. -/
def feeding (e : FeedEngine) (j : Job) (t : Txn) : State :=
  { flying t with feeds := put rig.feeds 3 e, jobs := j :: rig.jobs.tail }

def ack : UnitAnswer := { nackAt := none, received := [] }

def creditRead : Txn := flight .engine 3 .read 0x10 [] 1
def feedWrite : Txn := flight .engine 3 .write 0x11 [1] 0
def startMark : Txn := flight .engine 3 .write 0x12 [1, 0, 1] 0
def endMark : Txn := flight .engine 3 .write 0x12 [2, 0, 1] 0
def abortMark : Txn := flight .engine 3 .write 0x12 [3, 0, 1] 0
def pstateRead : Txn := flight .engine 3 .read 0x13 [] 4
def ssetWrite : Txn := flight .engine 9 .write 0x20 [1] 0
def sgoWrite : Txn := flight .engine 9 .write 0x21 [0] 0
def availRead : Txn := flight .engine 9 .read 0x22 [] 1
def pullRead : Txn := flight .engine 9 .read 0x23 [] 1
def haltWrite : Txn := flight .engine 9 .write 0x24 [0] 0
def sstateRead : Txn := flight .engine 9 .read 0x25 [] 3
def contactsRead : Txn := flight .engine 4 .read 0x30 [] 1
def causePoll : Txn := flight .cause 4 .read 0x03 [] 1
def rawRead : Txn := { flight .service 0 .read 0x01 [] 0 with slot := none }

/-- The feed engine of job 1 in a step. -/
def inStep (st : FeedStep) : FeedEngine := { rig.feeds[(3 : Slot)] with step := st }

/-! ### Chapter 5: one job, one refusal, one paper-out -/

theorem test_markStart : after (exec (.markStartComplete ack) (feeding { inStep .startMark with creditKnown := false }
    (jobOf 1 .feeding false [0, 1] 20) startMark)) (fun t => (t.feeds[(3 : Slot)]).step = .stream &&
      (t.feeds[(3 : Slot)]).creditWanted) = true := by decide +kernel
theorem test_markStart_refused : after (exec (.markStartComplete (nack 3)) (feeding (inStep .startMark)
    (jobOf 1 .feeding false [0, 1] 20) startMark)) (fun t => (t.feeds[(3 : Slot)]).markHeld) = true := by decide +kernel
theorem test_creditRead : after (exec (.creditReadComplete (good creditRead [3])) (flying creditRead)) (fun t =>
    (t.feeds[(3 : Slot)]).credit = 3) = true := by decide +kernel
theorem test_feed : after (exec (.feedComplete ack) (flying feedWrite)) (fun t =>
    (t.feeds[(3 : Slot)]).credit = 1 && t.free.getLast? = some 0 &&
      (job? t 1).any fun j => j.chain = [1] && j.fed = 48 && j.fill = 20) = true := by decide +kernel
theorem test_feed_refused : after (exec (.feedComplete (nack 3)) (flying feedWrite)) (fun t =>
    (t.feeds[(3 : Slot)]).credit = 0 && (t.feeds[(3 : Slot)]).creditKnown && (t.feeds[(3 : Slot)]).creditWanted &&
      (job? t 1).any fun j => j.chain = [0, 1]) = true := by decide +kernel
theorem test_markEnd : after (exec (.markEndComplete ack) (feeding (inStep .endMark) (jobOf 1 .feeding false [] 0) endMark))
    (fun t => (t.feeds[(3 : Slot)]).step = .endWait && (job? t 1).any fun j => j.state = .draining) = true := by
  decide +kernel
theorem test_pstate : after (exec (.pstateReadComplete (good pstateRead [0, 0, 1, 0]))
    (feeding { inStep .endWait with pagesWanted := true } (jobOf 1 .draining false [] 0) pstateRead)) (fun t =>
      ((job? t 1).any fun j => j.state = .done && j.pages = some 1) && (t.notices[(1 : Kiosk)]).pending = 0x008) = true := by
  decide +kernel
theorem test_markAbort : after (exec (.markAbortComplete ack) (feeding (inStep .abortMark)
    (jobOf 1 .cancelling false [0, 1] 20) abortMark)) (fun t => t.free.drop 1021 = [0, 1] &&
      ((job? t 1).any fun j => j.state = .cancelled) && (t.notices[(1 : Kiosk)]).pending = 0) = true := by decide +kernel

/-! ### Chapter 6: one page under tight credit -/

/-- The rig with a scan record and a transaction in flight. -/
def scanning (r : ScanRecord) (t : Txn) : State := { flying t with scans := put rig.scans 9 r }

theorem test_scanStart : replyOn 3 (exec (.scanStart 3 7 9 0 0 250 300 2 1 4) { rig with scans := State.reset.scans }) =
    [0, 0, 0, 0, 0, 0, 216, 1, 41, 2, 1, 4] := by decide +kernel
theorem test_scanStart_again : replyOn 3 (exec (.scanStart 3 7 9 0 0 250 300 2 1 4) rig) = [7, 2] := by decide +kernel
theorem test_sset : after (exec (.ssetComplete ack)
    (scanning { runningScan with state := .preparing, setup := some .sset } ssetWrite)) (fun t =>
      (t.scans[(9 : Slot)]).setup = some .sgo && (t.board[(9 : Slot)]).isNone) = true := by decide +kernel
theorem test_sgo : after (exec (.sgoComplete ack)
    (scanning { runningScan with state := .preparing, setup := some .sgo } sgoWrite)) (fun t =>
      (t.scans[(9 : Slot)]).state = .running) = true := by decide +kernel
theorem test_avail : after (exec (.availReadComplete (good availRead [6])) (scanning { runningScan with
    available := 0, availWanted := true } availRead)) (fun t => (t.scans[(9 : Slot)]).available = 6) = true := by decide +kernel
theorem test_pull : after (exec (.pullComplete (good pullRead [1, 2])) (flying pullRead)) (fun t =>
    (t.scans[(9 : Slot)]).credit = 3 && (t.scans[(9 : Slot)]).available = 5 && (t.scans[(9 : Slot)]).nextSeq = 1 &&
      (t.links[(3 : Link)]).sending.isSome) = true := by decide +kernel
theorem test_scanCredit : replyOn 3 (exec (.scanCredit 3 7 9 40) { rig with
    kiosks := put rig.kiosks 3 { KioskLink.reset with scan := List.replicate 3 ⟨9, 0, []⟩ }
    scans := put rig.scans 9 { runningScan with credit := 0 } }) = [0, 29] := by decide +kernel
theorem test_sstate : after (exec (.sstateReadComplete (good sstateRead [0, 0, 9]))
    (scanning { runningScan with stateWanted := true } sstateRead)) (fun t =>
      (t.scans[(9 : Slot)]).state = .ending && (t.scans[(9 : Slot)]).total = some 9) = true := by decide +kernel
theorem test_scanStop : after (exec (.scanStop 3 7 9) rig) (fun t => (t.scans[(9 : Slot)]).state = .halting &&
    (t.scans[(9 : Slot)]).haltOutcome = some .cancelled) = true := by decide +kernel
theorem test_shalt : after (exec (.shaltComplete (nack 0)) (scanning { runningScan with
    state := .halting, haltOutcome := some .lapsed } haltWrite)) (fun t => (t.scans[(9 : Slot)]).state = .idle &&
      (t.scans[(9 : Slot)]).lastOutcome = .lapsed && (t.units[(9 : Slot)]).failures = 1) = true := by decide +kernel

/-! ### Chapter 7: a printer found on the second try, level against edge on a panel -/

theorem test_unitDefine : after (exec (.unitDefine 8 7 5 37 1 2 1) { rig with hubTime := 10000, bus := .recovering 0 })
    (fun t => unitState t 5 = some .probing && (t.board[(5 : Slot)]).any fun p => p.kind = .ping && p.address = 37) = true := by
  decide +kernel
theorem test_unitDefine_held : replyOn 8 (exec (.unitDefine 8 7 5 34 1 2 1) rig) = [8, 2, 6] := by decide +kernel
theorem test_unitRemove : replyOn 8 (exec (.unitRemove 8 7 3) rig) = [0, 2] := by decide +kernel
theorem test_unitRemove_work : after (exec (.unitRemove 8 7 3) rig) (fun t => t.printQueue[(6 : Slot)] = [2] &&
    ((job? t 1).any fun j => j.cause = some .unitRemoved) && (t.notices[(0 : Kiosk)]).pending = 0x800) = true := by
  decide +kernel

/-- Slot 11 PROBING at 10,001, its PING in flight. -/
def pinging (kind : BusKind) (command : Byte) (least : Nat) : State :=
  { flying (flight .probe 11 kind command [] least) with hubTime := 10001 }

theorem test_ping_noAnswer : after (exec (.pingComplete (nack 0)) (pinging .ping 0 0)) (fun t =>
    unitState t 11 = some .lost && (t.units[(11 : Slot)]).reprobe = some 12001) = true := by decide +kernel
theorem test_restart : after (exec (.restartComplete ack) (pinging .write 2 0)) (fun t =>
    (t.units[(11 : Slot)]).probe = some .ident) = true := by decide +kernel
theorem test_ident : after (exec (.identComplete (good (flight .probe 11 .read 1 [] 8) [1, 0, 1, 1, 0, 0, 0, 0]))
    (pinging .read 1 8)) (fun t => isReady t 11 && (t.notices[(7 : Kiosk)]).pending = 0x800) = true := by decide +kernel
theorem test_ident_mismatch : after (exec (.identComplete (good (flight .probe 11 .read 1 [] 8) [2, 0, 1, 1, 0, 0, 0, 0]))
    (pinging .read 1 8)) (fun t => unitState t 11 = some .mismatch) = true := by decide +kernel
theorem test_reprobe : after (exec (.reprobeTimerExpiry 10) { rig with bus := .recovering 0 }) (fun t =>
    (t.units[(10 : Slot)]).reprobe = none && (t.board[(10 : Slot)]).any fun p => p.kind = .ping) = true := by decide +kernel
theorem test_attnLine_level : after (exec (.attnLineChange 4 false) { rig with hubTime := 50000, bus := .recovering 0 })
    (fun t => t.attn[(4 : Slot)] = { pending := true, capture := 50000 } &&
      (t.board[(4 : Slot)]).any fun p => p.owner = .cause) = true := by decide +kernel
theorem test_attnLine_inFlight : after (exec (.attnLineChange 4 false) { flying causePoll with hubTime := 50004 }) (fun t =>
    !(t.attn[(4 : Slot)]).pending) = true := by decide +kernel
theorem test_attnSet : replyOn 8 (exec (.attnSet 8 7 4 1 1) rig) = [0, 1] := by decide +kernel
theorem test_causePoll : after (exec (.causePollComplete (good causePoll [1]))
    { flying causePoll with hubTime := 50005, attnLine := put rig.attnLine 4 false }) (fun t =>
      (t.panels[(4 : Slot)]).readCapture = some 77 && t.attn[(4 : Slot)] = { pending := false, capture := 50005 }) = true := by
  decide +kernel
theorem test_causePoll_noAnswer : after (exec (.causePollComplete (nack 0)) (flying causePoll)) (fun t =>
    (t.attn[(4 : Slot)]).capture = 77 && (t.units[(4 : Slot)]).failures = 1) = true := by decide +kernel
theorem test_third_failure : after (exec (.feedComplete (nack 0)) { flying feedWrite with
    units := upd rig.units 3 fun u => { u with failures := 2 } }) (fun t => unitState t 3 = some .lost &&
      t.printQueue[(6 : Slot)] = [2] && (job? t 1).any fun j => j.cause = some .unitLost) = true := by decide +kernel

/-- A CONTACTS answer of one record: the UP of raw id 3 at (1100, 2900). -/
theorem test_contacts : after (exec (.contactsReadComplete (good contactsRead [1, 0x63, 0x04, 0x4C, 0x0B, 0x54]))
    (flying contactsRead)) (fun t => (t.contacts[(0 : ContactNo)]).isNone && (t.links[(2 : Link)]).sending.any fun f =>
      f.bytes.drop 4 |>.take 7 |> (· = [0, 3, 0, 1, 77, 2, 43])) = true := by decide +kernel

/-! ### Chapter 8: a busy table and a waiting printer -/

/-- A posting on the board. -/
def waiting (rank : Rank) (aging : Nat) : Posting :=
  { owner := .engine, kind := .read, address := 1, command := 0, data := [], minCount := 0, rank := rank, aging := aging }

/-- The board before grant 17: the panel pointer names slot 4. -/
def busyTable : State :=
  { State.reset with
    board := put (put (put (put (put State.reset.board 0 (some (waiting .panel 1))) 3 (some (waiting .printer 16)))
      4 (some (waiting .panel 0))) 6 (some (waiting .printer 16))) 9 (some (waiting .probe 16))
    pointers := { panel := 4, scanner := 0, printer := 3, probe := 0 } }

theorem test_grant_17 : (grant busyTable).board[(6 : Slot)] = none ∧ (grant busyTable).pointers.panel = 6 ∧
    ((grant busyTable).board[(0 : Slot)]).map Posting.aging = some 2 ∧
    ((grant busyTable).board[(9 : Slot)]).map Posting.aging = some 16 := by decide +kernel
theorem test_grant_first : (grant { busyTable with
    board := put (put State.reset.board 0 (some (waiting .panel 0))) 3 (some (waiting .printer 0)) }).board[(0 : Slot)] =
      none := by decide +kernel
theorem test_busRaw : replyOn 8 (exec (.busRawComplete (good rawRead [5]))
    { flying rawRead with busRaw := some 0, links := upd rig.links 8 fun q => { q with
      requests := put q.requests 0 (heldSlot .busRaw) } }) =
    [0, 0, 3, 1, crc8 (sentBytes rawRead ++ [1, 5]), crc8 (sentBytes rawRead ++ [1, 5]), 5] := by decide +kernel
theorem test_busRawPing_badArg : replyOn 8 (exec (.busRawPing 8 7 128 0) rig) = [8] := by decide +kernel
theorem test_busAbort_idle : replyOn 8 (exec (.busAbort 8 7) { rig with bus := .recovering 0 }) = [0, 0, 255] := by
  decide +kernel
theorem test_busAbort_running : after (exec (.busAbort 8 7) (flying feedWrite)) (fun t =>
    t.bus = .recovering 30 && t.freeDrawn = 1 && (t.units[(3 : Slot)]).failures = 0) = true := by decide +kernel
theorem test_stall : after (exec (.stallTimerExpiry 2 []) { flying feedWrite with hubTime := 30 }) (fun t =>
    t.bus = .recovering 60 && (t.units[(3 : Slot)]).failures = 1) = true := by decide +kernel
theorem test_releaseEnd : after (exec .releaseSequenceEnd { rig with
    bus := .recovering 9, feeds := State.reset.feeds, scans := State.reset.scans, jobs := [] })
    (fun t => t.bus = .idle) = true := by decide +kernel

/-! ### Chapter 9: one kiosk through a working hour -/

theorem test_noticeArm : replyOn 2 (exec (.noticeArm 2 7 0x186) rig) = [0, 0x01, 0x86, 0, 0] := by decide +kernel
theorem test_noticeTake : replyOn 2 (exec (.noticeTake 2 7) { rig with notices := upd rig.notices 2 fun n =>
    { n with pending := 0x880 } }) = [0, 0x08, 0x80] := by decide +kernel
theorem test_noticeRelease_sends : after (exec (.noticeRelease 2 7) { rig with
    notices := upd rig.notices 2 fun n => { n with pending := 0x802, enabled := 0x186, hold := true } }) (fun t =>
      (t.notices[(2 : Kiosk)]).pending = 0x802) = true := by decide +kernel
theorem test_forceNotice : after (exec (.forceNotice 8 7 2 0x800 0x0301) rig) (fun t =>
    (t.links[(2 : Link)]).sending = some { slot := none, bytes := noticeFrame true 0x800 0x0301 }) = true := by decide +kernel

/-! ### Chapter 10: a congested touch queue, the links, the resets -/

/-- An event of a contact. -/
def touchOf (n : Nat) (ph : Phase) (x : Nat) : TouchEvent :=
  { contact := Fin.ofNat 40 n, phase := ph, zone := none, x := x, y := 0, time := 0, edge := false }

/-- The queue of the worked sequence: a DOWN and a MOVE for each of contacts 8 to 15. -/
def congested : KioskLink :=
  { KioskLink.reset with touch := (List.range 8).flatMap fun n => [touchOf (8 + n) .down 0, touchOf (8 + n) .move 0] }

theorem test_touch_coalesces : (enqueueTouch (touchOf 9 .move 5) congested).touch[3]? = some (touchOf 9 .move 5) ∧
    (enqueueTouch (touchOf 9 .move 5) congested).gap = false := by decide +kernel
theorem test_touch_displaces : (enqueueTouch (touchOf 12 .up 0) congested).touch =
    touchOf 8 .down 0 :: (congested.touch.drop 2 ++ [touchOf 12 .up 0]) ∧
    (enqueueTouch (touchOf 12 .up 0) congested).gap = true := by decide +kernel
/-- The queue after the UP of contact 12 has displaced the first MOVE, its gap flag sent. -/
def afterUp : KioskLink :=
  { congested with touch := touchOf 8 .down 0 :: (congested.touch.drop 2 ++ [touchOf 12 .up 0]) }

theorem test_touch_dropped : enqueueTouch (touchOf 8 .move 5) afterUp = { afterUp with gap := true } := by
  decide +kernel
theorem test_echo : replyOn 0 (exec (.echo 0 7 [1, 2]) rig) = [0, 1, 2] := by decide +kernel
theorem test_hubIdent : (replyOn 8 (exec (.hubIdent 8 7) rig)).take 7 = [0, 0x0D, 0x7A, 0x03, 0x18, 1, 8] := by decide +kernel
theorem test_maintain : replyOn 8 (exec (.maintainOn 8 7 3) rig) = [0, 0] := by decide +kernel
theorem test_maintained_claim : replyOn 3 (exec (.claim 3 7 2 1 100 0) { rig with kiosks := put rig.kiosks 3 { KioskLink.reset with
    maintenance := true } }) = [9, 4] := by decide +kernel
theorem test_clearKiosk : replyOn 3 (exec (.clearKiosk 3 7 none) rig) = [0, 1, 0, 1] := by decide +kernel
theorem test_linkByte_check : after (exec (.linkByteReceived 0 0) { rig with links := upd rig.links 0 fun q =>
    { q with receiver := .body 0 [2, 7, 0] } }) (fun t => (t.links[(0 : Link)]).check) = true := by decide +kernel

/-- A HUB IDENT frame with a good check, its last byte arriving. -/
theorem test_linkByte_frame : replyOn 0 (exec (.linkByteReceived 0 ((crc16 [0, 2, 7]).setWidth 8)) { rig with
    links := upd rig.links 0 fun q => { q with receiver := .body 0 [2, 7, ((crc16 [0, 2, 7]) >>> 8).setWidth 8] } }) =
    replyOn 0 (exec (.hubIdent 0 7) rig) := by decide +kernel
theorem test_linkByte_overlong : after (exec (.linkByteReceived 0 201) { rig with links := upd rig.links 0 fun q =>
    { q with receiver := .length } }) (fun t => (t.links[(0 : Link)]).lenOverlong) = true := by decide +kernel
theorem test_characterError : after (exec (.characterError 0) rig) (fun t => !(t.links[(0 : Link)]).check) = true := by
  decide +kernel
theorem test_transmitEnd : after (exec (.transmitEnd 0) { rig with links := upd rig.links 0 fun q => { q with
    requests := put q.requests 2 (heldSlot .echo), sending := some { slot := some 2, bytes := [] } } }) (fun t =>
      (t.links[(0 : Link)]).sending = none && ((t.links[(0 : Link)]).requests[(2 : ReqSlot)]).isNone) = true := by
  decide +kernel
theorem test_resetSoft : after (exec (.resetSoft 8 7) rig) (fun t => t.zones = rig.zones && t.claims = [] &&
    unitState t 4 = some .probing && t.phase = .soft 0 false) = true := by decide +kernel
theorem test_softResetComplete : replyOn 8 (exec .softResetComplete { rig with
    phase := .soft 0 true, links := upd rig.links 8 fun q => { q with requests := put q.requests 0 (heldSlot .reset) } }) =
    [0] := by decide +kernel
theorem test_resetFull : after (exec (.resetFull 8 7) rig) (fun t => t.phase = .full && t.zones = State.reset.zones) = true := by
  decide +kernel
theorem test_fullResetComplete : after (exec .fullResetComplete { State.reset with phase := .full }) (fun t =>
    (t.links[(5 : Link)]).sending = some { slot := none, bytes := noticeFrame false 1 0 }) = true := by decide +kernel
theorem test_tick : after (step rig) (fun t => t.hubTime = 1 && t.pending = [.leaseExpiry 1, .waitLimitExpiry 2,
    .reprobeTimerExpiry 10]) = true := by decide +kernel

/-! ### Witnesses: states and operands that meet the hypotheses of the statements, clause by clause -/

theorem of_any {α : Type} {o : Option α} {p : α → Prop} [DecidablePred p] (h : (o.any fun x => decide (p x)) = true) :
    ∃ x, o = some x ∧ p x := by
  cases o with
  | none => cases h
  | some x => exact ⟨x, rfl, by simpa using h⟩

theorem of_after {a : Answer} {p : State → Bool} (h : after a p = true) : ∃ t, a = .next t ∧ p t = true := by
  cases a with
  | next t => exact ⟨t, rfl, h⟩
  | fault f => cases h
  | refused r => cases h

/-- The rig with a touch queue and a streak at their bounds, a BUS RAW that waits, a ready reply, a reply being sent, a
posting and a failure count at their bounds, and a command that waits. -/
def busyLink : LinkState :=
  { LinkState.reset with
    requests := put (put (put LinkState.reset.requests 0 (heldSlot .busRaw)) 1 (some { kind := 1, tag := 9, ready := true }))
      2 (some { kind := 2, tag := 8, ready := true })
    replies := [{ slot := 1, kind := 0x81, tag := 9, payload := [0] }], sending := some { slot := some 2, bytes := [0x5A] } }

/-- A state that keeps every law, with much in use. -/
def lawful : State :=
  { rig with
    pending := [.leaseExpiry 1]
    links := put rig.links 8 busyLink, busRaw := some 0
    kiosks := put rig.kiosks 5 { congested with streak := 4 }
    units := upd rig.units 10 fun u => { u with failures := 3 }
    board := put rig.board 3 (some (waiting .printer 16)) }

theorem witness_step : ∃ t, step lawful = .next t :=
  (of_after (p := fun _ => true) (by decide +kernel)).imp fun _ h => h.1

theorem witness_TouchQueuesBounded : QueueLaw lawful := by unfold QueueLaw; decide +kernel

theorem witness_RequestSlotsLawful : RequestLaw lawful := by
  have e : ∀ l : Link, lawful.links[l] = if l = 8 then busyLink else LinkState.reset := by decide +kernel
  refine ⟨fun l => ?_, fun r h => ?_, fun r b h => ?_⟩
  · rw [e l]
    by_cases g : l = 8
    · simp only [g, if_true]
      refine ⟨⟨by decide +kernel, fun p h => ?_⟩, fun f h r g => ?_⟩
      · obtain rfl := List.mem_singleton.mp h
        exact ⟨_, rfl, rfl, rfl⟩
      · obtain rfl := Option.some.inj h
        obtain rfl := Option.some.inj g
        exact ⟨⟨_, rfl, rfl⟩, by decide +kernel⟩
    · simp only [g, if_false]
      exact ⟨⟨by decide +kernel, by decide +kernel⟩, fun f h => nomatch h⟩
  · obtain rfl := Option.some.inj h
    exact ⟨{ kind := ReqKind.busRaw.code, tag := 7, ready := false }, by decide +kernel, rfl⟩
  · have g : lawful.phase = .running := rfl
    rw [g] at h
    cases h

theorem witness_CountsBounded : CountLaw lawful := by
  have k : ∀ i : Slot, ((lawful.board[i]).all fun p => decide (p.aging ≤ 16 ∧ p.rank ≠ .service)) = true := by
    decide +kernel
  exact ⟨fun i p h => of_all (k i) h, by decide +kernel⟩

/-- A PULL is in flight while 31 frames of its scan wait: the credit and the frames waiting come to 32. -/
def pulling : State :=
  { flying pullRead with
    scans := put rig.scans 9 { runningScan with credit := 1, outstanding := some .pull }
    kiosks := put rig.kiosks 3 { KioskLink.reset with scan := List.replicate 31 ⟨9, 0, [1]⟩ } }

theorem creditLaw_of {s : State} (h : decide ((∀ i : Slot, (s.units[i]).definition = none → s.board[i] = none) ∧
      ∀ i : Slot, definedKind s i = some .scanner →
        (∀ k, (s.scans[i]).kiosk = some k → (s.scans[i]).credit + framesWaiting s k i ≤ 32) ∧
        (engineTxns s i = [] ∨ engineTxns s i = (s.scans[i]).outstanding.toList) ∧
        ((s.scans[i]).outstanding = some .pull → (s.scans[i]).state.pulling = true → 1 ≤ (s.scans[i]).credit)) = true)
    (g : ∀ t i, s.bus = .running t → t.slot = some i → t.orphaned = false → (s.units[i]).definition ≠ none) :
    CreditLaw s := by
  obtain ⟨hb, hc⟩ := of_decide_eq_true h
  refine ⟨⟨hb, g⟩, fun i hi => ⟨(hc i hi).1, ?_, (hc i hi).2.2⟩⟩
  rcases (hc i hi).2.1 with e | e
  · exact .inl e
  · cases ho : (s.scans[i]).outstanding with
    | none => exact .inl (by rw [e, ho]; rfl)
    | some w => exact .inr ⟨w, rfl, by rw [e, ho]; rfl⟩

theorem creditLaw_lawful : CreditLaw lawful := creditLaw_of (by decide +kernel) (fun _ _ h => nomatch h)

theorem witness_CountsBounded_credit : CreditLaw lawful ∧ CreditLaw pulling :=
  ⟨creditLaw_lawful, creditLaw_of (by decide +kernel) fun t i h hs _ => by
    obtain rfl : pullRead = t := BusState.running.inj h
    obtain rfl : (9 : Slot) = i := Option.some.inj hs
    decide +kernel⟩

theorem witness_SettingsInRange : RangeLaw lawful := by unfold RangeLaw; decide +kernel

theorem claimLaw_rig : ClaimLaw rig := by
  refine ⟨by unfold ClaimIdLaw; decide +kernel, by unfold ClaimsApart; decide +kernel, by decide +kernel, fun id => ?_,
    by decide +kernel, fun r => (List.length_filter_le _ _).trans (by decide +kernel)⟩
  show id ∈ [2] ↔ _
  simp [rig]
  exact eq_comm

theorem witness_ClaimTableLawful : ClaimLaw lawful := claimLaw_rig

theorem witness_ContactTableLawful : ContactLaw lawful := by
  have k : ∀ m n : ContactNo, ((lawful.contacts[m]).all fun c => decide ((lawful.contacts[n]).all (fun d =>
      decide (c.panel = d.panel → c.rawId = d.rawId → m = n)) = true)) = true := by decide +kernel
  have g : ∀ n : ContactNo, ((lawful.contacts[n]).all fun c => decide (c.rawId ∉ lawful.ignored[c.panel])) = true := by
    decide +kernel
  exact ⟨fun m n c d hc hd => of_all (p := fun d => c.panel = d.panel → c.rawId = d.rawId → m = n) (of_all (k m n) hc) hd,
    fun n c h => of_all (g n) h, by decide +kernel⟩

theorem witness_LiveContactsOwned : LiveLaw lawful := by
  have k : ∀ n : ContactNo, ((lawful.contacts[n]).all fun c => decide (c.live = true → c =
      { panel := 4, rawId := 3, zone := some 0, owner := some 2, live := true, last := some ⟨372, 320, false⟩ })) = true := by
    decide +kernel
  refine ⟨claimLaw_rig.1, fun n c h l => ?_⟩
  obtain rfl := of_all (k n) h l
  exact ⟨0, workedZone, 2, _, rfl, by decide +kernel, rfl, rfl, rfl, by decide +kernel, rfl⟩

theorem jobLaw_lawful : JobLaw lawful := by
  refine ⟨by decide +kernel, by decide +kernel, by decide +kernel, by decide +kernel, by decide +kernel, fun id => ?_⟩
  show id ∈ [65535] ↔ _
  simp [lawful, rig, jobOf, JobState.isTerminal]
  exact eq_comm

theorem witness_JobTableLawful : JobLaw lawful := jobLaw_lawful

theorem witness_SpoolBlocksConserved : BlockLaw lawful := by
  refine ⟨jobLaw_lawful, ?_, by decide +kernel⟩
  have e : lawful.jobs.flatMap Job.chain = (List.range 1024).take 3 := by decide +kernel
  have f : lawful.free = (List.range 1024).drop 3 := by decide +kernel
  rw [e, f]
  exact List.perm_append_comm.trans (by rw [List.take_append_drop])

theorem witness_PrintQueuesLawful : PrintQueueLaw lawful := by
  exact ⟨jobLaw_lawful, by unfold QueuedJobs; decide +kernel, by decide +kernel, by decide +kernel⟩

theorem witness_PrintQueuesLawful_feed : FeedLaw lawful := by
  refine ⟨witness_PrintQueuesLawful, fun i => ?_⟩
  by_cases h : i = 3
  · subst h
    exact ⟨fun g => by revert g; decide +kernel, fun _ => ⟨jobOf 1 .feeding false [0, 1] 20, by decide +kernel⟩⟩
  · have hq : ∀ i : Slot, i ≠ 3 → (lawful.feeds[i]).step = .none ∧ (lawful.feeds[i]).job = none ∧ headJob? lawful i = none := by
      decide +kernel
    obtain ⟨h1, h2, h3⟩ := hq i h
    exact ⟨fun _ => ⟨h2, fun j hj => by rw [h3] at hj; cases hj⟩, fun g => absurd h1 g⟩

/-- The reset state in a full reset, by its pins. -/
def fullReset (pin hold : Bool) : State := { State.reset with phase := .full, resetLow := pin, powerOnHold := hold }

theorem witness_IdleStepIsATick : (rig.pending = [] ∧ rig.phase ≠ .full) ∧
    ((fullReset true false).pending = [] ∧ (fullReset true false).phase = .full ∧ (fullReset true false).resetLow = true) ∧
    ((fullReset false false).phase = .full ∧ (fullReset false false).resetLow = false ∧
      (fullReset false false).powerOnHold = false) := by decide +kernel

/-- The rig in a soft reset. -/
def softRig (released : Bool) (sending : Option Sending) : State :=
  { rig with phase := .soft 0 released, links := upd rig.links 2 fun q => { q with sending := sending } }

theorem witness_RefusalChangesNothing : (Instr.release 3 7 4).wellFormed = true ∧
    requestOf (.release 3 7 4) = some (3, 7, .release) ∧ Takes rig 3 0 :=
  ⟨by decide +kernel, rfl, takes_rig 3⟩

theorem witness_RefusalChangesNothing_waits : Takes rig serviceLink 0 ∧
    ((Instr.busRawWrite 8 7 127 1 (List.replicate 48 0)).wellFormed = true ∧
      requestOf (.busRawPing 8 7 0 0) = some (serviceLink, 7, .busRaw)) ∧
    (requestOf (.resetSoft 8 7) = some (serviceLink, 7, .reset) ∧ requestOf (.resetFull 8 7) = some (serviceLink, 7, .reset)) :=
  ⟨takes_rig _, ⟨by decide +kernel, rfl⟩, rfl, rfl⟩

/-- The rig with every request slot of kiosk 3's link held. -/
def crowded : State := { rig with links := upd rig.links 3 fun q => { q with requests := Vector.replicate 4 (heldSlot .echo) } }

/-- The rig with kiosk 3 in maintenance. -/
def maintained : State := { rig with kiosks := put rig.kiosks 3 { KioskLink.reset with maintenance := true } }

theorem witness_RequestChecks :
    ((Instr.echo 3 7 []).wellFormed = true ∧ requestOf (.echo 3 7 []) = some (3, 7, .echo) ∧ crowded.phase = .running ∧
      freeSlot? crowded 3 = none) ∧
    ((Instr.resetSoft 0 7).wellFormed = true ∧ freeSlot? rig 0 = some 0 ∧ deniedOn 0 .reset = true) ∧
    (deniedOn 8 .zoneClear = false ∧ lengthRight (.zoneClear 8 7 []) = false ∧
      lengthRight (.zoneClear 8 7 (List.replicate 33 0)) = false ∧ lengthRight (.zoneClear 8 7 (List.replicate 32 0)) = true) ∧
    (deniedOn 3 .claim = false ∧ lengthRight (.claim 3 7 1 9 100 0) = true ∧ freeSlot? maintained 3 = some 0 ∧
      inMaintenance maintained 3 = true) := by decide +kernel

/-- A rig in which kiosk 7's link has these to send. -/
def toSend (replies : List Reply) (n : NoticeState) (q : KioskLink) (sending : Option Sending) : State :=
  { rig with
    links := upd rig.links 7 fun l => { l with replies := replies, sending := sending }
    notices := put rig.notices 7 n, kiosks := put rig.kiosks 7 q }

def someReply : Reply := { slot := 0, kind := 0x81, tag := 7, payload := [0] }
def quietNotice : NoticeState := { NoticeState.reset with pending := 0, enabled := 0 }
def oneTouch : KioskLink := { KioskLink.reset with touch := [touchOf 0 .down 0] }
def scanAndTouch (streak : Nat) : KioskLink := { oneTouch with scan := [⟨9, 0, [1]⟩], streak := streak }

theorem witness_TransmitterChoice :
    (((toSend [] quietNotice .reset (some ⟨none, []⟩)).links[(7 : Link)]).sending = some ⟨none, []⟩) ∧
    (((toSend [someReply] quietNotice .reset none).links[(7 : Link)]).sending = none ∧
      ((toSend [someReply] quietNotice .reset none).links[(7 : Link)]).replies = [someReply]) ∧
    ((rig.links[serviceLink]).sending = none ∧ (rig.links[serviceLink]).replies = []) ∧
    (kioskOf 7 = some 7 ∧ ((toSend [] { quietNotice with forced := some (1, 2) } .reset none).notices[(7 : Kiosk)]).forced =
      some (1, 2)) ∧
    noticeDue ((toSend [] .reset .reset none).notices[(7 : Kiosk)]) false = true ∧
    noticeDue ((toSend [] quietNotice .reset none).notices[(7 : Kiosk)]) false = false ∧
    (((toSend [] quietNotice (scanAndTouch 4) none).kiosks[(7 : Kiosk)]).scan = [⟨9, 0, [1]⟩] ∧
      ((toSend [] quietNotice (scanAndTouch 4) none).kiosks[(7 : Kiosk)]).streak = 4) ∧
    (((toSend [] quietNotice (scanAndTouch 3) none).kiosks[(7 : Kiosk)]).touch = [touchOf 0 .down 0] ∧
      ((toSend [] quietNotice (scanAndTouch 3) none).kiosks[(7 : Kiosk)]).streak ≠ 4) ∧
    (((toSend [] quietNotice oneTouch none).kiosks[(7 : Kiosk)]).scan = [] ∧
      ((toSend [] quietNotice .reset none).kiosks[(7 : Kiosk)]).touch = []) := by decide +kernel

theorem witness_EndOfEventFrame : ((softRig false none).phase ≠ .running ∧ (fullReset true true).phase = .full) ∧
    (CountLaw State.reset ∧ State.reset.phase = .running ∧ (settle State.reset).bus = .idle) ∧
    ((flying feedWrite).bus ≠ .idle ∧ ((toSend [] quietNotice .reset (some ⟨none, []⟩)).links[(7 : Link)]).sending =
      some ⟨none, []⟩ ∧ busyTable.board[(6 : Slot)] = some (waiting .printer 16)) := by
  have k : ∀ i : Slot, ((State.reset.board[i]).all fun p => decide (p.aging ≤ 16 ∧ p.rank ≠ .service)) = true := by
    decide +kernel
  exact ⟨by decide +kernel, ⟨⟨fun i p h => of_all (k i) h, by decide +kernel⟩, by decide +kernel⟩, by decide +kernel⟩

theorem witness_GrantChoice :
    ((flying feedWrite).bus ≠ .idle ∧ State.reset.servicePlace = none ∧ (∀ i : Slot, State.reset.board[i] = none)) ∧
    (CountLaw busyTable ∧ busyTable.bus = .idle ∧ busyTable.servicePlace = none ∧ ∃ p, Wins busyTable 6 p) := by
  have k : ∀ i : Slot, ((busyTable.board[i]).all fun p => decide (p.aging ≤ 16 ∧ p.rank ≠ .service)) = true := by
    decide +kernel
  have w : ∀ j : Slot, ((busyTable.board[j]).all fun q => decide (
      (waiting .printer 16).effectiveRank.level < q.effectiveRank.level ∨
      ((waiting .printer 16).effectiveRank = q.effectiveRank ∧
        turn (busyTable.pointers.at (waiting .printer 16).effectiveRank) 6 ≤
          turn (busyTable.pointers.at (waiting .printer 16).effectiveRank) j))) = true := by decide +kernel
  exact ⟨by decide +kernel, ⟨fun i p h => of_all (k i) h, by decide +kernel⟩, rfl, rfl, waiting .printer 16,
    by decide +kernel, fun j q h => of_all (w j) h⟩

theorem witness_GrantChoice_service : ∃ p, { busyTable with servicePlace := some (waiting .service 0) }.servicePlace = some p :=
  ⟨_, rfl⟩

/-- The rig with panel 4's read wanted, or its attention pending. -/
def panelWork (pending : Bool) : State :=
  { rig with
    panels := put rig.panels 4 { readWanted := true, readCapture := some 0, outstanding := false }
    attn := put rig.attn 4 { pending := pending, capture := 0 } }

theorem witness_PostingRules :
    (∃ p, (busyTable.board[(6 : Slot)]) = some p) ∧
    (∃ p, (fillPlace 4 (panelWork true)).board[(4 : Slot)] = some p ∧ (panelWork true).board[(4 : Slot)] = none ∧
      ((panelWork true).units[(4 : Slot)]).enable = true ∧ ((panelWork true).attn[(4 : Slot)]).pending = true) ∧
    (∃ p, (fillPlace 4 (panelWork false)).board[(4 : Slot)] = some p ∧ p.owner = .engine ∧ p.command = 0x30) ∧
    (∃ p, (fillPlace 3 rig).board[(3 : Slot)] = some p ∧ p.owner = .engine ∧ p.command = 0x11) ∧
    (∃ p, (fillPlace 9 rig).board[(9 : Slot)] = some p ∧ p.owner = .engine ∧ p.command = 0x23) :=
  ⟨⟨waiting .printer 16, by decide +kernel⟩, of_any (by decide +kernel), of_any (by decide +kernel), of_any (by decide +kernel),
    of_any (by decide +kernel)⟩

/-- The rig with the scan of slot 9 as given, and with job 2 at the head of printer 3, closed. -/
def postRig (q : ScanRecord) (e : FeedEngine) : State :=
  { rig with
    scans := put rig.scans 9 q, feeds := put rig.feeds 3 e, printQueue := put rig.printQueue 3 [2]
    jobs := [jobOf 2 .queued false [2] 20] }

theorem witness_PostingRules_filled :
    (((rig.units[(4 : Slot)]).definition = some { address := 10, kind := .panel, state := .ready } ∧
      rig.board[(4 : Slot)] = none ∧ (rig.attn[(4 : Slot)]).pending = false ∧ (rig.panels[(4 : Slot)]).readWanted = false)) ∧
    (((panelWork false).panels[(4 : Slot)]).readWanted = true ∧ ((panelWork false).panels[(4 : Slot)]).outstanding = false ∧
      ((panelWork true).attn[(4 : Slot)]).pending = true) ∧
    ((rig.units[(9 : Slot)]).definition = some { address := 35, kind := .scanner, state := .ready } ∧
      (rig.scans[(9 : Slot)]).outstanding = none ∧ firstLine (scanTable rig.scans[(9 : Slot)]) = some .pull ∧
      firstLine (scanTable { runningScan with state := .preparing, setup := some .sset }) = some .sset ∧
      firstLine (scanTable { runningScan with state := .halting, haltOwed := true }) = some .shalt ∧
      firstLine (scanTable { runningScan with credit := 0 }) = none) ∧
    ((rig.units[(3 : Slot)]).definition = some { address := 33, kind := .printer, state := .ready } ∧
      (rig.feeds[(3 : Slot)]).outstanding = none ∧
      firstLine (feedTable rig.feeds[(3 : Slot)] (headJob? rig 3)) = some .feed ∧ (rig.feeds[(3 : Slot)]).job = some 1 ∧
      ((headJob? rig 3).any fun j => j.chain = [0, 1]) = true ∧
      firstLine (feedTable (inStep .abortMark) (headJob? rig 3)) = some .markAbort ∧
      firstLine (feedTable { inStep .stream with credit := 0 } (headJob? rig 3)) = none) ∧
    (((postRig runningScan .reset).feeds[(3 : Slot)]).step = .none ∧
      firstLine (feedTable .reset (headJob? (postRig runningScan .reset) 3)) = some .markStart ∧
      (headJob? (postRig runningScan .reset) 3).map Job.id = some 2) := by decide +kernel

theorem witness_StartsFullReset : StartsFullReset rig .powerOn ∧ StartsFullReset rig .resetPinAssert ∧
    StartsFullReset rig (.resetFull serviceLink 7) :=
  ⟨.inl rfl, .inr (.inl rfl), .inr (.inr ⟨7, 0, rfl, takes_rig _⟩)⟩

theorem witness_SpoolerAfterFullReset : StartsFullReset rig .powerOn := witness_StartsFullReset.1

theorem witness_FullResetEvents : (Takes rig serviceLink 0 ∧ StartsFullReset rig (.resetFull serviceLink 7)) ∧
    (∃ u v, exec (.resetFull serviceLink 7) rig = .next u ∧ exec .fullResetComplete u = .next v) ∧
    rig.phase ≠ .full ∧ (fullReset true true).phase = .full := by
  obtain ⟨u, hu, g⟩ := of_after (a := exec (.resetFull serviceLink 7) rig)
    (p := fun u => after (exec .fullResetComplete u) fun _ => true) (by decide +kernel)
  obtain ⟨v, hv, _⟩ := of_after g
  exact ⟨⟨takes_rig _, witness_StartsFullReset.2.2⟩, ⟨u, v, hu, hv⟩, by decide +kernel, rfl⟩

theorem witness_SoftReset : Takes rig serviceLink 0 ∧ (rig.units[(0 : Slot)]).definition = none ∧
    (rig.units[(11 : Slot)]).definition = some { address := 119, kind := .printer, state := .probing } :=
  ⟨takes_rig _, by decide +kernel⟩

theorem witness_SoftResetEndsWithReply :
    ((softRig true none).phase = .soft 0 true ∧ ∀ l : Link, ((softRig true none).links[l]).sending = none) ∧
    (softRig false none).phase = .soft 0 false ∧
    ((softRig true (some ⟨none, []⟩)).phase = .soft 0 true ∧
      ((softRig true (some ⟨none, []⟩)).links[(2 : Link)]).sending ≠ none) ∧
    (rig.phase = .running ∧ (fullReset true true).phase = .full) ∧
    ((softRig true none).phase ≠ .running ∧ requestOf (.hubIdent 8 7) = some (8, 7, .hubIdent)) := by decide +kernel

/-- The board with the first PING of each unit of the rig. -/
def firstPings : Vector (Option Posting) 12 :=
  mapAll rig.units fun u => u.definition.map fun d =>
    { owner := .probe, kind := .ping, address := d.address, command := 0, data := [], minCount := 0, rank := .probe, aging := 0 }

theorem witness_SoftResetEndsWithReply_pings :
    (∀ i : Slot, ((softRig true none).units[i]).definition = none → firstPings[i] = (softRig true none).board[i]) ∧
    ∀ (i : Slot) (d : UnitDef), ((softRig true none).units[i]).definition = some d → firstPings[i] = some
      { owner := .probe, kind := .ping, address := d.address, command := 0, data := [], minCount := 0
        rank := .probe, aging := 0 } := by
  have k : ∀ i : Slot, (((softRig true none).units[i]).definition.all fun d => decide (firstPings[i] = some
      { owner := .probe, kind := .ping, address := d.address, command := 0, data := [], minCount := 0
        rank := .probe, aging := 0 })) = true := by decide +kernel
  exact ⟨by decide +kernel, fun i d h => of_all (k i) h⟩

/-- The soft reset completes: the PING of slot 3, the lowest defined slot above pointer 0, is granted, the others wait (R165,
R170). -/
theorem test_softResetComplete_pings : after (exec .softResetComplete { softRig true none with
    units := mapAll rig.units UnitSlot.softReset }) (fun t => (match t.bus with
      | .running x => decide (x.slot = some 3) && decide (x.name = .ping)
      | _ => false) && (t.board[(3 : Slot)]).isNone && (t.board[(4 : Slot)]).isSome && t.phase = .running) = true := by
  decide +kernel
/-- Nothing is granted while a soft reset lasts (R170, R198). -/
theorem test_release_in_soft_reset : after (exec .releaseSequenceEnd { softRig false (some ⟨none, []⟩) with bus := .recovering 0 })
    (fun t => t.bus = .idle && t.phase = .soft 0 true) = true := by decide +kernel

theorem witness_RotationTable : ∀ t : Fin 4,
    (1023 + 1 ≤ { workedZone with rotation := t }.width ∧ 0 + 1 ≤ { workedZone with rotation := t }.height) ∧
    { workedZone with rotation := t }.rotation = t := by decide +kernel

theorem witness_MappingInRange : (1 ≤ workedZone.width ∧ 1 ≤ workedZone.height ∧ 1 ≤ workedZone.logicalWidth ∧
    1 ≤ workedZone.logicalHeight) ∧ workedZone.left ≤ 1024 ∧ 1024 ≤ workedZone.left ∧ 1023 ≤ workedZone.left ∧
    workedZone.top ≤ 4095 ∧ rotate workedZone 0 2047 = (2047, 1023, 2048, 1024) := by decide +kernel

theorem witness_TouchQueueArrival :
    (congested.touch = congested.touch.take 15 ++ touchOf 15 .move 0 :: [] ∧
      (∀ y ∈ congested.touch.take 14, y.contact ≠ (touchOf 15 .move 5).contact)) ∧
    (congested.touch = congested.touch.take 14 ++ touchOf 15 .down 0 :: congested.touch.drop 15) ∧
    ((touchOf 15 .up 0).phase ≠ .move ∧ (congested.touch.drop 1).length < 16) ∧
    (16 ≤ congested.touch.length ∧ (∀ y ∈ congested.touch, y.contact ≠ (touchOf 39 .move 5).contact)) ∧
    (16 ≤ ((List.replicate 16 (touchOf 8 .down 0))).length ∧
      ∀ y ∈ List.replicate 16 (touchOf 8 .down 0), y.phase ≠ .move) ∧
    (congested.touch = [touchOf 8 .down 0] ++ touchOf 8 .move 0 :: congested.touch.drop 2 ∧
      ∀ y ∈ [touchOf 8 .down 0], y.phase ≠ .move) := by decide +kernel

theorem witness_WireOutcomes :
    ((nack 0).nackAt = some 0 ∧ (nack 1).nackAt = some 1 ∧ (nack 2).nackAt = some 2 ∧ ack.nackAt = none) ∧
    (rawRead.kind = .read ∧ feedWrite.kind = .write ∧ (flight .probe 11 .ping 0 [] 0).kind = .ping) ∧
    (1 ≤ 3 ∧ 3 ≤ feedWrite.data.length + 2 ∧ (nack 4).nackAt = some (feedWrite.data.length + 3)) ∧
    (48 < (49 : Byte).toNat ∧ (0 : Byte).toNat < availRead.minCount ∧ (0 : Byte).toNat ≤ 48) ∧
    ((1 : Byte).toNat ≤ 48 ∧ availRead.minCount ≤ (1 : Byte).toNat ∧
      (good availRead [6]).received = 1 :: ([6] ++ [crc8 (sentBytes availRead ++ 1 :: [6])])) := by decide +kernel

/-- A chain of one block with one place left. -/
def nearlyFull : Writing := { spool := [], free := [5, 6], chain := [4], fill := 47 }

theorem witness_SpooledBytesKeepOrder : Memory.wf nearlyFull.spool = true ∧ (nearlyFull.chain ++ nearlyFull.free).Nodup ∧
    nearlyFull.fill ≤ 48 ∧ (nearlyFull.chain = [] → nearlyFull.fill = 0) ∧
    (List.replicate 97 (1 : Byte)).length ≤
      (if nearlyFull.chain = [] then 0 else 48 - nearlyFull.fill) + 48 * nearlyFull.free.length := by decide +kernel

/-- 28 bytes fill a last block that holds 20: no further block is taken (R83). -/
theorem test_exact_fill : ((List.replicate 28 (1 : Byte)).foldl writeByte { nearlyFull with fill := 20 }).chain = [4] ∧
    ((List.replicate 29 (1 : Byte)).foldl writeByte { nearlyFull with fill := 20 }).fill = 1 := by decide +kernel

theorem witness_FreshIds : [1, 2].length < 3 ∧ 1 ≤ 3 ∧ 3 ≤ 3 ∧
    freshId (fun x => decide (x ∈ [2, 3])) 3 3 2 = 1 ∧ freshId (fun x => decide (x ∈ [1, 2])) 3 3 1 = 3 := by
  decide +kernel

theorem witness_AnyPrinterLeastLoaded : anyPrinter rig none = some 6 ∧ printerCandidate rig none 3 = true ∧
    anyPrinter State.reset none = none := by decide +kernel

/-! ### Witnesses: the requests -/

theorem witness_EchoAndHubIdent : Takes rig 8 0 ∧ (List.replicate 199 (0 : Byte)).length ≤ 199 ∧
    (List.replicate 200 (0 : Byte)).length = 200 := ⟨takes_rig _, by decide +kernel⟩

theorem witness_LinkStatusAndMaintain : (Takes rig 3 0 ∧ (3 : Link) ≠ serviceLink) ∧
    (Takes rig serviceLink 0 ∧ some (8 : Byte) = some (BitVec.ofNat 8 (8 : Link).val) ∧ 8 < (9 : Byte).toNat) ∧
    ((7 : Byte).toNat = (7 : Kiosk).val ∧ 7 < (8 : Byte).toNat) :=
  ⟨⟨takes_rig _, by decide +kernel⟩, ⟨takes_rig _, by decide +kernel⟩, by decide +kernel⟩

theorem witness_LinkStatusAndMaintain_report : OnKiosk 7 7 ∧
    linkReport lawful 5 = [0, 0, 16, 0, 0] ∧ linkReport lawful 8 = [0, 3, 0, 0, 0] ∧
    linkReport { lawful with
      links := upd lawful.links 5 fun q => { q with lenOverlong := true, dropped := true }
      kiosks := upd lawful.kiosks 5 fun q => { q with maintenance := true, gap := true } } 5 = [29, 0, 16, 0, 0] :=
  ⟨rfl, by decide +kernel⟩

theorem witness_ClearKiosk : (Takes rig 3 0 ∧ OnKiosk 3 3) ∧ (Takes rig serviceLink 0 ∧
    some (7 : Byte) = some (BitVec.ofNat 8 (7 : Kiosk).val) ∧ 7 < (8 : Byte).toNat) :=
  ⟨⟨takes_rig _, rfl⟩, takes_rig _, by decide +kernel⟩

/-- Kiosk 3 holds scanner 9 and kiosk 4 waits for it; the claim of kiosk 0 and the job of kiosk 1 are of other kiosks. -/
theorem witness_ClearKiosk_others : (ClaimLaw lawful ∧ LiveLaw lawful ∧ JobLaw lawful) ∧
    (nextHolder? lawful 3 (.scanner 9) = some 2 ∧ nextHolder? lawful 3 (.zone 31) = none ∧
      (lawful.claims.map Claim.id = [1, 2, 255] ∧ lawful.claims.map Claim.kiosk = [3, 4, 0]) ∧
      lawful.jobs.any (fun j => decide (j.kiosk ≠ 3)) = true) ∧
    ((lawful.scans[(9 : Slot)]).state.active = true ∧ (lawful.scans[(9 : Slot)]).ownerClaim = some 1 ∧
      (lawful.claims.any fun c => decide (c.id = 1 ∧ c.kiosk = 3 ∧ c.held = true ∧ c.resource = .scanner 9)) = true) ∧
    ((lawful.contacts[(0 : ContactNo)]).any (fun c => decide (c.owner ≠ some 3 ∧ c.zone = some 0)) = true ∧
      lawful.claims.all (fun d => decide (d.resource ≠ .zone 0)) = true) :=
  ⟨⟨claimLaw_rig, witness_LiveContactsOwned, witness_JobTableLawful⟩, by decide +kernel⟩

/-- CLEAR KIOSK of kiosk 3 grants scanner 9 to the waiter of kiosk 4, with CLAIM_GRANTED alone, and halts the scan as CANCELLED
(R70, R130). -/
theorem test_clearKiosk_grants :
    after (exec (.clearKiosk 3 7 none) rig) (fun t => t.claims.map Claim.id = [2, 255] && t.waits = [] &&
      (t.claims.map Claim.held = [true, true]) && (t.notices[(4 : Kiosk)]).pending = 2 &&
      (t.scans[(9 : Slot)]).state = .halting && (t.scans[(9 : Slot)]).haltOutcome = some .cancelled) = true := by decide +kernel

/-- Six records that pass every check. -/
def sixRecords : List ZoneRecord := (List.range 6).map fun n => { goodRecord with index := BitVec.ofNat 8 n }

/-- The checks of R9, each failed by one record. -/
theorem test_zoneSet_checks : [{ goodRecord with index := 32 }, goodRecord, { goodRecord with index := 0, state := 0 },
    { goodRecord with index := 0, panel := 3 }, { goodRecord with index := 0, left := 1 },
    { goodRecord with index := 0, rotation := 4 }, { goodRecord with index := 0, logicalHeight := 0 },
    { goodRecord with index := 0, home := 8 }].map (fun q => badRecord rig [] [goodRecord, q]) =
    [some (2, 1), some (2, 2), some (2, 3), some (2, 4), some (2, 5), some (2, 6), some (2, 7), some (2, 8)] := by
  decide +kernel

theorem witness_ZoneSet_checks : RecordFails rig [goodRecord] goodRecord 2 ∧ ¬RecordFails rig [goodRecord] goodRecord 1 :=
  ⟨⟨goodRecord, .head _, rfl⟩, (by decide +kernel : ¬31 < goodRecord.index.toNat)⟩

theorem witness_ZoneSet : Takes rig serviceLink 0 ∧
    (badRecord rig [] sixRecords = none ∧ sixRecords.length ≤ 6 ∧ badRecord rig [] [goodRecord] = none ∧
      badRecord rig [] [goodRecord, goodRecord] = some (2, 2)) ∧
    (rig.zones[(31 : ZoneIx)] = some openZone ∧
      { openZone with deadBand := 15 } = { { openZone with deadBand := 15 } with deadBand := 15 }) ∧
    ClaimLaw rig ∧
    ({ openZone with deadBand := workedZone.deadBand } ≠ workedZone ∧ claimableZone rig 31 = true ∧
      workedZone.home ≠ none ∧ zoneOwner rig 31 = some 0 ∧ claimableZone rig 0 = false) :=
  ⟨takes_rig _, by decide +kernel, by decide +kernel, claimLaw_rig, by decide +kernel⟩

theorem witness_ZoneClear : Takes rig serviceLink 0 ∧
    (31 < (32 : Byte).toNat ∧ (∀ x ∈ [(31 : Byte)], x.toNat ≤ 31) ∧ [31, 32, 0] = [(31 : Byte)] ++ 32 :: [0]) ∧
    (∀ b ∈ List.replicate 32 (31 : Byte), b.toNat ≤ 31) ∧
    (ClaimLaw rig ∧ rig.zones[(31 : ZoneIx)] = some openZone ∧ openZone.home = none ∧ zoneOwner rig 31 = some 0) :=
  ⟨takes_rig _, by decide +kernel, by decide +kernel, claimLaw_rig, by decide +kernel⟩

theorem witness_ZoneClear_each : [(31 : ZoneIx), 0].map Fin.val = [(31 : Byte), 0].map BitVec.toNat ∧
    rig.zones[(2 : ZoneIx)] = none ∧ (rig.zones[(0 : ZoneIx)] = some workedZone ∧ workedZone.home ≠ none) ∧
    ∃ c ∈ rig.claims, c.resource = .zone 31 ∧ c.kiosk = 0 := by decide +kernel

theorem witness_QueriesChangeNothing : Takes rig 3 0 ∧ namedRight 3 none = true ∧ Takes rig 8 0 ∧
    namedRight 8 (some 255) = true := ⟨takes_rig _, rfl, takes_rig _, rfl⟩

/-- The rig with all 32 zones on panel 4, and 17 LIVE contacts of kiosk 2. -/
def crowdedPanel : State :=
  { rig with
    zones := Vector.replicate 32 (some workedZone)
    contacts := Vector.ofFn fun n : ContactNo => if n.val < 17 then
      some { panel := 4, rawId := Fin.ofNat 16 n.val, zone := some 0, owner := some 2, live := true
             last := some ⟨0x0102, 0x0304, false⟩ } else none }

theorem test_zoneList_page : (zoneListBlock 4 22 crowdedPanel).take 3 = [0, 255, 10] ∧
    (zoneListBlock 4 21 crowdedPanel).take 4 = [0, 31, 10, 21] ∧
    zoneListBlock 4 31 rig = [0, 255, 1, 31, 1, 0, 0, 0, 0, 4, 0, 8, 0, 1, 3, 32, 2, 88, 4, 255, 0] := by decide +kernel
theorem test_touchList_page : (touchListBlock 2 none 0 crowdedPanel).take 9 = [0, 16, 16, 0, 0, 1, 2, 3, 4] ∧
    (touchListBlock 8 (some 2) 1 crowdedPanel).take 4 = [0, 255, 16, 1] ∧ touchListBlock 8 (some 1) 39 crowdedPanel = [0, 255, 0] := by
  decide +kernel
theorem test_spoolStatus : spoolStatusBlock 1 none rig =
    [0, 3, 253, 0, 3, 4, 0, 0, 0, 0, 58, 152, 1, 2, 0, 1, 3, 3, 1, 0, 2, 1, 3, 2] := by decide +kernel
theorem test_scanStatus_record : scanStatusBlock 9 rig = [0, 2, 1, 3, 0, 0, 0, 0, 0, 216, 1, 41, 2, 1, 4, 0, 0, 0, 0, 0, 0, 0, 6, 0, 0,
    0, 2, 0, 216, 1, 41] := by decide +kernel
/-- Step 16 of section 6.12: the record is IDLE, and SCAN STATUS counts the 5 frames of the scan that ended in kiosk 3's queue,
not that of another slot (R193, R201). -/
def scanEndedWaiting : State :=
  { rig with
    scans := put rig.scans 9 { rig.scans[(9 : Slot)] with
      state := .idle, ownerClaim := none, kiosk := none, lastKiosk := some 3, lastOutcome := .done, credit := 0 }
    kiosks := upd rig.kiosks 3 fun q => { q with scan := List.replicate 5 ⟨9, 0, [1]⟩ ++ [⟨4, 0, [1]⟩] } }
theorem test_scanStatus_idle : (scanStatusBlock 9 scanEndedWaiting).take 4 = [0, 0, 0, 255] ∧
    (scanStatusBlock 9 scanEndedWaiting).getD 15 0 = 5 := by decide +kernel
theorem test_unitStatus_record : ((unitStatusBlock rig).drop 145).take 16 = [2, 35, 2, 0, 5, 0, 255, 255, 2, 0, 1, 1, 0, 216, 1, 41] ∧
    ((unitStatusBlock rig).drop 161).take 8 = [3, 36, 1, 0, 1, 0, 0, 0] := by decide +kernel

theorem witness_QueriesChangeNothing_reports :
    (11 < (12 : Byte).toNat ∧ 31 < (32 : Byte).toNat ∧ (4 : Byte).toNat = (4 : Slot).val ∧ (31 : Byte).toNat ≤ 31 ∧
      definedKind rig 4 = some .panel ∧ definedKind rig 9 ≠ some .panel) ∧
    ([(1 : ZoneIx), 31].Pairwise (fun y z => y < z) ∧
      ∀ z : ZoneIx, z ∈ [(1 : ZoneIx), 31] ↔ 1 ≤ z.val ∧ (rig.zones[z]).any (fun e => e.panel = 4) = true) ∧
    (39 < (40 : Byte).toNat ∧ (39 : Byte).toNat ≤ 39 ∧ About 2 none 2 ∧ About 8 (some 2) 2 ∧ LiveLaw lawful ∧
      ∀ n : ContactNo, n ∈ [(0 : ContactNo)] ↔ 0 ≤ n.val ∧ (lawful.contacts[n]).any (fun c => c.live && c.owner = some 2) = true) ∧
    (ClaimLaw rig ∧ claim? rig 3 = none ∧ (claim? rig 2).any (fun c => c.kiosk = 4 && !c.held) = true ∧
      waitQueue rig (.scanner 9) = [] ++ 2 :: [] ∧ (claim? rig 255).any (fun c => c.kiosk = 0 && c.held) = true ∧
      7 < (254 : Byte).toNat ∧ (254 : Byte) ≠ 0xFF) ∧
    (PrintQueueLaw lawful ∧ About 1 none 1 ∧ [jobOf 1 .feeding false [0, 1] 20].Pairwise (fun i j => i.id < j.id) ∧
      lawful.jobs.map (fun j => (j.kiosk, j.state.isTerminal)) = [(1, false), (1, false), (1, true)] ∧
      lawful.printQueue[(3 : Slot)] = [1] ++ 2 :: []) ∧
    (definedKind rig 9 = some .scanner ∧ (rig.scans[(9 : Slot)]).kiosk = some 3 ∧ ((rig.units[(9 : Slot)]).ident).isSome = true ∧
      (ScanRecord.reset).kiosk = none ∧ (ScanRecord.reset).lastKiosk = none ∧ (rig.units[(3 : Slot)]).ident = none ∧
      (scanEndedWaiting.scans[(9 : Slot)]).kiosk = none ∧ (scanEndedWaiting.scans[(9 : Slot)]).lastKiosk = some 3) ∧
    ((rig.units[(0 : Slot)]).definition = none ∧
      (rig.units[(10 : Slot)]).definition = some { address := 36, kind := .printer, state := .lost } ∧
      (rig.units[(10 : Slot)]).reprobe = some 0 ∧ (0 - rig.hubTime).toNat < 65535 ∧ (rig.units[(3 : Slot)]).reprobe = none) := by
  refine ⟨by decide +kernel, by decide +kernel, ⟨by decide +kernel, by decide +kernel, .inl ⟨rfl, rfl⟩, .inr ⟨rfl, rfl⟩,
    witness_LiveContactsOwned, by decide +kernel⟩, ⟨claimLaw_rig, by decide +kernel⟩,
    ⟨witness_PrintQueuesLawful, .inl ⟨rfl, rfl⟩, by decide +kernel⟩, by decide +kernel, by decide +kernel⟩

/-- The rig with a full contact table. -/
def fullTable : State := { rig with contacts := Vector.replicate 40 (rig.contacts[(39 : ContactNo)]) }

theorem witness_ContactsRead :
    EngineTxn (flying contactsRead) contactsRead 4 .contacts .panel ∧
    EndsOk contactsRead (good contactsRead [0]) [0] ∧ wireOutcome contactsRead (nack 2) = .refused ∧
    (15 < 16 ∧ 4095 < 4096) ∧ entry? rig 4 2 = none ∧ (entry? fullTable 4 2 = none ∧ freeEntry? fullTable = none) ∧
    freeEntry? rig = some 1 ∧
    (pointLookup rig 4 1024 2048 = some 0 ∧ zoneOwner rig 0 = some 2 ∧ rig.zones[(0 : ZoneIx)] = some workedZone) ∧
    pointLookup rig 4 4095 4095 = none ∧
    (entry? rig 4 15 = some 39 ∧ ((rig.contacts[(39 : ContactNo)]).any fun c => !c.live) = true) ∧
    (entry? rig 4 3 = some 0 ∧ ((rig.contacts[(0 : ContactNo)]).any fun c => c.live) = true) ∧
    (moveProduced workedZone.deadBand ⟨372, 320, false⟩ (mapPosition workedZone 1100 2900) = true ∧
      moveProduced workedZone.deadBand ⟨372, 320, false⟩ (mapPosition workedZone 1501 3001) = false) := by
  unfold EngineTxn EndsOk
  decide +kernel

/-- Panel 4's read has completed with its capture time. -/
def readTaken : State :=
  { rig with panels := put rig.panels 4 { readWanted := true, readCapture := some 77, outstanding := false } }

theorem witness_ContactsRead_records :
    ((readTaken.panels[(4 : Slot)]).readCapture = some 77 ∧
      9 = (byteAt (9 :: List.replicate 45 (0 : Byte)) 0).toNat % 128 ∧ (9 :: List.replicate 45 (0 : Byte)).length = 1 + 5 * 9) ∧
    (10 = (byteAt [(10 : Byte)] 0).toNat % 128 ∧ 0 = (byteAt [(128 : Byte)] 0).toNat % 128 ∧ 128 ≤ (byteAt [(128 : Byte)] 0).toNat ∧
      [(128 : Byte)].length = 1 + 5 * 0 ∧ [(1 : Byte), 2].length ≠ 1 + 5 * 1) ∧
    (0 < 1 ∧ (([1, 0x6F, 1, 2, 3, 4] : List Byte).drop (1 + 5 * 0)).take 5 = [0x6F, 1, 2, 3, 4]) ∧
    (entry? rig 4 5 = none ∧ isIgnored rig 4 5 = true ∧ entry? rig 4 2 = none ∧ isIgnored rig 4 2 = false) ∧
    (freeEntry? rig = some 1 ∧ pointLookup rig 4 0 0 = some 1 ∧ zoneOwner rig 1 = none) ∧
    (ContactLaw lawful ∧ entry? lawful 4 3 = some 0 ∧ entry? lawful 4 15 = some 39 ∧
      (lawful.contacts[(0 : ContactNo)]).any (fun c => c.live && c.owner = some 2 && c.last.isSome) = true ∧
      (lawful.contacts[(39 : ContactNo)]).any (fun c => !c.live) = true) ∧
    BusOutcome.noAnswer ≠ .ok :=
  ⟨by decide +kernel, by decide +kernel, by decide +kernel, by decide +kernel, by decide +kernel,
    ⟨witness_ContactTableLawful, by decide +kernel⟩, by decide +kernel⟩

/-- A MOVE of an id with no entry is a DOWN in a zone with no owner: a MUTE entry and no event (R29, R32). -/
theorem test_move_as_down : (processRecord 4 77 { phase := 2, rawId := 2, x := 0, y := 0 } rig).contacts[(1 : ContactNo)] =
    some { panel := 4, rawId := 2, zone := some 1, owner := none, live := false, last := none } := by decide +kernel
/-- A DOWN of an id with a LIVE entry: the CANCEL of the old contact goes first (R30). -/
theorem test_down_again : ((processRecord 4 77 { phase := 1, rawId := 3, x := 1500, y := 3000 } rig).kiosks[(2 : Kiosk)]).touch.map
    TouchEvent.phase = [.cancel, .down] := by decide +kernel

/-- A claim table of n records, none of them on the scanner. -/
def manyClaims (n : Nat) : State :=
  { rig with
    claims := (List.range n).map fun i =>
      { id := i + 1, kiosk := 0, resource := .zone 31, held := true, lease := 100, waitLimit := 0, expiry := 0 }
    waits := [] }

/-- A scanner with a holder and four waiters. -/
def fourWaiters : State :=
  { rig with
    claims := (List.range 5).map fun i =>
      { id := i + 1, kiosk := Fin.ofNat 8 i, resource := .scanner 9, held := decide (i = 0), lease := 100, waitLimit := 1
        expiry := 0 }
    waits := [2, 3, 4, 5] }

theorem witness_ClaimCases : (Takes rig serviceLink 0 ∧ Takes rig 7 0 ∧ OnKiosk 7 7 ∧ (rig.kiosks[(7 : Kiosk)]).maintenance = false) ∧
    (Takes maintained 3 0 ∧ (maintained.kiosks[(3 : Kiosk)]).maintenance = true) ∧
    ((∀ x : Resource, x.code = [1, 8] → resourceExists rig x = false) ∧
      ∀ x : Resource, x.code = [2, 32] → resourceExists rig x = false) ∧
    ((Resource.scanner 9).code = [1, 9] ∧ resourceExists rig (.scanner 9) = true ∧ (Resource.zone 31).code = [2, 31] ∧
      resourceExists rig (.zone 31) = true) ∧
    ((claimOf? rig 3 (.scanner 9)).isSome = true ∧ claimOf? (manyClaims 24) 7 (.scanner 9) = none ∧
      24 ≤ (manyClaims 24).claims.length ∧ (manyClaims 23).claims.length < 24 ∧ holder? (manyClaims 23) (.scanner 9) = none) ∧
    (claimOf? fourWaiters 7 (.scanner 9) = none ∧ holder? fourWaiters (.scanner 9) ≠ none ∧ 4 ≤ (waitQueue fourWaiters (.scanner 9)).length) ∧
    (claimOf? rig 7 (.scanner 9) = none ∧ holder? rig (.scanner 9) ≠ none ∧ (waitQueue rig (.scanner 9)).length < 4 ∧ ClaimLaw rig) := by
  refine ⟨⟨takes_rig _, takes_rig _, rfl, by decide +kernel⟩, ⟨⟨rfl, by decide +kernel⟩, by decide +kernel⟩, ⟨fun x => ?_, fun x => ?_⟩,
    by decide +kernel, by decide +kernel, by decide +kernel, by decide +kernel, by decide +kernel, by decide +kernel, claimLaw_rig⟩
  · cases x with
    | scanner i => revert i; decide +kernel
    | zone z => revert z; decide +kernel
  · cases x with
    | scanner i => revert i; decide +kernel
    | zone z => revert z; decide +kernel

theorem test_claimList_page : (claimListBlock 0 1 none (manyClaims 13)).take 4 = [0, 13, 12, 1] ∧
    (claimListBlock 8 2 (some 255) (manyClaims 13)).take 4 = [0, 0, 12, 2] ∧
    claimListBlock 8 2 (some 4) rig = [0, 0, 1, 2, 4, 1, 9, 1, 0, 9, 0x27, 0xC0, 0xEA, 0x60, 0, 0, 0, 0, 1] := by decide +kernel

theorem witness_ClaimCommands : (Takes rig 3 0 ∧ OnKiosk 3 3 ∧ claim? rig 4 = none ∧ Takes rig 4 0 ∧ OnKiosk 4 4) ∧
    ((claim? rig 1).any (fun c => c.kiosk = 3 && c.held && reached rig.hubTime c.expiry)) = true ∧
    ((claim? rig 2).any (fun c => c.kiosk = 4 && !c.held && reached rig.hubTime c.expiry)) = true ∧
    ((claim? rig 255).any (fun c => c.kiosk ≠ 3 && !reached rig.hubTime c.expiry)) = true ∧ Takes rig serviceLink 0 :=
  ⟨⟨takes_rig _, rfl, by decide +kernel, takes_rig _, rfl⟩, by decide +kernel, by decide +kernel, by decide +kernel, takes_rig _⟩

theorem witness_ReleaseEffects : ClaimLaw rig ∧
    (∃ c, claim? rig 1 = some c ∧ c ∈ rig.claims ∧ c.held = true ∧ waitQueue rig c.resource = [2] ∧ c.resource = .scanner 9 ∧
      (rig.scans[(9 : Slot)]).ownerClaim = some c.id ∧ (rig.scans[(9 : Slot)]).state.active = true) ∧
    ∃ c, claim? rig 255 = some c ∧ c ∈ rig.claims ∧ c.held = true ∧ waitQueue rig c.resource = [] ∧ c.resource = .zone 31 :=
  ⟨claimLaw_rig, of_any (by decide +kernel), of_any (by decide +kernel)⟩

/-- The scan of claim 1 is HALTING with this outcome. -/
def haltingFor (o : ScanOutcome) : State :=
  { rig with scans := put rig.scans 9 { runningScan with state := .halting, haltOutcome := some o } }

theorem claimLaw_of {s : State} (hc : s.claims = rig.claims) (hw : s.waits = rig.waits) (hn : s.nextClaim = rig.nextClaim) :
    ClaimLaw s := by
  have h := claimLaw_rig
  unfold ClaimLaw ClaimIdLaw holder? waitQueue claim? at h ⊢
  rw [hc, hw, hn]
  exact h

theorem witness_ReleaseEffects_scan : ClaimLaw (haltingFor .cancelled) ∧
    ((rig.scans[(9 : Slot)]).kiosk = some 3 ∧ ((haltingFor .cancelled).scans[(9 : Slot)]).state = .halting ∧
      ((haltingFor .cancelled).scans[(9 : Slot)]).haltOutcome = some .cancelled ∧
      ((haltingFor .unitFault).scans[(9 : Slot)]).haltOutcome ≠ some .cancelled) ∧
    ((oneHolder.scans[(9 : Slot)]).ownerClaim ≠ some 254 ∧ Removal.lapse ≠ .resourceGone) :=
  ⟨claimLaw_of rfl rfl rfl, by decide +kernel, by decide +kernel⟩

/-- The lapse of a claim whose scan halts as CANCELLED makes it LAPSED, with SCAN_FAILED (R130). -/
theorem test_lapse_halting : after (exec (.leaseExpiry 1) (haltingFor .cancelled)) (fun t =>
    (t.scans[(9 : Slot)]).haltOutcome = some .lapsed && (t.notices[(3 : Kiosk)]).pending = 0x104) = true := by decide +kernel

/-- The rig with printer 3's queue full. -/
def longQueue : State := { rig with printQueue := put rig.printQueue 3 (List.range' 1 8) }

/-- A job table of 24 records. -/
def manyJobs (terminal : List Nat) : State :=
  { rig with jobs := (List.range 24).map fun n => jobOf (n + 1) .done false [] 48, terminal := terminal }

theorem witness_PrintOpenCases : (Takes rig 1 0 ∧ OnKiosk 1 1 ∧ (rig.kiosks[(1 : Kiosk)]).maintenance = false) ∧
    (anyPrinter State.reset none = none ∧ Takes State.reset 1 0) ∧ ((12 : Byte) ≠ 0xFF ∧ 11 < (12 : Byte).toNat) ∧
    ((11 : Byte).toNat = (11 : Slot).val ∧ definedKind rig 11 = some .printer ∧ definedKind rig 9 ≠ some .printer) ∧
    (definedKind longQueue 3 = some .printer ∧ 8 ≤ (longQueue.printQueue[(3 : Slot)]).length) ∧
    (anyPrinter rig none = some 6 ∧ (rig.printQueue[(11 : Slot)]).length < 8 ∧ rig.jobs.length < 24) ∧
    (24 ≤ (manyJobs []).jobs.length ∧ (manyJobs [5, 2]).terminal = 5 :: [2] ∧ (manyJobs []).terminal = []) :=
  ⟨⟨takes_rig _, rfl, by decide +kernel⟩, ⟨by decide +kernel, rfl, by decide +kernel⟩, by decide +kernel⟩

theorem witness_PrintDataAccepts : (Takes rig 1 0 ∧ OnKiosk 1 1 ∧ (rig.kiosks[(1 : Kiosk)]).maintenance = false) ∧
    (1 ≤ [(1 : Byte)].length ∧ (List.replicate 192 (1 : Byte)).length ≤ 192) ∧ job? rig 3 = none ∧
    ((job? rig 2).any fun j => decide (j.kiosk = 1) && j.isOpen) = true ∧
    ((job? rig 1).any fun j => decide (j.kiosk = 1) && !j.isOpen) = true ∧
    ((job? nearQuota 40).any fun j => decide (j.kiosk ≠ 1)) = true ∧ Takes nearQuota 1 0 :=
  ⟨⟨takes_rig _, rfl, by decide +kernel⟩, by decide +kernel, by decide +kernel, by decide +kernel, by decide +kernel,
    by decide +kernel, rfl, by decide +kernel⟩

/-- A job table with one job of kiosk 1. -/
def oneJob (j : Job) : State := { rig with jobs := [j], hubTime := 15000 }

theorem witness_JobEndings : (Takes rig 1 0 ∧ OnKiosk 1 1 ∧ job? rig 3 = none ∧ Takes rig 2 0 ∧ OnKiosk 2 2) ∧
    ((job? rig 1).any fun j => decide (j.kiosk = 1 ∧ j.isOpen = false ∧ j.state = .feeding)) = true ∧
    ((job? rig 2).any fun j => decide (j.isOpen = true ∧ j.state = .filling)) = true ∧
    ((job? rig 65535).any fun j => j.state.isTerminal) = true ∧
    ((job? (oneJob (jobOf 9 .queued false [7] 3)) 9).any fun j => decide (j.state = .queued)) = true ∧
    ((job? (oneJob (jobOf 9 .draining false [] 0)) 9).any fun j => decide (j.state = .draining)) = true ∧
    ((job? (oneJob (jobOf 9 .cancelling false [7] 3)) 9).any fun j => decide (j.state = .cancelling)) = true ∧
    ((job? (oneJob (jobOf 9 .filling true [7] 3)) 9).any fun j =>
      j.isOpen && reached 15000 (Machine.after j.lastData 15000)) = true ∧
    ((job? (oneJob (jobOf 9 .feeding true [7] 3)) 9).any fun j => j.isOpen && decide (j.state = .feeding)) = true ∧
    ((job? rig 2).any fun j => !reached rig.hubTime (Machine.after j.lastData rig.fillLimit)) = true ∧
    ∃ j, job? { nearQuota with kioskSpool := put nearQuota.kioskSpool 2 { quota := 256, held := 256, wantRoom := true } } 40 =
      some j ∧ j.id = 40 ∧ j.kiosk = 2 ∧ j.chain ≠ [] ∧ 256 - j.chain.length < 256 :=
  ⟨⟨takes_rig _, rfl, by decide +kernel, takes_rig _, rfl⟩, by decide +kernel, by decide +kernel, by decide +kernel,
    by decide +kernel, by decide +kernel, by decide +kernel, by decide +kernel, by decide +kernel, by decide +kernel,
    of_any (by decide +kernel)⟩

/-- The rig with kiosk 7 below its quota and its want-room flag set. -/
def wantRoomRig : State := { rig with kioskSpool := put rig.kioskSpool 7 { quota := 256, held := 255, wantRoom := true } }

/-- The ending of a job with an empty chain makes the want-room test too (R77 step 3; log entry 13). -/
theorem test_endJob_room : after (exec (.printCancel 1 7 9) { oneJob (jobOf 9 .queued false [] 0) with
      kioskSpool := wantRoomRig.kioskSpool }) (fun t =>
    (t.notices[(7 : Kiosk)]).pending = 0x200 && !(t.kioskSpool[(7 : Kiosk)]).wantRoom) = true := by decide +kernel

theorem witness_JobEndings_record : job? rig 65535 = some (jobOf 65535 .done false [] 48) ∧
    ((oneJob { jobOf 9 .cancelling false [7] 3 with stallEnd := true }).jobs.all fun j => j.stallEnd) = true ∧
    ((wantRoomRig).kioskSpool[(7 : Kiosk)]).held < ((wantRoomRig).kioskSpool[(7 : Kiosk)]).quota := by decide +kernel

/-- The rig with kiosk 7 waiting for room. -/
def wantingRoom : State :=
  { rig with kioskSpool := put rig.kioskSpool 7 { quota := 256, held := 256, wantRoom := true } }

theorem witness_JobStatusAndSettings : (Takes rig 1 0 ∧ OnKiosk 1 1 ∧ Takes rig 2 0 ∧ OnKiosk 2 2 ∧ Takes rig serviceLink 0) ∧
    job? rig 3 = none ∧ ((job? rig 65535).any fun j => decide (j.kiosk = 1) && j.state.isTerminal) = true ∧
    ((job? rig 2).any fun j => decide (j.kiosk ≠ 2) && !j.state.isTerminal) = true ∧
    (7 < (8 : Byte).toNat ∧ (7 : Byte).toNat = (7 : Kiosk).val ∧ (rig.kioskSpool[(7 : Kiosk)]).wantRoom = false) ∧
    (wantingRoom.kioskSpool[(7 : Kiosk)]).wantRoom = true ∧ (wantingRoom.kioskSpool[(7 : Kiosk)]).held < min 1024 1025 :=
  ⟨⟨takes_rig _, rfl, takes_rig _, rfl, takes_rig _⟩, by decide +kernel⟩

theorem witness_JobStatusAndSettings_record :
    (rig.printQueue[(3 : Slot)] = [1] ++ 2 :: [] ∧ 2 ∉ [1] ∧ (job? rig 2).any (fun j => j.anyTarget && !j.state.isTerminal) = true) ∧
    jobRecord rig { jobOf 2 .filling true [2] 20 with anyTarget := true } false =
      [0, 2, 1, 255, 3, 1, 1, 2, 0, 0, 0, 20, 0, 0, 0, 0, 0, 1, 0, 0, 0] ∧
    jobRecord rig { jobOf 65535 .failed false [] 48 with cause := some .fillStall, pages := some 0x0102 } true =
      [255, 255, 1, 3, 3, 7, 14, 255, 0, 0, 0, 0, 0, 0, 0, 0, 0, 0, 1, 2, 4] := by decide +kernel

/-! ### Witnesses: the completions -/

theorem witness_FeedMarks :
    (EngineTxn (feeding (inStep .startMark) (jobOf 1 .feeding false [0] 20) startMark) startMark 3 .markStart .printer ∧
      EndsOk startMark ack [] ∧ wireOutcome startMark (nack 1) = .refused ∧
      ((feeding (inStep .startMark) (jobOf 1 .feeding false [0] 20) startMark).feeds[(3 : Slot)]).step = .startMark) ∧
    (EngineTxn (flying startMark) startMark 3 .markStart .printer ∧ ((flying startMark).feeds[(3 : Slot)]).step ≠ .startMark) ∧
    (EngineTxn (feeding (inStep .endMark) (jobOf 1 .feeding false [] 0) endMark) endMark 3 .markEnd .printer ∧
      EndsOk endMark ack [] ∧ wireOutcome endMark (nack 3) = .refused ∧
      ((headJob? (feeding (inStep .endMark) (jobOf 1 .feeding false [] 0) endMark) 3).any fun j =>
        decide (j.state = .feeding ∧ j.isOpen = false ∧ j.chain = [])) = true ∧
      EngineTxn (flying endMark) endMark 3 .markEnd .printer ∧ ((flying endMark).feeds[(3 : Slot)]).step ≠ .endMark) ∧
    (EngineTxn (feeding { inStep .endWait with pagesWanted := true } (jobOf 1 .draining false [] 0) pstateRead) pstateRead 3
        .pstate .printer ∧ EndsOk pstateRead (good pstateRead [0, 0, 1, 0]) [0, 0, 1, 0] ∧
      ((headJob? (feeding { inStep .endWait with pagesWanted := true } (jobOf 1 .draining false [] 0) pstateRead) 3).any fun j =>
        decide (j.state = .draining)) = true ∧
      EngineTxn (flying pstateRead) pstateRead 3 .pstate .printer ∧ ((flying pstateRead).feeds[(3 : Slot)]).pagesWanted = false) ∧
    (EngineTxn (feeding (inStep .abortMark) (jobOf 1 .cancelling false [0] 20) abortMark) abortMark 3 .markAbort .printer ∧
      ((headJob? (feeding (inStep .abortMark) (jobOf 1 .cancelling false [0] 20) abortMark) 3).any fun j =>
        decide (j.state = .cancelling)) = true ∧ EndsOk abortMark ack [] ∧ wireOutcome abortMark (nack 2) = .refused) := by
  unfold EngineTxn EndsOk
  refine ⟨?_, ?_, ?_, ?_, ?_⟩ <;> decide +kernel

theorem witness_FeedMarks_outcomes :
    ((wireOutcome startMark (nack 0) = .noAnswer ∧ wireOutcome endMark (nack 6) = .checkFail ∧
      wireOutcome pstateRead ⟨none, [3, 0, 0, 0, 0]⟩ = .short)) ∧
    (EngineTxn (flying abortMark) abortMark 3 .markAbort .printer ∧ ((flying abortMark).feeds[(3 : Slot)]).step ≠ .abortMark) ∧
    (BusOutcome.stalled ≠ .ok ∧ BusOutcome.aborted ≠ .refused) := by
  unfold EngineTxn
  decide +kernel

theorem witness_FeedCreditAndBlocks :
    (EngineTxn (flying creditRead) creditRead 3 .credit .printer ∧ ((flying creditRead).feeds[(3 : Slot)]).step = .stream ∧
      EndsOk creditRead (good creditRead [0]) [0] ∧ wireOutcome creditRead (nack 1) = .refused) ∧
    (EngineTxn (feeding (inStep .endWait) (jobOf 1 .draining false [] 0) creditRead) creditRead 3 .credit .printer ∧
      ((feeding (inStep .endWait) (jobOf 1 .draining false [] 0) creditRead).feeds[(3 : Slot)]).step ≠ .stream) ∧
    (EngineTxn (flying feedWrite) feedWrite 3 .feed .printer ∧ EndsOk feedWrite ack [] ∧
      ((headJob? (flying feedWrite) 3).any fun j => decide (j.state = .feeding ∧ j.chain = [0, 1])) = true ∧
      ((flying feedWrite).feeds[(3 : Slot)]).creditKnown = true ∧ wireOutcome feedWrite (nack 3) = .refused) ∧
    (EngineTxn (feeding (inStep .abortMark) (jobOf 1 .cancelling false [0] 20) feedWrite) feedWrite 3 .feed .printer ∧
      ((feeding (inStep .abortMark) (jobOf 1 .cancelling false [0] 20) feedWrite).feeds[(3 : Slot)]).step = .abortMark) ∧
    (EngineTxn (feeding (inStep .none) (jobOf 1 .filling true [0] 20) feedWrite) feedWrite 3 .feed .printer ∧
      ((feeding (inStep .none) (jobOf 1 .filling true [0] 20) feedWrite).feeds[(3 : Slot)]).step = .none) := by
  unfold EngineTxn EndsOk
  decide +kernel

theorem witness_FeedCreditAndBlocks_outcomes :
    wireOutcome creditRead ⟨none, [49]⟩ = .overlong ∧ wireOutcome feedWrite (nack 4) = .checkFail ∧
      ((flying feedWrite).feeds[(3 : Slot)]).step = .stream ∧
      EngineTxn (feeding { inStep .stream with creditKnown := false } (jobOf 1 .feeding false [0] 20) feedWrite) feedWrite 3
        .feed .printer := by
  unfold EngineTxn
  decide +kernel

/-- The rig with kiosk 3's scan ended, its scanner as given. -/
def idleScan (u : UnitSlot) (waiting : List ScanFrame) : State :=
  { rig with
    scans := State.reset.scans, units := put rig.units 9 u
    kiosks := put rig.kiosks 3 { KioskLink.reset with scan := waiting } }

theorem witness_ScanStartCases : (Takes rig 3 0 ∧ OnKiosk 3 3 ∧ (rig.kiosks[(3 : Kiosk)]).maintenance = false ∧
      11 < (12 : Byte).toNat ∧ (11 : Byte).toNat = (11 : Slot).val ∧ definedKind rig 11 ≠ some .scanner) ∧
    (definedKind rig 9 = some .scanner ∧ claimOf? rig 7 (.scanner 9) = none ∧ Takes rig 7 0 ∧ OnKiosk 7 7) ∧
    (((claimOf? rig 4 (.scanner 9)).any fun c => !c.held) = true ∧ Takes rig 4 0 ∧ OnKiosk 4 4) ∧
    (((claimOf? rig 3 (.scanner 9)).any fun c => c.held) = true ∧ (rig.scans[(9 : Slot)]).state ≠ .idle) ∧
    (((idleScan rig.units[(11 : Slot)] []).scans[(9 : Slot)]).state = .idle ∧ isReady (idleScan (upd rig.units 9 fun u =>
      { u with definition := some { address := 35, kind := .scanner, state := .lost } })[(9 : Slot)] []) 9 = false) ∧
    (isReady (idleScan rig.units[(9 : Slot)] [⟨9, 0, []⟩]) 9 = true ∧ 0 < framesWaiting (idleScan rig.units[(9 : Slot)] [⟨9, 0, []⟩]) 3 9) ∧
    (framesWaiting (idleScan rig.units[(9 : Slot)] []) 3 9 = 0 ∧ bed (idleScan rig.units[(9 : Slot)] []) 9 = (216, 297)) ∧
    (4 < (5 : Byte).toNat ∧ (4 : Byte).toNat ≤ 4 ∧ 3 < (4 : Byte).toNat ∧ ScanMode.line1.code = (3 : Byte).toNat ∧
      ScanMode.gray8.code = (1 : Byte).toNat ∧ Takes (idleScan rig.units[(9 : Slot)] []) 3 0) :=
  ⟨⟨takes_rig _, rfl, by decide +kernel⟩, ⟨by decide +kernel, by decide +kernel, takes_rig _, rfl⟩,
    ⟨by decide +kernel, takes_rig _, rfl⟩, by decide +kernel, by decide +kernel, by decide +kernel, by decide +kernel,
    by decide +kernel, by decide +kernel, by decide +kernel, by decide +kernel, by decide +kernel, rfl, by decide +kernel⟩

theorem witness_ScanStartCases_bed : (rig.units[(0 : Slot)]).ident = none ∧
    ((rig.units[(9 : Slot)]).ident.any fun v => decide (v.cap1.toNat = 216 ∧ v.cap2.toNat = 297)) = true := by decide +kernel

theorem witness_ScanCreditAndStop : (Takes rig 3 0 ∧ OnKiosk 3 3 ∧ Takes rig 7 0 ∧ OnKiosk 7 7 ∧
      11 < (12 : Byte).toNat ∧ (11 : Byte).toNat = (11 : Slot).val) ∧
    (definedKind rig 9 = some .scanner ∧ definedKind rig 11 ≠ some .scanner ∧
      ((idleScan rig.units[(9 : Slot)] []).scans[(9 : Slot)]).state = .idle) ∧
    ((rig.scans[(9 : Slot)]).state ≠ .idle ∧ (rig.scans[(9 : Slot)]).kiosk = some 3 ∧ (rig.scans[(9 : Slot)]).kiosk ≠ some 7) ∧
    ((rig.scans[(9 : Slot)]).credit + (28 : Byte).toNat + framesWaiting rig 3 9 ≤ 32 ∧
      32 < (rig.scans[(9 : Slot)]).credit + (29 : Byte).toNat + framesWaiting rig 3 9) ∧
    ((scanning { runningScan with state := .halting } haltWrite).scans[(9 : Slot)]).state = .halting :=
  ⟨⟨takes_rig _, rfl, takes_rig _, rfl, by decide +kernel⟩, by decide +kernel⟩

theorem witness_ScanSteps :
    (EngineTxn (scanning { runningScan with state := .preparing, setup := some .sset } ssetWrite) ssetWrite 9 .sset .scanner ∧
      EndsOk ssetWrite ack [] ∧ wireOutcome ssetWrite (nack 1) = .refused) ∧
    (EngineTxn (scanning { runningScan with state := .preparing, setup := some .sgo } sgoWrite) sgoWrite 9 .sgo .scanner ∧
      EndsOk sgoWrite ack [] ∧ wireOutcome sgoWrite (nack 1) = .refused) ∧
    (EngineTxn (flying sstateRead) sstateRead 9 .sstate .scanner ∧ EndsOk sstateRead (good sstateRead [0, 0, 9]) [0, 0, 9] ∧
      ((flying sstateRead).scans[(9 : Slot)]).state = .running) ∧
    (EngineTxn (scanning { runningScan with state := .halting } sstateRead) sstateRead 9 .sstate .scanner) ∧
    (EngineTxn (scanning { runningScan with state := .halting } haltWrite) haltWrite 9 .shalt .scanner ∧
      EndsOk haltWrite ack [] ∧ wireOutcome haltWrite (nack 2) = .refused) := by
  unfold EngineTxn EndsOk
  decide +kernel

theorem witness_ScanSteps_outcomes :
    (wireOutcome ssetWrite (nack 0) = .noAnswer ∧ wireOutcome sstateRead ⟨none, [2, 0, 0, 0]⟩ = .short) ∧
    (EngineTxn (flying ssetWrite) ssetWrite 9 .sset .scanner ∧ EngineTxn (flying sgoWrite) sgoWrite 9 .sgo .scanner ∧
      EngineTxn (flying haltWrite) haltWrite 9 .shalt .scanner ∧ ((flying haltWrite).scans[(9 : Slot)]).state ≠ .halting ∧
      ((flying haltWrite).scans[(9 : Slot)]).setup ≠ some .sset) := by
  unfold EngineTxn
  decide +kernel

theorem witness_ScanData :
    (EngineTxn (flying availRead) availRead 9 .avail .scanner ∧ EndsOk availRead (good availRead [6]) [6] ∧
      ((flying availRead).scans[(9 : Slot)]).state = .running) ∧
    (EngineTxn (scanning { runningScan with state := .ending } availRead) availRead 9 .avail .scanner ∧
      EndsOk availRead (good availRead [0]) [0] ∧ byteAt [(0 : Byte)] 0 = 0 ∧ byteAt [(6 : Byte)] 0 ≠ 0) ∧
    (EngineTxn (scanning { runningScan with state := .halting } availRead) availRead 9 .avail .scanner) ∧
    (EngineTxn (flying pullRead) pullRead 9 .pull .scanner ∧ EndsOk pullRead (good pullRead [1, 2]) [1, 2] ∧
      ((flying pullRead).scans[(9 : Slot)]).kiosk = some 3 ∧ wireOutcome pullRead (nack 2) = .refused) ∧
    (EngineTxn (scanning { runningScan with state := .halting } pullRead) pullRead 9 .pull .scanner) := by
  unfold EngineTxn EndsOk
  decide +kernel

theorem witness_ScanData_outcomes : wireOutcome availRead ⟨none, [0, 0]⟩ = .short ∧
    wireOutcome pullRead ⟨none, [1, 5, 0]⟩ = .checkFail ∧
    (EngineTxn (scanning { runningScan with state := .ending } pullRead) pullRead 9 .pull .scanner ∧ BusOutcome.aborted ≠ .ok) := by
  unfold EngineTxn
  decide +kernel

theorem witness_UnitDefineAndRemove : Takes rig serviceLink 0 ∧
    (11 < (12 : Byte).toNat ∧ (11 : Byte).toNat = (11 : Slot).val ∧
      (rig.units[(11 : Slot)]).definition = some { address := 119, kind := .printer, state := .probing } ∧
      (rig.units[(0 : Slot)]).definition = none) ∧
    (119 < (120 : Byte).toNat ∧ (119 : Byte).toNat ≤ 119 ∧ 1 ≤ (1 : Byte).toNat ∧ addressHolder rig 119 = some 11 ∧
      addressHolder rig 1 = none) ∧
    (3 < (4 : Byte).toNat ∧ UnitKind.panel.code = 3 ∧ UnitKind.printer.code = 1 ∧ AttnMode.edgeRise.code = (3 : Byte).toNat) ∧
    (definedKind rig 4 = some .panel ∧ definedKind rig 9 = some .scanner ∧ ClaimLaw rig) ∧
    ((flying feedWrite).bus = .running feedWrite ∧ feedWrite.slot = some 3 ∧ feedWrite.slot ≠ some 4) :=
  ⟨takes_rig _, by decide +kernel, by decide +kernel, by decide +kernel, ⟨by decide +kernel, by decide +kernel, claimLaw_rig⟩,
    by decide +kernel⟩

theorem headEnded_rig (cause : JobCause) : HeadEnded 3 cause lawful (endJob 1 .failed none (some cause) lawful) := by
  have e : headJob? lawful 3 = some (jobOf 1 .feeding false [0, 1] 20) := by decide +kernel
  unfold HeadEnded
  refine ⟨fun h => ?_, fun j h => ?_⟩ <;> rw [e] at h
  · cases h
  · obtain rfl := Option.some.inj h
    exact ⟨fun _ => rfl, fun h => (nomatch h), fun h => absurd rfl h⟩

theorem witness_UnitDefineAndRemove_work :
    (LiveLaw lawful ∧ definedKind lawful 4 = some .panel) ∧
    (PrintQueueLaw lawful ∧ ∃ u, HeadEnded 3 .unitRemoved lawful u) ∧
    ((rig.scans[(9 : Slot)]).state ≠ .idle ∧ (rig.scans[(9 : Slot)]).kiosk = some 3 ∧ (rig.scans[(9 : Slot)]).state ≠ .halting ∧
      ((haltingFor .cancelled).scans[(9 : Slot)]).state = .halting) :=
  ⟨⟨witness_LiveContactsOwned, by decide +kernel⟩, ⟨witness_PrintQueuesLawful, _, headEnded_rig _⟩, by decide +kernel⟩

/-- UNIT REMOVE of printer 3: its head job FAILED with UNIT_REMOVED, its ANY job moved to printer 6 (R115). -/
theorem test_removePrinter : after (exec (.unitRemove 8 7 3) rig) (fun t => t.printQueue[(6 : Slot)] = [2] &&
    ((job? t 1).any fun j => j.state = .failed && j.cause = some .unitRemoved) &&
      (t.notices[(1 : Kiosk)]).pending = 0x810) = true := by decide +kernel

/-- The claims of the rig that go with panel 4 and with scanner 9, and one that stays; the zones of panel 4 and their owners. -/
theorem witness_UnitDefineAndRemove_claims : ClaimLaw rig ∧
    (rig.claims.filter (goesWith rig 4 .panel)).map Claim.id = [255] ∧
    (rig.claims.filter (goesWith rig 9 .scanner)).map Claim.id = [1, 2] ∧ rig.waits = [2] ∧
    (zoneOn rig 4 0 = true ∧ zoneOwner rig 0 = some 2 ∧ zoneOn rig 4 31 = true ∧ zoneOwner rig 31 = some 0 ∧
      zoneOn rig 9 31 = false) := ⟨claimLaw_rig, by decide +kernel⟩

/-- UNIT REMOVE of panel 4 and of scanner 9: CLAIM_LOST for holders and waiters, ZONE_CHANGED for owners, SCAN_FAILED for the
kiosk of the scan (R18, R68, R132). -/
theorem test_removeClaims :
    after (exec (.unitRemove 8 7 4) rig) (fun t => t.claims.map Claim.id = [1, 2] &&
      (t.notices[(0 : Kiosk)]).pending = 0xC04 && (t.notices[(2 : Kiosk)]).pending = 0xC00) = true ∧
    after (exec (.unitRemove 8 7 9) rig) (fun t => t.claims.map Claim.id = [255] && t.waits = [] &&
      (t.notices[(3 : Kiosk)]).pending = 0x904 && (t.notices[(4 : Kiosk)]).pending = 0x804) = true := by decide +kernel

/-- The rig with slot 4's mode, its line at a level, and its pending flag. -/
def line4 (m : AttnMode) (high pending : Bool) : State :=
  { rig with
    units := upd rig.units 4 fun u => { u with mode := m }, attnLine := put rig.attnLine 4 high
    attn := put rig.attn 4 { pending := pending, capture := 9 } }

theorem witness_Attention : Takes rig serviceLink 0 ∧
    (11 < (12 : Byte).toNat ∧ 3 < (4 : Byte).toNat ∧ (11 : Byte).toNat = (11 : Slot).val ∧ AttnMode.edgeRise.code = (3 : Byte).toNat ∧
      (rig.units[(0 : Slot)]).definition = none ∧ (rig.units[(4 : Slot)]).definition ≠ none ∧
      (rig.units[(4 : Slot)]).mode = .levelLow ∧ (rig.units[(4 : Slot)]).mode ≠ .levelHigh) ∧
    (lineActive (line4 .levelHigh true false) 4 = true ∧ lineActive (line4 .edgeFall true false) 4 = false ∧
      pollInFlight rig 4 = false ∧ pollInFlight (flying causePoll) 4 = true) ∧
    ((fullReset true true).phase = .full ∧ (rig.units[(4 : Slot)]).mode = .levelLow ∧
      ((line4 .levelHigh false false).units[(4 : Slot)]).mode = .levelHigh) ∧
    (((line4 .edgeFall true true).attn[(4 : Slot)]).pending = true ∧ (line4 .edgeFall true false).attnLine[(4 : Slot)] ≠ false ∧
      ((line4 .edgeFall true false).attn[(4 : Slot)]).pending = false ∧ false = decide (AttnMode.edgeFall = .edgeRise) ∧
      true = decide (AttnMode.edgeRise = .edgeRise) ∧ (line4 .edgeRise false false).attnLine[(4 : Slot)] ≠ true) ∧
    ((flying causePoll).bus = .running causePoll ∧ causePoll.owner = .cause ∧ causePoll.slot = some 4 ∧
      causePoll.orphaned = false ∧ isReady (flying causePoll) 4 = true ∧
      wireOutcome causePoll (good causePoll [1]) = .ok ∧ okData { causePoll with
        progress := wireProgress causePoll (good causePoll [1]) } .ok = [1] ∧ wireOutcome causePoll (nack 1) = .refused) ∧
    (definedKind rig 4 = some .panel ∧ (rig.panels[(4 : Slot)]).readWanted = false ∧ definedKind rig 9 = some .scanner ∧
      (rig.scans[(9 : Slot)]).state = .running ∧ definedKind rig 6 = some .printer ∧ (rig.feeds[(6 : Slot)]).step = .none) :=
  ⟨takes_rig _, by decide +kernel⟩

/-- The level rule finds nothing to latch: an inactive line, a call that waits, an orphaned poll in flight (R145). -/
theorem witness_Attention_level : lineActive (line4 .edgeFall true false) 4 = false ∧
    ((line4 .levelHigh true true).attn[(4 : Slot)]).pending = true ∧
    pollInFlight (flying { causePoll with orphaned := true }) 4 = true := by decide +kernel

theorem witness_Attention_outcomes : wireOutcome causePoll (nack 0) = .noAnswer ∧ BusOutcome.stalled ≠ .ok ∧
    ((readTaken.panels[(4 : Slot)]).readWanted = true ∧ definedKind readTaken 4 = some .panel) ∧
    ((runningScan.state = .running ∧ ((haltingFor .cancelled).scans[(9 : Slot)]).state = .halting)) := by decide +kernel

/-- The rig with printer 3's engine in a step, paused or not. -/
def pausedIn (st : FeedStep) (cause : Option PauseCause) : State :=
  { rig with feeds := put rig.feeds 3 { inStep st with paused := cause.isSome, pauseCause := cause, markHeld := true } }

theorem witness_Attention_empty : (0x80 : Byte) &&& 0x7F = 0 ∧ definedKind rig 9 ≠ some .printer := by decide +kernel

theorem witness_Attention_printer :
    (definedKind rig 3 = some .printer ∧ (0x7F : Byte) &&& 0x7F ≠ 0 ∧ WithPrinter (rig.feeds[(3 : Slot)]) ∧
      ¬WithPrinter (inStep .abortMark) ∧ ¬WithPrinter (inStep .none)) ∧
    ((headJob? rig 3).any (fun j => j.state = .feeding) = true ∧ (rig.feeds[(3 : Slot)]).job = some 1 ∧ (job? rig 1).isSome = true) ∧
    (((pausedIn .endWait none).feeds[(3 : Slot)]).step = .endWait ∧
      ((feeding (inStep .endMark) (jobOf 1 .feeding false [] 0) endMark).feeds[(3 : Slot)]).step = .endMark) ∧
    ((0x38 : Byte) &&& 0x38 = 0x38 ∧ (0x38 : Byte).getLsbD 5 = true ∧ (0x08 : Byte) &&& 0x38 = 0x08 ∧
      (0x08 : Byte).getLsbD 5 = false ∧ (0x08 : Byte).getLsbD 4 = false ∧ (0x18 : Byte).getLsbD 4 = true) ∧
    (((pausedIn .stream (some .jam)).feeds[(3 : Slot)]).pauseCause = some .jam ∧
      ((pausedIn .stream (some .jam)).feeds[(3 : Slot)]).paused = true ∧ ((pausedIn .stream none).feeds[(3 : Slot)]).paused = false) := by
  unfold WithPrinter
  decide +kernel

/-- A cause byte with no flag set changes nothing, and one with a flag clears a printer's mark held (R148, R111). -/
theorem test_cause_empty : ((causeToEngine 3 0 77 (pausedIn .startMark none)).feeds[(3 : Slot)]).markHeld = true ∧
    ((causeToEngine 3 1 77 (pausedIn .startMark none)).feeds[(3 : Slot)]).markHeld = false := by decide +kernel
/-- A bit that names no flag of a printer is ignored (R203). -/
theorem test_cause_undefined_bit : causeToEngine 3 0x80 77 (pausedIn .startMark none) =
    causeToEngine 3 0 77 (pausedIn .startMark none) := rfl
/-- JOB_ABORTED before JOB_END: the job is FAILED, and the JOB_END finds step NONE (R111). -/
theorem test_cause_aborted : ((causeToEngine 3 0x06 77 (pausedIn .stream none)).feeds[(3 : Slot)]).step = .none ∧
    (job? (causeToEngine 3 0x06 77 (pausedIn .stream none)) 1).any (fun j => j.cause = some .printerAbort) = true := by
  decide +kernel

theorem witness_Probing :
    (∀ k : BusKind, (pinging k 0 0).bus = .running (flight .probe 11 k 0 [] 0)) ∧
    (EndsOk (flight .probe 11 .ping 0 [] 0) ack [] ∧ EndsOk (flight .probe 11 .write 2 [0] 0) ack [] ∧
      EndsOk (flight .probe 11 .read 1 [] 8) (good (flight .probe 11 .read 1 [] 8) [1, 0, 1, 1, 0, 0, 0, 0])
        [1, 0, 1, 1, 0, 0, 0, 0]) ∧
    (definedKind rig 11 = some .printer ∧ UnitKind.printer.code = 1 ∧ UnitKind.scanner.code ≠ 1) ∧
    wireOutcome (flight .probe 11 .ping 0 [] 0) (nack 0) ≠ .ok ∧
    (rig.units[(11 : Slot)]).definition = some { address := 119, kind := .printer, state := .probing } ∧
    (unitState rig 10 = some .lost ∧ (rig.units[(10 : Slot)]).reprobe = some 0 ∧ reached rig.hubTime 0 = true ∧
      reached 1999 2000 = false) := by
  unfold EndsOk
  refine ⟨fun k => by cases k <;> rfl, ?_⟩
  decide +kernel

theorem witness_Probing_cut : (flight .probe 11 .read 1 [] 8).owner = .probe ∧
    (flight .probe 11 .read 1 [] 8).slot = some 11 ∧ (flight .probe 11 .read 1 [] 8).orphaned = false ∧
    BusOutcome.stalled ≠ .ok ∧ BusOutcome.aborted ≠ .ok := by decide +kernel

theorem witness_FailureCountAndLoss : isReady rig 11 = false ∧ isReady rig 3 = true ∧ (rig.units[(3 : Slot)]).failures < 2 ∧
    (isReady { rig with units := upd rig.units 4 fun u => { u with failures := 2 } } 4 = true ∧
      2 ≤ ({ rig with units := upd rig.units 4 fun u => { u with failures := 2 } }.units[(4 : Slot)]).failures) ∧
    (definedKind rig 4 = some .panel ∧ definedKind rig 3 = some .printer ∧ definedKind rig 9 = some .scanner) := by
  decide +kernel

theorem witness_FailureCountAndLoss_work : (∃ u, HeadEnded 3 .unitLost lawful u) ∧
    ((rig.scans[(9 : Slot)]).state ≠ .idle ∧ (rig.scans[(9 : Slot)]).state ≠ .halting ∧ (rig.scans[(9 : Slot)]).kiosk = some 3 ∧
      ((haltingFor .lapsed).scans[(9 : Slot)]).haltOutcome = some .lapsed ∧ (rig.scans[(8 : Slot)]).state = .idle) ∧
    ((job? rig 2).any (fun j => j.anyTarget && decide (j.state = .filling)) = true ∧ anyPrinter rig (some 3) = some 6 ∧
      anyPrinter { rig with units := put rig.units 6 rig.units[(0 : Slot)] } (some 3) = none ∧ job? rig 3 = none ∧
      (job? rig 1).any (fun j => !j.anyTarget) = true) :=
  ⟨⟨_, headEnded_rig _⟩, by decide +kernel, by decide +kernel⟩

/-- The third failure of scanner 9: its scan ends UNIT_LOST with SCAN_FAILED (R132). -/
theorem test_scannerLost : (fun t => (t.scans[(9 : Slot)]).lastOutcome = .unitLost ∧ (t.notices[(3 : Kiosk)]).pending = 0x900 ∧
    unitState t 9 = some .lost) (countFailure 9 .noAnswer { rig with units := upd rig.units 9 fun u => { u with failures := 2 } }) := by
  decide +kernel

theorem witness_BusRaw : Takes rig serviceLink 0 ∧ (1 ≤ [(0 : Byte)].length ∧ (List.replicate 48 (0 : Byte)).length ≤ 48) ∧
    (rig.busRaw = none ∧ lawful.busRaw ≠ none ∧ Takes { rig with busRaw := some 1 } serviceLink 0) ∧
    (127 < (128 : Byte).toNat ∧ (127 : Byte).toNat ≤ 127) ∧
    ({ flying rawRead with busRaw := some 0 }.bus = .running rawRead ∧ rawRead.owner = .service ∧ rawRead.orphaned = false ∧
      rawRead.kind = .read ∧ EndsOk rawRead (good rawRead [5]) [5]) :=
  ⟨takes_rig _, by decide +kernel, ⟨by decide +kernel, by decide +kernel, rfl, by decide +kernel⟩, by decide +kernel,
    by unfold EndsOk; decide +kernel⟩

theorem witness_BusRaw_outcomes :
    (rawRead.kind = .read ∧ (nack 2).nackAt = some 2 ∧ ack.nackAt = none) ∧
    (48 < (49 : Byte).toNat ∧ (0 : Byte).toNat ≤ 48 ∧ rawRead.minCount ≤ (0 : Byte).toNat ∧
      [(9 : Byte)] = ([] : List Byte) ++ [9] ∧ ([] : List Byte).length = (0 : Byte).toNat) ∧
    { flying rawRead with busRaw := some 0 }.busRaw = some 0 := by decide +kernel

theorem witness_BusRaw_check : rawRead.kind = .read ∧ (2 : Byte).toNat ≤ 48 ∧ rawRead.minCount ≤ (2 : Byte).toNat ∧
    [(1 : Byte), 2, 9] = [1, 2] ++ 9 :: [] ∧ [(1 : Byte), 2].length = (2 : Byte).toNat ∧
    [(1 : Byte), 2].length ≤ (2 : Byte).toNat := by decide +kernel

/-- The reply of a BUS RAW that a stall cut short after the count and two bytes, and of one that an abort cut short after its
check byte (R160, R167, R168). -/
theorem test_rawReply_cut : rawReply { rawRead with progress := cutProgress rawRead 3 [4, 1, 2] } .stalled =
    [0, 6, 1, 4, 0, 0, 1, 2] ∧
    rawReply { rawRead with progress := cutProgress rawRead 3 [2, 1, 2, 9] } .aborted =
      [0, 7, 3, 2, 9, crc8 (sentBytes rawRead ++ [2, 1, 2]), 1, 2] := by decide +kernel

theorem witness_AbortStallRelease : (Takes (flying feedWrite) serviceLink 0 ∧ (flying feedWrite).bus = .running feedWrite) ∧
    (Takes rig serviceLink 0 ∧ rig.bus = .idle) ∧
    (reached 30 feedWrite.stallAt = true ∧ reached 29 feedWrite.stallAt = false) ∧
    ({ softRig false none with bus := .recovering 30 }.bus = .recovering 30 ∧ (softRig false none).phase = .soft 0 false) ∧
    rig.phase = .running := ⟨⟨⟨rfl, by decide +kernel⟩, rfl⟩, ⟨takes_rig _, rfl⟩, by decide +kernel, ⟨rfl, rfl⟩, rfl⟩

/-- An orphaned FEED of slot 3, which is defined again, and an orphaned transaction for every completion command. -/
theorem witness_AbortStallRelease_orphaned :
    ((flying { feedWrite with orphaned := true }).bus = .running { feedWrite with orphaned := true } ∧
      feedWrite.slot = some 3 ∧ definedKind (flying { feedWrite with orphaned := true }) 3 = some .printer) ∧
    ∀ w : TxnName, ∃ t : Txn, t.orphaned = true ∧ t.name = w := by
  have h : ∀ (o : Owner) (k : BusKind) (c : Byte) (d : List Byte) (w : TxnName), (flight o 3 k c d 0).name = w →
      ∃ t : Txn, t.orphaned = true ∧ t.name = w := fun o k c d w e => ⟨{ flight o 3 k c d 0 with orphaned := true }, rfl, e⟩
  refine ⟨⟨rfl, by decide +kernel⟩, fun w => ?_⟩
  cases w
  · exact h .probe .ping 0 [] _ rfl
  · exact h .probe .write 2 [0] _ rfl
  · exact h .probe .read 1 [] _ rfl
  · exact h .cause .read 3 [] _ rfl
  · exact h .engine .read 0x10 [] _ rfl
  · exact h .engine .write 0x11 [] _ rfl
  · exact h .engine .write 0x12 [1] _ rfl
  · exact h .engine .write 0x12 [2] _ rfl
  · exact h .engine .write 0x12 [3] _ rfl
  · exact h .engine .read 0x13 [] _ rfl
  · exact h .engine .write 0x20 [] _ rfl
  · exact h .engine .write 0x21 [] _ rfl
  · exact h .engine .read 0x22 [] _ rfl
  · exact h .engine .read 0x23 [] _ rfl
  · exact h .engine .write 0x24 [] _ rfl
  · exact h .engine .read 0x25 [] _ rfl
  · exact h .engine .read 0x30 [] _ rfl
  · exact h .service .ping 0 [] _ rfl
  · exact h .service .read 0 [] _ rfl
  · exact h .service .write 0 [] _ rfl

theorem witness_NoticeRequests : (Takes rig 7 0 ∧ OnKiosk 7 7 ∧ Takes rig serviceLink 0) ∧
    (4095 < (4096 : Half).toNat ∧ (4095 : Half).toNat = (4095 : ClassSet).toNat ∧ 7 < (8 : Byte).toNat ∧
      (7 : Byte).toNat = (7 : Kiosk).val) ∧
    (rig.notices[(7 : Kiosk)]).forced = none ∧
    ({ rig with notices := upd rig.notices 7 fun n => { n with forced := some (1, 2) } }.notices[(7 : Kiosk)]).forced ≠ none :=
  ⟨⟨takes_rig _, rfl, takes_rig _⟩, by decide +kernel⟩

/-- The rig with link 0's receiver. -/
def hearing (r : Receiver) : State := { rig with links := upd rig.links 0 fun q => { q with receiver := r } }

theorem witness_LinkEvents :
    ((rig.links[(0 : Link)]).receiver = .hunt ∧ ((hearing .length).links[(0 : Link)]).receiver = .length ∧
      (200 : Byte).toNat ≤ 200 ∧ 200 < (201 : Byte).toNat) ∧
    (((hearing (.body 0 [2])).links[(0 : Link)]).receiver = .body 0 [2] ∧ [(2 : Byte)].length + 1 < (0 : Byte).toNat + 4) ∧
    ([(1 : Byte), 7, (crc16 [0, 1, 7] >>> 8).setWidth 8] ++ [(crc16 [0, 1, 7]).setWidth 8] =
        (1 : Byte) :: 7 :: [] ++ [(crc16 [0, 1, 7] >>> 8).setWidth 8, (crc16 [0, 1, 7]).setWidth 8] ∧
      ([] : List Byte).length = (0 : Byte).toNat ∧
      crc16 [0, 1, 7] = ((crc16 [0, 1, 7] >>> 8).setWidth 8 : Byte) ++ ((crc16 [0, 1, 7]).setWidth 8 : Byte)) ∧
    (crc16 [0, 1, 7] ≠ (0 : Byte) ++ (0 : Byte)) ∧ (rig.phase = .running ∧ (softRig true none).phase ≠ .running) ∧
    ((rig.links[(0 : Link)]).sending = none ∧
      ((softRig true (some ⟨none, []⟩)).links[(2 : Link)]).sending = some ⟨none, []⟩ ∧
      (lawful.links[(8 : Link)]).sending = some ⟨some 2, [0x5A]⟩) := by decide +kernel

/-- The rig with the receiver of a link before the last byte of a frame. -/
def lastOf (l : Link) (kind tag : Byte) (p : List Byte) : State :=
  let len := BitVec.ofNat 8 p.length
  let high := (crc16 (len :: kind :: tag :: p) >>> 8).setWidth 8
  { rig with links := upd rig.links l fun q => { q with receiver := .body len (kind :: tag :: p ++ [high]) } }

theorem lastByte_of {s : State} {l : Link} {kind tag b len : Byte} {p : List Byte}
    (h : (s.links[l]).receiver =
      .body len (kind :: tag :: p ++ [(crc16 (len :: kind :: tag :: p) >>> 8).setWidth 8]))
    (hb : b = (crc16 (len :: kind :: tag :: p)).setWidth 8) (hl : p.length = len.toNat)
    (hc : crc16 (len :: kind :: tag :: p) =
      ((crc16 (len :: kind :: tag :: p) >>> 8).setWidth 8 : Byte) ++ ((crc16 (len :: kind :: tag :: p)).setWidth 8 : Byte)) :
    LastByte s l kind tag p b := by
  subst hb
  exact ⟨len, _, _, h, by simp, hl, hc⟩

theorem witness_LinkEvents_request :
    ((lastOf 0 0x20 7 [1, 9, 0, 0, 0, 100, 0, 0, 0, 0]).phase = .running ∧ (Instr.claim 0 7 1 9 100 0).wellFormed = true ∧
      requestOf (.claim 0 7 1 9 100 0) = some (0, 7, .claim) ∧
      payloadOf (.claim 0 7 1 9 100 0) = [1, 9, 0, 0, 0, 100, 0, 0, 0, 0] ∧
      LastByte (lastOf 0 0x20 7 [1, 9, 0, 0, 0, 100, 0, 0, 0, 0]) 0 ReqKind.claim.code 7 [1, 9, 0, 0, 0, 100, 0, 0, 0, 0]
        ((crc16 [10, 0x20, 7, 1, 9, 0, 0, 0, 100, 0, 0, 0, 0]).setWidth 8)) ∧
    (Takes (lastOf 0 0x7F 7 []) 0 0 ∧ (∀ k ∈ ReqKind.all, k.code ≠ 0x7F) ∧ (List.replicate 200 (0 : Byte)).length ≤ 200 ∧
      LastByte (lastOf 0 0x7F 7 []) 0 0x7F 7 [] ((crc16 [0, 0x7F, 7]).setWidth 8)) ∧
    (deniedOn 8 .claim = true ∧ deniedOn 8 .maintain = false ∧ lengthAgrees .maintain true 1 7 = false ∧
      lengthAgrees .zoneSet true 19 2 = false ∧ lengthAgrees .busRaw true 3 4 = true) ∧
    (rig.busRaw = none ∧ lawful.busRaw ≠ none ∧ (2 : Byte) ≠ 0 ∧ (2 : Byte) ≠ 1) :=
  ⟨⟨rfl, by decide +kernel, rfl, by decide +kernel,
      lastByte_of (len := 10) (by decide +kernel) (by decide +kernel) (by decide +kernel) (by decide +kernel)⟩,
    ⟨⟨rfl, by decide +kernel⟩, by decide +kernel, by decide +kernel,
      lastByte_of (len := 0) (by decide +kernel) (by decide +kernel) (by decide +kernel) (by decide +kernel)⟩,
    by decide +kernel, by decide +kernel⟩

/-- A frame of an unknown KIND is refused with MALFORMED 1, and MAINTAIN with an unknown setting with BAD_ARG. -/
theorem test_unknown_kind : replyOn 0 (exec (.linkByteReceived 0 ((crc16 [0, 0x7F, 7]).setWidth 8)) (lastOf 0 0x7F 7 [])) =
    [10, 1] := by decide +kernel
theorem test_unknown_setting : replyOn 8 (exec (.linkByteReceived 8 ((crc16 [2, 5, 7, 0, 2]).setWidth 8))
    (lastOf 8 5 7 [0, 2])) = [8] := by decide +kernel

end Sys2Proof.Tests
end

section
/-!
PROOFS. The idle step (R1): which timer events a tick queues, and what a tick is outside a full reset and in one.
-/

namespace Sys2Proof.Machine

/-! ### Times (R1) -/

theorem reached_iff (now x : Time) : reached now x = true ↔ (now - x).toNat < 2 ^ 31 := decide_eq_true_iff

/-! ### The events that are due, by kind of timer -/

theorem mem_dueClaims (s : State) (e : Instr) : e ∈ dueClaims s ↔
    ∃ c ∈ s.claims, reached s.hubTime c.expiry = true ∧
      (c.held = true ∧ e = .leaseExpiry (BitVec.ofNat 8 c.id) ∨
        c.held = false ∧ e = .waitLimitExpiry (BitVec.ofNat 8 c.id)) := by
  unfold dueClaims
  simp only [List.mem_map, List.mem_filter, and_assoc]
  refine exists_congr fun c => and_congr_right fun _ => and_congr_right fun _ => ?_
  cases c.held <;> simp [eq_comm]

theorem mem_dueFills (s : State) (e : Instr) : e ∈ dueFills s ↔
    ∃ j ∈ s.jobs, j.isOpen = true ∧ reached s.hubTime (after j.lastData s.fillLimit) = true ∧
      e = .fillStallExpiry (BitVec.ofNat 16 j.id) := by
  unfold dueFills stallTime
  simp only [List.mem_map, List.mem_filter, Bool.and_eq_true, and_assoc, eq_comm (a := e)]

theorem reprobeDue_iff (s : State) (i : Slot) : reprobeDue s i = true ↔
    ∃ x, unitState s i = some .lost ∧ (s.units[i]).reprobe = some x ∧ reached s.hubTime x = true := by
  unfold reprobeDue
  rw [Bool.and_eq_true, decide_eq_true_iff, Option.any_eq_true]
  exact exists_and_left.symm

theorem mem_dueProbes (s : State) (e : Instr) : e ∈ dueProbes s ↔
    ∃ i : Slot, ∃ x, unitState s i = some .lost ∧ (s.units[i]).reprobe = some x ∧ reached s.hubTime x = true ∧
      e = .reprobeTimerExpiry i := by
  have mem_slot (i : Slot) : i ∈ (indices 12).filter (reprobeDue s) ↔ reprobeDue s i = true := by
    simp [indices]
  unfold dueProbes
  simp only [List.mem_map, mem_slot, reprobeDue_iff, eq_comm (a := e), ← exists_and_right, and_assoc]

theorem quiet_iff (s : State) : quiet s = true ↔ ∀ l : Link, (s.links[l]).sending = none := by
  simp [quiet, indices]

/-- A soft reset can complete when its release sequence and every frame being sent have ended (R198). -/
theorem softDone_isSome (s : State) : (softDone? s).isSome = true ↔
    ∃ r, s.phase = .soft r true ∧ ∀ l : Link, (s.links[l]).sending = none := by
  rw [← quiet_iff]
  unfold softDone?
  split
  case h_1 r h => simp [h]
  case h_2 h => simpa using fun r hr => absurd hr (h r)

theorem mem_dueSoft (s : State) (e : Instr) : e ∈ dueSoft s ↔
    ∃ r, s.phase = .soft r true ∧ (∀ l : Link, (s.links[l]).sending = none) ∧ e = .softResetComplete := by
  have h : e ∈ dueSoft s ↔ (softDone? s).isSome = true ∧ e = .softResetComplete := by
    by_cases hdone : (softDone? s).isSome = true <;> simp [dueSoft, hdone]
  rw [h, softDone_isSome, ← exists_and_right]
  simp only [and_assoc]

theorem mem_dueEvents (s : State) (e : Instr) :
    e ∈ dueEvents s ↔ e ∈ dueClaims s ∨ e ∈ dueFills s ∨ e ∈ dueProbes s ∨ e ∈ dueSoft s := by
  simp [dueEvents]

/-! ### The tick -/

theorem settle_pending (s : State) : (settle s).pending = s.pending := (congrArg State.pending (settle_frame s s) :)

theorem settle_hubTime (s : State) : (settle s).hubTime = s.hubTime := (congrArg State.hubTime (settle_frame s s) :)

/-- Which events are due does not depend on those that wait. -/
theorem dueEvents_withPending (s : State) (q : List Instr) : dueEvents { s with pending := q } = dueEvents s := rfl

theorem step_idle (s : State) (h : s.pending = []) : step s = .next (tick s) := by
  unfold step
  rw [h]

theorem tick_outsideFullReset (s : State) (h : s.phase ≠ .full) : tick s = passTime (settle s) := if_neg h

theorem tick_fullReset (s : State) (h : s.phase = .full) :
    tick s = if s.resetLow || s.powerOnHold then s else { s with pending := s.pending ++ [.fullResetComplete] } :=
  if_pos h

theorem passTime_hubTime (s : State) : (passTime s).hubTime = s.hubTime + 1 := rfl

theorem passTime_pending (s : State) (h : s.pending = []) : (passTime s).pending = dueEvents (passTime s) := by
  have hdue : dueEvents (passTime s) = dueEvents { s with hubTime := s.hubTime + 1 } := dueEvents_withPending _ _
  rw [hdue]
  simp only [passTime, h, List.nil_append]

/-- A tick changes nothing but hub time and the queue. -/
theorem passTime_frame (s : State) : { passTime s with pending := s.pending, hubTime := s.hubTime } = s := rfl

end Sys2Proof.Machine

open Sys2Proof Sys2Proof.Machine

/-- Settles O13: the tick is the end of the event followed by the passing of one ms, and a membership lemma for each
kind of timer says which events that queues. -/
theorem idleStepIsATick : Obligations.IdleStepIsATick := by
  refine ⟨fun s hidle => ?_, reached_iff, fun _ _ => rfl⟩
  rw [step_idle s hidle]
  have hsettled : (settle s).pending = [] := (settle_pending s).trans hidle
  refine ⟨fun hphase => ⟨_, congrArg _ (tick_outsideFullReset s hphase), ?_, passTime_pending _ hsettled, ?_,
    fun e => ?_⟩, fun hphase hpins => ?_, fun hphase hreset hpower => ?_⟩
  · rw [passTime_hubTime, settle_hubTime]
  · rw [← settle_hubTime s, ← hsettled]
    exact passTime_frame (settle s)
  · rw [passTime_pending _ hsettled, mem_dueEvents, mem_dueClaims, mem_dueFills, mem_dueProbes, mem_dueSoft]
  · rw [tick_fullReset s hphase, if_pos (by simpa using hpins)]
  · rw [tick_fullReset s hphase, if_neg (by simp [hreset, hpower]), hidle, List.nil_append]

end

section
/-!
PROOFS. Indices of the tables (R7): a search in ascending order, and a number read as an index. Point lookup.
-/

namespace Sys2Proof.Machine

/-! ### Index lists -/

@[simp] theorem mem_indices {n : Nat} (i : Fin n) : i ∈ indices n := List.mem_finRange i

theorem indices_ascending (n : Nat) : (indices n).Pairwise (· < ·) := (List.sortedLT_finRange n).pairwise

/-- A search through a table finds the lowest place that fits. -/
theorem find_indices_iff {n : Nat} (p : Fin n → Bool) (i : Fin n) :
    (indices n).find? p = some i ↔ p i = true ∧ ∀ j, j < i → p j = false := by
  unfold indices
  simp only [List.find?_eq_some_iff_getElem, List.getElem_finRange, List.length_finRange, Bool.not_eq_true']
  refine and_congr_right fun _ => ⟨?_, fun lower => ⟨i.val, i.isLt, rfl, fun j hj => lower _ hj⟩⟩
  rintro ⟨m, hm, rfl, lower⟩ j hj
  exact lower j.val hj

theorem find_indices_none {n : Nat} (p : Fin n → Bool) : (indices n).find? p = none ↔ ∀ i, p i = false := by
  simp [List.find?_eq_none]

/-- Two lists in ascending number with the same members are the same. -/
theorem ascending_unique {α : Type} {number : α → Nat} {a b : List α} (ha : a.Pairwise fun x y => number x < number y)
    (hb : b.Pairwise fun x y => number x < number y) (members : ∀ x, x ∈ a ↔ x ∈ b) : a = b := by
  have antisymm : Std.Antisymm fun x y => number x < number y := ⟨fun _ _ h g => absurd h (Nat.lt_asymm g)⟩
  have irrefl : Std.Irrefl fun x y => number x < number y := ⟨fun x => Nat.lt_irrefl (number x)⟩
  exact ha.eq_of_mem_iff hb members

/-! ### Numbers as indices -/

theorem index_eq_some {n x : Nat} {i : Fin n} : index? n x = some i ↔ x = i.val := by
  unfold index?
  split
  · simp [Fin.ext_iff]
  · simp only [reduceCtorEq, false_iff]
    omega

theorem index_eq_none {n x : Nat} : index? n x = none ↔ n ≤ x := by
  simp [index?]

@[simp] theorem index_val {n : Nat} (i : Fin n) : index? n i.val = some i := index_eq_some.mpr rfl

/-! ### Point lookup (R7) -/

/-- The entry of an index is ENABLED, on this panel, and contains the point. -/
def catches (s : State) (panel : Slot) (x y : Nat) (z : ZoneIx) : Bool :=
  (s.zones[z]).any fun e => e.enabled && decide (e.panel = panel) && e.contains x y

theorem pointLookup_eq (s : State) (panel : Slot) (x y : Nat) :
    pointLookup s panel x y = (indices 32).find? (catches s panel x y) := rfl

theorem catches_iff (s : State) (panel : Slot) (x y : Nat) (z : ZoneIx) : catches s panel x y z = true ↔
    ∃ e, s.zones[z] = some e ∧ e.enabled = true ∧ e.panel = panel ∧ e.contains x y = true := by
  simp only [catches, Option.any_eq_true, Bool.and_eq_true, decide_eq_true_eq, and_assoc]

theorem catches_false_iff (s : State) (panel : Slot) (x y : Nat) (z : ZoneIx) : catches s panel x y z = false ↔
    ∀ e, s.zones[z] = some e → e.enabled = true → e.panel = panel → e.contains x y = false := by
  simp only [← Bool.not_eq_true, catches_iff, not_exists, not_and]

end Sys2Proof.Machine

open Sys2Proof Sys2Proof.Machine

/-- Settles O27: point lookup is a search through the table in ascending order. -/
theorem pointLookupLowest : Obligations.PointLookupLowest := by
  intro s panel x y
  refine ⟨fun z => ?_, ?_⟩
  · rw [pointLookup_eq, find_indices_iff, catches_iff]
    simp only [catches_false_iff]
  · rw [pointLookup_eq, find_indices_none]
    simp only [catches_false_iff]

end

section
/-!
PROOFS. The queries (R19, R47, R67, R92, R133, R143, R178): the outline of a query, the page of a list reply, and what
each report selects and carries.
-/

namespace Sys2Proof.Machine

/-! ### The outline of a query -/

theorem fixedLength_le (k : ReqKind) (service : Bool) : (k.fixedLength service).getD 0 ≤ 200 := by
  cases k <;> cases service <;> decide

section
variable {s : State} {l : Link} {r : ReqSlot} {k : ReqKind} {tag : Byte} {f : State → List Byte}

/-- A query that any link may send, maintenance or not, is answered from the state and changes nothing (R187). -/
theorem request_query {n : Nat} {b : Bool} (h : Takes s l r) (length : n ≤ 200) (agrees : b = true)
    (every : k.access = .every) (free : k.heldBack = false) (blind : f (taken l r k tag s) = f s) :
    request { link := l, code := k.code, tag := tag, length := n, agrees := b } (query f) s =
      .next (answered l r (f s) (taken l r k tag s)) :=
  request_now h length (by unfold deniedOn; rw [every]) agrees (by rw [free, Bool.and_false])
    (by unfold query; rw [blind])

theorem fixed_query (h : Takes s l r) (every : k.access = .every) (free : k.heldBack = false)
    (blind : f (taken l r k tag s) = f s) :
    request (fixed l tag k) (query f) s = .next (answered l r (f s) (taken l r k tag s)) :=
  request_query h (fixedLength_le ..) rfl every free blind

theorem fixedK_query {named : Option Byte} (h : Takes s l r) (right : namedRight l named = true)
    (every : k.access = .every) (free : k.heldBack = false) (blind : f (taken l r k tag s) = f s) :
    request (fixedK l tag k named) (query f) s = .next (answered l r (f s) (taken l r k tag s)) :=
  request_query h (fixedLength_le ..) right every free blind

end

/-! ### Pages (R19, R47, R67) -/

theorem page_of_cutList {α : Type} (n none_ : Nat) (number : α → Nat) (line : α → List Byte) (all : List α) :
    u8 ((cutList n (all.map number)).2.getD none_) ++ u8 (all.take n).length ++ (all.take n).flatMap line =
      page n none_ number line all := by
  unfold page cutList
  rw [List.length_take, ← List.map_take, ← List.map_drop, List.getLast?_map, Option.map_map]
  by_cases more : all.length ≤ n
  · simp [more]
  · simp [more, Function.comp_def]

theorem page_congr {α : Type} {n none_ : Nat} {number : α → Nat} {line line' : α → List Byte} {all : List α}
    (h : ∀ x ∈ all, line x = line' x) : page n none_ number line all = page n none_ number line' all := by
  unfold page
  rw [List.flatMap_congr fun x hx => h x (List.mem_of_mem_take hx)]

/-! ### The kiosk a query is about (11.4) -/

theorem About.subject {l : Link} {named : Option Byte} {k : Kiosk} (h : About l named k) :
    subject l named = some k := by
  unfold Machine.subject
  obtain ⟨hl, _⟩ | ⟨rfl, rfl⟩ := h
  · rw [hl]
  · have code : (BitVec.ofNat 8 k.val).toNat = k.val := by simp; omega
    simp [code]

theorem subject_refused {l : Link} {named : Option Byte}
    (h : l = serviceLink ∧ ∃ b : Byte, named = some b ∧ 7 < b.toNat) : subject l named = none := by
  obtain ⟨rfl, b, rfl, hb⟩ := h
  exact index_eq_none.mpr hb

/-! ### ZONE LIST (R19) -/

theorem zoneList_badArg {panel first : Byte} (s : State) (h : 11 < panel.toNat ∨ 31 < first.toNat) :
    zoneListBlock panel first s = reply .badArg [] := by
  unfold zoneListBlock
  split
  case h_1 i z hi hz =>
    have := index_eq_some.mp hi
    have := index_eq_some.mp hz
    omega
  case h_2 => rfl

theorem zoneList_noSuch {panel first : Byte} {i : Slot} (s : State) (hp : panel.toNat = i.val) (hf : first.toNat ≤ 31)
    (kind : definedKind s i ≠ some .panel) : zoneListBlock panel first s = reply .noSuch [] := by
  have hz : index? 32 first.toNat = some ⟨first.toNat, by omega⟩ := index_eq_some.mpr rfl
  simp only [zoneListBlock, hp, index_val, hz, if_neg kind]

theorem zoneList_report {panel first : Byte} {i : Slot} (s : State) (hp : panel.toNat = i.val) (hf : first.toNat ≤ 31)
    (kind : definedKind s i = some .panel) :
    zoneListBlock panel first s = reply .ok (page 10 255 Fin.val (listedZone s) (zonesOf s i first.toNat)) := by
  have hz : index? 32 first.toNat = some ⟨first.toNat, by omega⟩ := index_eq_some.mpr rfl
  simp only [zoneListBlock, hp, index_val, hz, if_pos kind, page_of_cutList]

theorem mem_zonesOf (s : State) (i : Slot) (first : Nat) (z : ZoneIx) :
    z ∈ zonesOf s i first ↔ first ≤ z.val ∧ ∃ e, s.zones[z] = some e ∧ e.panel = i := by
  simp only [zonesOf, List.mem_filter, mem_indices, true_and, Bool.and_eq_true, decide_eq_true_eq, Option.any_eq_true]

theorem zonesOf_ascending (s : State) (i : Slot) (first : Nat) : (zonesOf s i first).Pairwise (· < ·) :=
  (indices_ascending 32).filter _

theorem listedZone_some {s : State} {z : ZoneIx} {e : Zone} (h : s.zones[z] = some e) : listedZone s z =
    u8 z.val ++ u8 (if e.enabled then 1 else 2) ++ u16n e.left ++ u16n e.top ++ u16n e.width ++ u16n e.height ++
      u8 e.rotation.val ++ u16n e.logicalWidth ++ u16n e.logicalHeight ++ u8 e.deadBand ++ orNone e.home ++
      orNone (zoneOwner s z) := by
  unfold listedZone
  rw [h]

/-! ### TOUCH LIST (R47) -/

theorem touchList_badArg {l : Link} {named : Option Byte} {first : Byte} (s : State)
    (h : 39 < first.toNat ∨ (l = serviceLink ∧ ∃ b : Byte, named = some b ∧ 7 < b.toNat)) :
    touchListBlock l named first s = reply .badArg [] := by
  unfold touchListBlock
  split
  case h_1 k n hk hn =>
    obtain large | refused := h
    · have := index_eq_some.mp hn
      omega
    · simp [subject_refused refused] at hk
  case h_2 => rfl

theorem touchList_report {l : Link} {named : Option Byte} {first : Byte} {k : Kiosk} (s : State)
    (about : About l named k) (hf : first.toNat ≤ 39) : touchListBlock l named first s =
      reply .ok (page 16 255 Fin.val (touchRecord s) (contactsOf s k first.toNat)) := by
  have hn : index? 40 first.toNat = some ⟨first.toNat, by omega⟩ := index_eq_some.mpr rfl
  simp only [touchListBlock, about.subject, hn, page_of_cutList]

theorem mem_contactsOf (s : State) (k : Kiosk) (first : Nat) (n : ContactNo) :
    n ∈ contactsOf s k first ↔ first ≤ n.val ∧ ∃ c, s.contacts[n] = some c ∧ c.live = true ∧ c.owner = some k := by
  simp only [contactsOf, List.mem_filter, mem_indices, true_and, Bool.and_eq_true, decide_eq_true_eq,
    Option.any_eq_true]

theorem contactsOf_ascending (s : State) (k : Kiosk) (first : Nat) : (contactsOf s k first).Pairwise (· < ·) :=
  (indices_ascending 40).filter _

theorem touchRecord_some {s : State} {n : ContactNo} {c : Contact} {p : Produced} (hc : s.contacts[n] = some c)
    (hp : c.last = some p) : touchRecord s n = u8 n.val ++ orNone c.zone ++ u16n p.x ++ u16n p.y := by
  unfold touchRecord
  rw [hc]
  simp [hp]

/-! ### CLAIM STATUS (R67) -/

/-- The first place of a queue that holds an id. -/
theorem position_append {a b : List Nat} {id : Nat} (h : id ∉ a) :
    position? (a ++ id :: b) id = some (a.length + 1) := by
  have before : a.findIdx? (fun x => decide (x = id)) = none := by
    simpa [List.findIdx?_eq_none_iff] using fun x hx => ne_of_mem_of_not_mem hx h
  simp [position?, List.findIdx?_append, before, List.findIdx?_cons]

/-- The last byte of a claim record (R67). -/
def claimPosition (s : State) (c : Claim) : Nat :=
  if c.held then 255 else (position? (waitQueue s c.resource) c.id).getD 0

theorem claimPosition_held {s : State} {c : Claim} (h : c.held = true) : claimPosition s c = 255 := if_pos h

theorem claimPosition_waiting {s : State} {c : Claim} {a b : List Nat} (queue : waitQueue s c.resource = a ++ c.id :: b)
    (first : c.id ∉ a) (h : c.held = false) : claimPosition s c = a.length + 1 := by
  simp [claimPosition, h, queue, position_append first]

theorem claimRecord_eq (s : State) (c : Claim) : claimRecord s c =
    u8 c.id ++ u8 c.kiosk.val ++ c.resource.code ++ u8 (if c.held then 2 else 1) ++ u32n c.lease ++
      u16n c.waitLimit ++ u32 (c.expiry - s.hubTime) ++ u8 (claimPosition s c) := rfl

theorem claimOne_noSuch {s : State} {id : Byte} (l : Link) (h : claim? s id.toNat = none) :
    claimOneBlock l id s = reply .noSuch [] := by
  unfold claimOneBlock
  rw [h]

theorem claimOne_notYours {s : State} {l : Link} {id : Byte} {k : Kiosk} {c : Claim} (h : claim? s id.toNat = some c)
    (hl : OnKiosk l k) (other : c.kiosk ≠ k) : claimOneBlock l id s = reply .notYours [] := by
  have hl : kioskOf l = some k := hl
  simp [claimOneBlock, h, hl, other]

theorem claimOne_report {s : State} {l : Link} {id : Byte} {c : Claim} (h : claim? s id.toNat = some c)
    (hl : l = serviceLink ∨ OnKiosk l c.kiosk) : claimOneBlock l id s = reply .ok ([0, 1] ++ claimRecord s c) := by
  have own : (kioskOf l).any (fun k => decide (c.kiosk ≠ k)) = false := by
    obtain rfl | (hl : kioskOf l = some c.kiosk) := hl
    · rfl
    · simp [hl]
  simp only [claimOneBlock, h, own, Bool.false_eq_true, if_false]
  rfl

theorem claimSelection_refused {b : Byte} (h : 7 < b.toNat) (all : b ≠ 0xFF) :
    claimSelection serviceLink (some b) = none := by
  have out : index? 8 b.toNat = none := index_eq_none.mpr h
  simp only [claimSelection, kioskOf_service, Option.bind_some, if_neg all, out, Option.map_none]

theorem About.claimSelection {l : Link} {named : Option Byte} {k : Kiosk} (h : About l named k) :
    claimSelection l named = some fun j => decide (j = k) := by
  unfold Machine.claimSelection
  obtain ⟨(hl : kioskOf l = some k), _⟩ | ⟨rfl, rfl⟩ := h
  · rw [hl]
  · have code : (BitVec.ofNat 8 k.val).toNat = k.val := by simp; omega
    have one : BitVec.ofNat 8 k.val ≠ 0xFF := fun e => by
      have := congrArg BitVec.toNat e
      rw [code] at this
      simp at this
      omega
    simp only [kioskOf_service, Option.bind_some, if_neg one, code, index_val, Option.map_some]

theorem claimList_report {s : State} {l : Link} {named : Option Byte} {sel : Kiosk → Bool} (id : Byte)
    (h : claimSelection l named = some sel) : claimListBlock l id named s =
      reply .ok (page 12 0 Claim.id (claimRecord s)
        (s.claims.filter fun c => decide (id.toNat ≤ c.id) && sel c.kiosk)) := by
  simp only [claimListBlock, h, page_of_cutList]

/-! ### SPOOL STATUS and NOTICE PEEK (R92, R178) -/

theorem spoolStatus_badArg {l : Link} {named : Option Byte} (s : State)
    (h : l = serviceLink ∧ ∃ b : Byte, named = some b ∧ 7 < b.toNat) :
    spoolStatusBlock l named s = reply .badArg [] := by
  unfold spoolStatusBlock
  rw [subject_refused h]

theorem noticePeek_badArg {l : Link} {named : Option Byte} (s : State)
    (h : l = serviceLink ∧ ∃ b : Byte, named = some b ∧ 7 < b.toNat) :
    noticePeekBlock l named s = reply .badArg [] := by
  unfold noticePeekBlock
  rw [subject_refused h]

@[simp] theorem packFlags_two (a b : Bool) : packFlags [a, b] = a.toNat + 2 * b.toNat := rfl

@[simp] theorem packFlags_three (a b c : Bool) : packFlags [a, b, c] = a.toNat + 2 * b.toNat + 4 * c.toNat := by
  simp only [packFlags]
  omega

theorem noticePeek_report {l : Link} {named : Option Byte} {k : Kiosk} (s : State) (about : About l named k) :
    noticePeekBlock l named s =
      reply .ok (classBytes (s.notices[k]).pending ++ classBytes (s.notices[k]).enabled ++
        classBytes (s.notices[k]).mask ++ u8 ((s.notices[k]).hold.toNat + 2 * (s.kiosks[k]).maintenance.toNat +
          4 * (s.notices[k]).forced.isSome.toNat)) := by
  simp only [noticePeekBlock, about.subject, packFlags_three]

/-- The kiosk's terminal jobs (R92). -/
def endedJobs (s : State) (k : Kiosk) : List Job := s.jobs.filter fun j => j.kiosk = k && j.state.isTerminal

theorem spoolStatus_report {l : Link} {named : Option Byte} {k : Kiosk} (s : State) (about : About l named k) :
    spoolStatusBlock l named s = reply .ok (u16n s.free.length ++ u16n (s.kioskSpool[k]).held ++
      u16n (s.kioskSpool[k]).quota ++ u8 (s.kioskSpool[k]).wantRoom.toNat ++ u32n s.fillLimit ++
      u8 (endedJobs s k).length ++ u8 (liveJobs s k).length ++ (liveJobs s k).flatMap (spoolLine s)) := by
  simp only [spoolStatusBlock, about.subject]
  rfl

section
variable {s : State} {k : Kiosk} {live ended : List Job}
  (all : (live ++ ended).Perm (s.jobs.filter fun j => j.kiosk = k)) (hl : ∀ j ∈ live, j.state.isTerminal = false)
  (he : ∀ j ∈ ended, j.state.isTerminal = true)
include all hl he

/-- Of a kiosk's jobs, parted into those that live and those that have ended, the first are the live ones. -/
theorem mem_live_iff (j : Job) : j ∈ live ↔ j ∈ liveJobs s k := by
  have whole : j ∈ live ∨ j ∈ ended ↔ j ∈ s.jobs ∧ j.kiosk = k := by
    rw [← List.mem_append, all.mem_iff]
    simp
  have parts : j ∈ liveJobs s k ↔ (j ∈ live ∨ j ∈ ended) ∧ j.state.isTerminal = false := by
    rw [whole]
    simp [liveJobs, and_assoc]
  rw [parts]
  refine ⟨fun h => ⟨.inl h, hl j h⟩, ?_⟩
  rintro ⟨h | h, running⟩
  · exact h
  · simp [he j h] at running

theorem ended_length : ended.length = (endedJobs s k).length := by
  have terminal : ((live ++ ended).filter fun j => j.state.isTerminal) = ended := by
    rw [List.filter_append, List.filter_eq_self.mpr he, List.filter_eq_nil_iff.mpr fun j hj => by simp [hl j hj]]
    rfl
  have perm := all.filter fun j => j.state.isTerminal
  rw [terminal, List.filter_filter] at perm
  simpa only [endedJobs, Bool.and_comm] using perm.length_eq

end

/-- The line of a job that lives, from its place in its printer queue (R80, R92). -/
theorem spoolLine_of_queue {s : State} {j : Job} (law : PrintQueueLaw s) (hj : j ∈ s.jobs)
    (hl : j.state.isTerminal = false) : ∃ a b, s.printQueue[j.slot] = a ++ j.id :: b ∧
      spoolLine s j = u16n j.id ++ u8 j.state.code ++ u8 j.slot.val ++ u8 (a.length + 1) := by
  obtain ⟨_, _, queued, _⟩ := law
  obtain ⟨a, b, queue, first⟩ := List.eq_append_cons_of_mem (queued j hj hl)
  exact ⟨a, b, queue, by simp only [spoolLine, jobPosition, queue, position_append first, Option.getD_some]⟩

/-! ### SCAN STATUS (R133) -/

theorem scanStatus_badArg {slot : Byte} (s : State) (h : 11 < slot.toNat) :
    scanStatusBlock slot s = reply .badArg [] := by
  have out : index? 12 slot.toNat = none := index_eq_none.mpr h
  simp only [scanStatusBlock, out]

theorem scanStatus_noSuch {slot : Byte} {i : Slot} (s : State) (h : slot.toNat = i.val)
    (kind : definedKind s i ≠ some .scanner) : scanStatusBlock slot s = reply .noSuch [] := by
  simp only [scanStatusBlock, h, index_val, if_pos kind]

theorem scanStatus_report {slot : Byte} {i : Slot} (s : State) (h : slot.toNat = i.val)
    (kind : definedKind s i = some .scanner) : scanStatusBlock slot s = reply .ok (scanStatusRecord s i) := by
  simp only [scanStatusBlock, h, index_val, ne_eq, kind, not_true_eq_false, if_false]

/-- The frames waiting that SCAN STATUS counts: of the current scan, else of the last, else none (R133). -/
theorem scanFramesWaiting_unique {s : State} {i : Slot} {waiting : Nat}
    (never : (s.scans[i]).kiosk = none → (s.scans[i]).lastKiosk = none → waiting = 0)
    (counted : ∀ k, (s.scans[i]).kiosk = some k ∨ (s.scans[i]).kiosk = none ∧ (s.scans[i]).lastKiosk = some k →
      waiting = ((s.kiosks[k]).scan.filter fun f => f.slot = i).length) : scanFramesWaiting s i = waiting := by
  cases now : (s.scans[i]).kiosk with
  | some k => simp only [scanFramesWaiting, now, Option.some_or, Option.elim_some, framesWaiting, counted k (.inl now)]
  | none =>
    cases last : (s.scans[i]).lastKiosk with
    | some k =>
      simp only [scanFramesWaiting, now, last, Option.none_or, Option.elim_some, framesWaiting,
        counted k (.inr ⟨now, last⟩)]
    | none => simp only [scanFramesWaiting, now, last, Option.none_or, Option.elim_none, never now last]

/-- The IDENT fields of SCAN STATUS: whether the data is there, and the bed, 0 by 0 without it (R122, R133). -/
theorem bed_unique {s : State} {i : Slot} {present : Bool} {width height : Nat}
    (absent : (s.units[i]).ident = none → present = false ∧ width = 0 ∧ height = 0)
    (known : ∀ d, (s.units[i]).ident = some d → present = true ∧ width = d.cap1.toNat ∧ height = d.cap2.toNat) :
    (s.units[i]).ident.isSome = present ∧ bed s i = (width, height) := by
  unfold bed
  cases ident : (s.units[i]).ident with
  | none =>
    obtain ⟨rfl, rfl, rfl⟩ := absent ident
    exact ⟨rfl, rfl⟩
  | some d =>
    obtain ⟨rfl, rfl, rfl⟩ := known d ident
    exact ⟨rfl, rfl⟩

theorem scanStatusRecord_eq {s : State} {i : Slot} {waiting width height : Nat} {present : Bool}
    (frames : scanFramesWaiting s i = waiting) (ident : (s.units[i]).ident.isSome = present)
    (size : bed s i = (width, height)) {q : ScanRecord} (hq : q = s.scans[i]) : scanStatusRecord s i =
      u8 q.state.code ++ u8 (q.ownerClaim.getD 0) ++ orNone q.kiosk ++ u16n q.x ++ u16n q.y ++ u16n q.w ++ u16n q.h ++
        u8 q.resolution ++ u8 q.mode.code ++ u8 q.credit ++ u8 waiting ++ u16 q.nextSeq ++ counter32 q.delivered ++
        u8 q.available ++ u16 (q.total.getD 0) ++ u8 q.lastOutcome.code ++
        u8 (q.total.isSome.toNat + 2 * present.toNat) ++ u16n width ++ u16n height := by
  subst hq
  simp only [scanStatusRecord, ssetBytes, frames, ident, size, packFlags_two, List.append_assoc]

/-! ### UNIT STATUS (R143) -/

theorem unitRecord_undefined {s : State} {i : Slot} (h : (s.units[i]).definition = none) :
    unitRecord s i = [0, 0, 0, 0] ++ u8 (2 * (s.attn[i]).pending.toNat) ++ List.replicate 11 0 := by
  unfold unitRecord
  simp only [h, packFlags_three]
  cases (s.attn[i]).pending <;> rfl

theorem unitRecord_defined {s : State} {i : Slot} {d : UnitDef} (h : (s.units[i]).definition = some d) :
    unitRecord s i = u8 (unitStateCode (some d.state)) ++ u8 d.address ++ [d.kind.code] ++ u8 (s.units[i]).mode.code ++
      u8 ((s.units[i]).enable.toNat + 2 * (s.attn[i]).pending.toNat + 4 * (s.units[i]).ident.isSome.toNat) ++
      u8 (s.units[i]).failures ++ reprobeBytes s (s.units[i]) d ++ identBytes (s.units[i]).ident := by
  unfold unitRecord
  simp only [h, packFlags_three]

theorem reprobeBytes_none (s : State) {u : UnitSlot} {d : UnitDef} (h : d.state ≠ .lost ∨ u.reprobe = none) :
    reprobeBytes s u d = [0xFF, 0xFF] := by
  unfold reprobeBytes
  split
  case h_1 x lost timer => simp [lost, timer] at h
  case h_2 => rfl

theorem reprobeBytes_lost (s : State) {u : UnitSlot} {d : UnitDef} {x : Time} (lost : d.state = .lost)
    (timer : u.reprobe = some x) : reprobeBytes s u d =
      if (x - s.hubTime).toNat < 65535 then u16n (x - s.hubTime).toNat
      else u16 (Config.reprobePast16 (x - s.hubTime).toNat) := by
  simp only [reprobeBytes, lost, timer, u16n, BitVec.ofNat_toNat]
  split <;> rfl

theorem identBytes_some (v : Ident) :
    identBytes (some v) = v.kind :: u16 v.model ++ v.revision :: u16 v.cap1 ++ u16 v.cap2 := by
  simp [identBytes]

end Sys2Proof.Machine

open Sys2Proof Sys2Proof.Machine

/-- Settles O38: each query is answered from the state; its report is a page of the ascending selection, or one record,
whose fields are read off the model's record. -/
theorem queriesChangeNothing : Obligations.QueriesChangeNothing := by
  refine ⟨fun s l r tag free => ?_, fun s panel first => ?_, fun s l named first => ?_, fun s line lines law => ?_,
    fun s l named => ?_, fun s slot => ?_, fun s line undefined defined => ?_, rfl, rfl, rfl, rfl, rfl, rfl, rfl,
    fun i => rfl, fun z => rfl, fun c => ?_⟩
  case refine_1 =>
    refine ⟨fun panel first => fixed_query free rfl rfl rfl, fun slot => fixed_query free rfl rfl rfl,
      fixed_query free rfl rfl rfl, fun named right => ⟨fun first => fixedK_query free right rfl rfl rfl, fun id =>
        ⟨fixedK_query free right rfl rfl rfl, fixedK_query free right rfl rfl rfl⟩,
        fixedK_query free right rfl rfl rfl, fixedK_query free right rfl rfl rfl⟩⟩
  case refine_2 =>
    refine ⟨zoneList_badArg s, fun i hp hf => ⟨zoneList_noSuch s hp hf, fun all line kind sorted members lines => ?_⟩⟩
    have selected : all = zonesOf s i first.toNat :=
      ascending_unique sorted (zonesOf_ascending ..) fun z => by rw [members, mem_zonesOf]
    rw [zoneList_report s hp hf kind, ← selected]
    refine congrArg _ (page_congr fun z hz => ?_)
    obtain ⟨_, e, he, _⟩ := (members z).mp hz
    rw [listedZone_some he, lines z e he]
  case refine_3 =>
    refine ⟨touchList_badArg s, fun k all line law about hf sorted members lines => ?_⟩
    have selected : all = contactsOf s k first.toNat :=
      ascending_unique sorted (contactsOf_ascending ..) fun n => by rw [members, mem_contactsOf]
    rw [touchList_report s about hf, ← selected]
    refine congrArg _ (page_congr fun n hn => ?_)
    obtain ⟨_, c, hc, live, _⟩ := (members n).mp hn
    obtain ⟨_, _, _, p, _, _, _, _, _, _, hp⟩ := law.2 n c hc live
    rw [touchRecord_some hc hp, lines n c p hc hp]
  case refine_4 =>
    have record : ∀ c ∈ s.claims, claimRecord s c = line c := fun c hc => by
      rw [lines c hc (claimPosition s c) claimPosition_held fun a b queue first => claimPosition_waiting queue first,
        claimRecord_eq]
    refine ⟨fun l id => ⟨claimOne_noSuch l, fun c hc => ⟨fun k => claimOne_notYours hc, fun hl => ?_⟩⟩,
      fun l id named => ⟨?_, fun all asked whose sorted members => ?_⟩⟩
    · rw [claimOne_report hc hl, record c (List.mem_of_find?_eq_some hc)]
    · rintro b rfl rfl large other
      unfold claimListBlock
      rw [claimSelection_refused large other]
    · obtain ⟨sel, selection, hsel⟩ : ∃ sel, claimSelection l named = some sel ∧ ∀ k, sel k = true ↔ asked k := by
        obtain ⟨k, about, rfl⟩ | ⟨rfl, rfl, rfl⟩ := whose
        · exact ⟨_, about.claimSelection, fun j => by simp⟩
        · exact ⟨_, rfl, fun j => by simp⟩
      have selected : all = s.claims.filter fun c => decide (id.toNat ≤ c.id) && sel c.kiosk :=
        ascending_unique sorted (law.1.1.filter _) fun c => by simp [members, hsel]
      rw [claimList_report id selection, ← selected]
      exact congrArg _ (page_congr fun c hc => record c ((members c).mp hc).1)
  case refine_5 =>
    refine ⟨fun refused => ⟨spoolStatus_badArg s refused, noticePeek_badArg s refused⟩, fun k about =>
      ⟨noticePeek_report s about, fun live ended line law all sorted running terminal lines => ?_⟩⟩
    have selected : live = liveJobs s k :=
      ascending_unique sorted (law.1.1.filter _) (mem_live_iff all running terminal)
    rw [spoolStatus_report s about, ← selected, ended_length all running terminal]
    refine congrArg _ (congrArg _ (List.flatMap_congr fun j hj => ?_))
    have stored : j ∈ s.jobs := (List.mem_filter.mp (selected ▸ hj : j ∈ liveJobs s k)).1
    obtain ⟨a, b, queue, fields⟩ := spoolLine_of_queue law stored (running j hj)
    rw [fields, lines j hj a b queue]
  case refine_6 =>
    refine ⟨scanStatus_badArg s, fun i hi => ⟨scanStatus_noSuch s hi, ?_⟩⟩
    rintro kind q waiting width height present rfl never counted absent known
    obtain ⟨ident, size⟩ := bed_unique absent known
    rw [scanStatus_report s hi kind, scanStatusRecord_eq (scanFramesWaiting_unique never counted) ident size rfl]
  case refine_7 =>
    refine congrArg _ (List.flatMap_congr fun i _ => ?_)
    cases slot : (s.units[i]).definition with
    | none => rw [unitRecord_undefined slot, undefined i slot]
    | some d =>
      rw [unitRecord_defined slot]
      refine (defined i d _ _ slot (reprobeBytes_none s) (fun x => reprobeBytes_lost s) (fun absent => ?_)
        fun v known => ?_).symm
      · rw [absent]; rfl
      · rw [known, identBytes_some]
  case refine_8 =>
    simp only [classBytes, u16n, BitVec.ofNat_toNat]

end

section
/-!
PROOFS. Changes of the zone table (R12): what a latch does to a pending set, what the removal of a zone's claims does and
that the law of the claims survives it (R13, R17, R60, R68), and what a change of an entry does.
-/

namespace Sys2Proof.Machine

/-! ### Loops -/

@[simp] theorem forEach_nil {α : Type} (f : α → State → State) (s : State) : forEach [] f s = s := rfl

@[simp] theorem forEach_cons {α : Type} (a : α) (l : List α) (f : α → State → State) (s : State) :
    forEach (a :: l) f s = forEach l f (f a s) := rfl

theorem any_congr_of_mem {α : Type} {l : List α} {p q : α → Bool} (h : ∀ x ∈ l, p x = q x) : l.any p = l.any q := by
  rw [Bool.eq_iff_iff, List.any_eq_true, List.any_eq_true]
  exact exists_congr fun x => and_congr_right fun hx => by rw [h x hx]

/-! ### Latching (R171) -/

theorem NoticeClass.set_bit (c : NoticeClass) (n : Nat) : c.set.getLsbD n = decide (n = c.number) := by
  have small : c.number < 12 := by cases c <;> decide
  simp only [NoticeClass.set, BitVec.getLsbD_shiftLeft, BitVec.getLsbD_one]
  grind

theorem latch_bit (k m : Kiosk) (c : NoticeClass) (s : State) (n : Nat) :
    ((latch k c s).notices[m]).pending.getLsbD n =
      ((s.notices[m]).pending.getLsbD n || decide (n = c.number) && decide (k = m)) := by
  simp only [latch, modNotice_notices, upd_get]
  by_cases h : k = m
  · simp [h, NoticeClass.set_bit]
  · simp [h]

theorem latchOpt_bit (k : Option Kiosk) (m : Kiosk) (c : NoticeClass) (s : State) (n : Nat) :
    ((latch? k c s).notices[m]).pending.getLsbD n =
      ((s.notices[m]).pending.getLsbD n || decide (n = c.number) && decide (k = some m)) := by
  cases k with
  | none => simp [latch?]
  | some k => simpa [latch?] using latch_bit k m c s n

/-! ### The claim table (R50 to R52) -/

theorem claim_unique {l : List Claim} (ids : l.Pairwise fun c d => c.id < d.id) {c d : Claim} (hc : c ∈ l) (hd : d ∈ l)
    (h : c.id = d.id) : c = d :=
  List.inj_on_of_nodup_map (List.pairwise_map.mpr (ids.imp Nat.ne_of_lt)) hc hd h

theorem claim_eq_some {s : State} (ids : s.claims.Pairwise fun c d => c.id < d.id) {id : Nat} {c : Claim} :
    claim? s id = some c ↔ c ∈ s.claims ∧ c.id = id := by
  refine ⟨fun h => ⟨List.mem_of_find?_eq_some h, by simpa using List.find?_some h⟩, fun ⟨hc, hid⟩ => ?_⟩
  obtain ⟨d, hd⟩ : ∃ d, claim? s id = some d :=
    Option.isSome_iff_exists.mp (List.find?_isSome.mpr ⟨c, hc, by simpa using hid⟩)
  have hid' : d.id = id := by simpa using List.find?_some hd
  rw [hd, claim_unique ids hc (List.mem_of_find?_eq_some hd) (hid.trans hid'.symm)]

theorem claim_eq_none {s : State} {id : Nat} : claim? s id = none ↔ ∀ c ∈ s.claims, c.id ≠ id := by
  simp [claim?]

theorem mem_waitQueue {s : State} (ids : s.claims.Pairwise fun c d => c.id < d.id) {x : Resource} {id : Nat} :
    id ∈ waitQueue s x ↔ id ∈ s.waits ∧ ∃ c ∈ s.claims, c.id = id ∧ c.resource = x := by
  simp only [waitQueue, List.mem_filter, Option.any_eq_true, claim_eq_some ids, decide_eq_true_eq, and_assoc]

theorem holder_eq_some {s : State} {x : Resource} {c : Claim} (h : holder? s x = some c) :
    c ∈ s.claims ∧ c.resource = x ∧ c.held = true := by
  have fits := List.find?_some h
  simp only [Bool.and_eq_true, decide_eq_true_eq] at fits
  exact ⟨List.mem_of_find?_eq_some h, fits⟩

theorem holder_isSome {s : State} {x : Resource} :
    (holder? s x).isSome = true ↔ ∃ c ∈ s.claims, c.resource = x ∧ c.held = true := by
  simp [holder?]

/-- A resource has one HELD claim (R52). -/
theorem held_unique {l : List Claim} (apart : l.Pairwise ClaimsApart) {c d : Claim} (hc : c ∈ l) (hd : d ∈ l)
    (same : c.resource = d.resource) (held : c.held = true ∧ d.held = true) : c = d := by
  by_contra ne
  have symm : Std.Symm ClaimsApart := ⟨fun a b h e => ⟨(h e.symm).1.symm, fun ⟨hb, ha⟩ => (h e.symm).2 ⟨ha, hb⟩⟩⟩
  exact (apart.forall hc hd ne same).2 held

/-! ### Claims that go with CLAIM_LOST -/

/-- In t the claims of s that are gone have left the table and the wait queues, each with CLAIM_LOST to its kiosk; nothing
else has changed (R60, R68). -/
structure ClaimsGone (gone : Claim → Bool) (s t : State) : Prop where
  claims : t.claims = s.claims.filter fun c => !gone c
  waits : t.waits = s.waits.filter fun id => !s.claims.any fun c => decide (c.id = id) && gone c
  lost : ∀ (k : Kiosk) (n : Nat), (t.notices[k]).pending.getLsbD n =
    ((s.notices[k]).pending.getLsbD n || decide (n = 2) && s.claims.any fun c => decide (c.kiosk = k) && gone c)
  frame : t = { s with claims := t.claims, waits := t.waits, notices := t.notices }

theorem ClaimsGone.contacts {gone : Claim → Bool} {s t : State} (h : ClaimsGone gone s t) : t.contacts = s.contacts :=
  (congrArg State.contacts h.frame :)

theorem ClaimsGone.kiosks {gone : Claim → Bool} {s t : State} (h : ClaimsGone gone s t) : t.kiosks = s.kiosks :=
  (congrArg State.kiosks h.frame :)

theorem ClaimsGone.none {gone : Claim → Bool} {s : State} (h : ∀ c ∈ s.claims, gone c = false) :
    ClaimsGone gone s s where
  claims := (List.filter_eq_self.mpr fun c hc => by simp [h c hc]).symm
  waits := (List.filter_eq_self.mpr fun id _ => by simp +contextual [h]).symm
  lost k n := by
    have : (s.claims.any fun c => decide (c.kiosk = k) && gone c) = false := by simp +contextual [h]
    simp [this]
  frame := rfl

theorem ClaimsGone.congr {gone gone' : Claim → Bool} {s t : State} (h : ClaimsGone gone s t)
    (same : ∀ c ∈ s.claims, gone c = gone' c) : ClaimsGone gone' s t where
  claims := h.claims.trans (List.filter_congr fun c hc => by rw [same c hc])
  waits := h.waits.trans (List.filter_congr fun id _ => by
    rw [any_congr_of_mem fun c hc => by rw [same c hc]])
  lost k n := (h.lost k n).trans (by rw [any_congr_of_mem fun c hc => by rw [same c hc]])
  frame := h.frame

/-- One removal after another. -/
theorem ClaimsGone.trans {gone gone' : Claim → Bool} {s t u : State} (h : ClaimsGone gone s t)
    (h' : ClaimsGone gone' t u) : ClaimsGone (fun c => gone c || gone' c) s u where
  claims := by
    rw [h'.claims, h.claims, List.filter_filter]
    exact List.filter_congr fun c _ => by rw [Bool.not_or, Bool.and_comm]
  waits := by
    rw [h'.waits, h.waits, h.claims, List.filter_filter]
    refine List.filter_congr fun id _ => ?_
    grind
  lost k n := by
    rw [h'.lost, h.lost, h.claims]
    grind
  frame := h'.frame.trans (by rw [h.frame])

/-- A claim is removed with CLAIM_LOST (R60, R63, R68). -/
theorem removeWaiting_gone {s : State} (ids : s.claims.Pairwise fun c d => c.id < d.id) {c : Claim}
    (hc : c ∈ s.claims) : ClaimsGone (fun d => decide (d.id = c.id)) s (removeWaiting c true s) where
  claims := List.filter_congr fun d _ => by simp
  waits := List.filter_congr fun id _ => by
    by_cases h : id = c.id
    · subst h
      simpa using ⟨c, hc, rfl⟩
    · simpa [h] using fun d _ hd => hd ▸ h
  lost k n := by
    have only : (s.claims.any fun d => decide (d.kiosk = k) && decide (d.id = c.id)) = decide (c.kiosk = k) := by
      rw [Bool.eq_iff_iff]
      simp only [List.any_eq_true, Bool.and_eq_true, decide_eq_true_eq]
      exact ⟨fun ⟨d, hd, hk, hid⟩ => claim_unique ids hd hc hid ▸ hk, fun hk => ⟨c, hc, hk, rfl⟩⟩
    rw [only]
    exact latch_bit c.kiosk k .claimLost (dropClaim c.id s) n
  frame := rfl

/-- Remove the claim with an id, if there is one, with CLAIM_LOST: a step of `removeResource` (R68). -/
def loseClaim (id : Nat) (s : State) : State := (claim? s id).elim s fun c => removeWaiting c true s

theorem loseClaim_gone {s : State} (ids : s.claims.Pairwise fun c d => c.id < d.id) (id : Nat) :
    ClaimsGone (fun d => decide (d.id = id)) s (loseClaim id s) := by
  unfold loseClaim
  cases h : claim? s id with
  | none => exact .none fun c hc => by simpa using claim_eq_none.mp h c hc
  | some c =>
    obtain ⟨hc, rfl⟩ := (claim_eq_some ids).mp h
    exact removeWaiting_gone ids hc

theorem ClaimsGone.ids {gone : Claim → Bool} {s t : State} (h : ClaimsGone gone s t)
    (ids : s.claims.Pairwise fun c d => c.id < d.id) : t.claims.Pairwise fun c d => c.id < d.id :=
  h.claims ▸ ids.filter _

theorem loseClaims_gone : ∀ (l : List Nat) {s : State}, s.claims.Pairwise (fun c d => c.id < d.id) →
    ClaimsGone (fun d => decide (d.id ∈ l)) s (forEach l loseClaim s)
  | [], s, _ => .none fun _ _ => by simp
  | id :: l, s, ids => by
    have first := loseClaim_gone ids id
    exact (first.trans (loseClaims_gone l (first.ids ids))).congr fun c _ => by simp

/-- No contact captured in a zone is LIVE. -/
def ZoneQuiet (z : ZoneIx) (s : State) : Prop :=
  ∀ n : ContactNo, ∀ c, s.contacts[n] = some c → inZone z c = true → c.live = false

/-- The holder of a zone that is no resource any more goes as a waiter does: the zone's contacts are MUTE already. -/
theorem removeHeld_quiet {s : State} {z : ZoneIx} {c : Claim} (quiet : ZoneQuiet z s) (hz : c.resource = .zone z) :
    removeHeld c .resourceGone s = removeWaiting c true s := by
  have idle : muteZone z true (dropClaim c.id s) = dropClaim c.id s := muteContacts_idle quiet
  simp only [removeHeld, removeWaiting, tellScan, ownerChange, hz, ne_eq, reduceCtorEq, not_false_eq_true, decide_true,
    idle, if_true]

theorem removeHolder_gone {s : State} {z : ZoneIx} (law : ClaimLaw s) (quiet : ZoneQuiet z s) :
    ClaimsGone (fun d => decide (d.resource = .zone z) && d.held) s
      ((holder? s (.zone z)).elim s fun c => removeHeld c .resourceGone s) := by
  cases h : holder? s (.zone z) with
  | none => exact .none fun c hc => by simpa [holder?] using List.find?_eq_none.mp h c hc
  | some c =>
    obtain ⟨hc, hz, held⟩ := holder_eq_some h
    obtain ⟨⟨ids, _⟩, apart, _⟩ := law
    rw [Option.elim_some, removeHeld_quiet quiet hz]
    refine (removeWaiting_gone ids hc).congr fun d hd => ?_
    rw [Bool.eq_iff_iff]
    simp only [decide_eq_true_eq, Bool.and_eq_true]
    refine ⟨fun hid => claim_unique ids hd hc hid ▸ ⟨hz, held⟩, fun ⟨dz, dheld⟩ => ?_⟩
    rw [held_unique apart hd hc (dz.trans hz.symm) ⟨dheld, held⟩]

/-- Once the holder of a resource has gone, its wait queue holds what is left of its claims (R52). -/
theorem waitQueue_afterHolder {s t : State} {x : Resource} (law : ClaimLaw s)
    (holder : ClaimsGone (fun d => decide (d.resource = x) && d.held) s t) {d : Claim} (hd : d ∈ s.claims) :
    d.id ∈ waitQueue t x ↔ d.resource = x ∧ d.held = false := by
  obtain ⟨⟨ids, _⟩, _, _, waiting, _⟩ := law
  have left (c : Claim) : c ∈ t.claims ↔ c ∈ s.claims ∧ (c.resource = x → c.held = false) := by
    simp [holder.claims, imp_iff_not_or]
  rw [mem_waitQueue (holder.ids ids)]
  constructor
  · rintro ⟨_, c, hc, hid, hx⟩
    obtain ⟨hc, free⟩ := (left c).mp hc
    obtain rfl := claim_unique ids hc hd hid
    exact ⟨hx, free hx⟩
  · rintro ⟨hx, free⟩
    refine ⟨?_, d, (left d).mpr ⟨hd, fun _ => free⟩, rfl, hx⟩
    rw [holder.waits, List.mem_filter]
    refine ⟨(waiting d.id).mpr ⟨d, hd, rfl, free⟩, ?_⟩
    simp only [Bool.not_eq_true', List.any_eq_false, Bool.and_eq_true, decide_eq_true_eq]
    rintro c hc ⟨hid, _, held⟩
    obtain rfl := claim_unique ids hc hd hid
    simp [free] at held

/-- The claims on a zone that stops being a resource go, holder and waiters (R68). -/
theorem removeResource_gone {s : State} {z : ZoneIx} (law : ClaimLaw s) (quiet : ZoneQuiet z s) :
    ClaimsGone (fun d => decide (d.resource = .zone z)) s (removeResource (.zone z) s) := by
  have holder := removeHolder_gone law quiet
  have steps : removeResource (.zone z) s =
      forEach (waitQueue ((holder? s (.zone z)).elim s fun c => removeHeld c .resourceGone s) (.zone z)) loseClaim
        ((holder? s (.zone z)).elim s fun c => removeHeld c .resourceGone s) := rfl
  rw [steps]
  generalize ((holder? s (.zone z)).elim s fun c => removeHeld c .resourceGone s) = t at holder ⊢
  refine (holder.trans (loseClaims_gone _ (holder.ids law.1.1))).congr fun d hd => ?_
  rw [Bool.eq_iff_iff]
  simp only [Bool.or_eq_true, Bool.and_eq_true, decide_eq_true_eq, waitQueue_afterHolder law holder hd, ← and_or_left]
  cases d.held <;> simp

theorem waits_of_gone {s t : State} {x : Resource} (law : ClaimLaw s)
    (gone : ClaimsGone (fun d => decide (d.resource = x)) s t) {c : Claim} (hc : c ∈ t.claims) :
    c.id ∈ t.waits ↔ c.id ∈ s.waits := by
  obtain ⟨⟨ids, _⟩, _⟩ := law
  rw [gone.claims, List.mem_filter] at hc
  obtain ⟨hc, other⟩ := hc
  rw [gone.waits, List.mem_filter, and_iff_left]
  simp only [Bool.not_eq_true', List.any_eq_false, Bool.and_eq_true, decide_eq_true_eq]
  rintro d hd ⟨hid, hx⟩
  obtain rfl := claim_unique ids hd hc hid
  simp [hx] at other

/-- The law of the claims survives the removal of a resource with all its claims (R68). -/
theorem ClaimLaw.of_gone {s t : State} {x : Resource} (law : ClaimLaw s)
    (gone : ClaimsGone (fun d => decide (d.resource = x)) s t) : ClaimLaw t := by
  have stay (c : Claim) : c ∈ t.claims ↔ c ∈ s.claims ∧ c.resource ≠ x := by simp [gone.claims]
  have next : t.nextClaim = s.nextClaim := (congrArg State.nextClaim gone.frame :)
  have idsLeft := gone.ids law.1.1
  have keepsWaits {c : Claim} := waits_of_gone (c := c) law gone
  obtain ⟨⟨ids, range, room, nextRange⟩, apart, nodup, waiting, held, queues⟩ := law
  refine ⟨⟨idsLeft, fun c hc => range c ((stay c).mp hc).1, ?_, next ▸ nextRange⟩, ?_, ?_, fun id => ⟨fun h => ?_, ?_⟩,
    fun c hc free => ?_, fun y => ?_⟩
  · exact le_trans (gone.claims ▸ List.length_filter_le ..) room
  · exact gone.claims ▸ apart.filter _
  · exact gone.waits ▸ nodup.filter _
  · rw [gone.waits, List.mem_filter] at h
    obtain ⟨h, other⟩ := h
    obtain ⟨c, hc, rfl, free⟩ := (waiting id).mp h
    simp only [Bool.not_eq_true', List.any_eq_false, Bool.and_eq_true, decide_eq_true_eq, not_and] at other
    exact ⟨c, (stay c).mpr ⟨hc, other c hc rfl⟩, rfl, free⟩
  · rintro ⟨c, hc, rfl, free⟩
    exact (keepsWaits hc).mpr ((waiting c.id).mpr ⟨c, ((stay c).mp hc).1, rfl, free⟩)
  · obtain ⟨hc, other⟩ := (stay c).mp hc
    obtain ⟨d, hd, same, hheld⟩ := holder_isSome.mp (held c hc free)
    exact holder_isSome.mpr ⟨d, (stay d).mpr ⟨hd, same ▸ other⟩, same, hheld⟩
  · refine le_trans (List.Sublist.length_le ?_) (queues y)
    unfold waitQueue
    rw [gone.waits, List.filter_filter]
    refine List.monotone_filter_right _ fun id h => ?_
    simp only [Bool.and_eq_true, Option.any_eq_true, claim_eq_some idsLeft, stay] at h
    simp only [Option.any_eq_true, claim_eq_some ids]
    obtain ⟨⟨c, ⟨⟨hc, _⟩, hid⟩, hy⟩, _⟩ := h
    exact ⟨c, ⟨hc, hid⟩, hy⟩

/-! ### Changes of the zone table (R12) -/

/-- Muting changes the contact table and the touch queues alone (R41). -/
theorem muteZone_eq (z : ZoneIx) (cancel : Bool) (s : State) :
    ∃ contacts kiosks, muteZone z cancel s = { s with contacts := contacts, kiosks := kiosks } := by
  have frame : offMuted s (muteZone z cancel s) = offMuted s s := muteContacts_frame s (inZone z) cancel s
  generalize muteZone z cancel s = t at frame
  exact ⟨t.contacts, t.kiosks, congrArg (fun u : State => { u with contacts := t.contacts, kiosks := t.kiosks }) frame⟩

@[simp] theorem muteZone_zones (z : ZoneIx) (cancel : Bool) (s : State) : (muteZone z cancel s).zones = s.zones := by
  obtain ⟨contacts, kiosks, h⟩ := muteZone_eq z cancel s
  rw [h]

@[simp] theorem muteZone_claims (z : ZoneIx) (cancel : Bool) (s : State) : (muteZone z cancel s).claims = s.claims := by
  obtain ⟨contacts, kiosks, h⟩ := muteZone_eq z cancel s
  rw [h]

@[simp] theorem muteZone_waits (z : ZoneIx) (cancel : Bool) (s : State) : (muteZone z cancel s).waits = s.waits := by
  obtain ⟨contacts, kiosks, h⟩ := muteZone_eq z cancel s
  rw [h]

@[simp] theorem muteZone_nextClaim (z : ZoneIx) (cancel : Bool) (s : State) :
    (muteZone z cancel s).nextClaim = s.nextClaim := by
  obtain ⟨contacts, kiosks, h⟩ := muteZone_eq z cancel s
  rw [h]

@[simp] theorem muteZone_notices (z : ZoneIx) (cancel : Bool) (s : State) :
    (muteZone z cancel s).notices = s.notices := by
  obtain ⟨contacts, kiosks, h⟩ := muteZone_eq z cancel s
  rw [h]

theorem muteZone_cancelled (z : ZoneIx) (s : State) : Cancelled (inZone z) s (muteZone z true s) :=
  muteContacts_cancelled (inZone z) s

theorem Cancelled.quiet {z : ZoneIx} {s t : State} (h : Cancelled (inZone z) s t) : ZoneQuiet z t := by
  intro n c hc hz
  rw [h.1, Option.map_eq_some_iff] at hc
  obtain ⟨d, _, rfl⟩ := hc
  by_cases fits : inZone z d = true <;> simp_all

theorem Cancelled.congr {fits : Contact → Bool} {s t u : State} (h : Cancelled fits s t)
    (contacts : u.contacts = t.contacts) (kiosks : u.kiosks = t.kiosks) : Cancelled fits s u := by
  unfold Cancelled
  rwa [contacts, kiosks]

@[simp] theorem removeResource_zones (x : Resource) (s : State) : (removeResource x s).zones = s.zones := by
  have frame := removeResource_frame s x s
  generalize removeResource x s = t at frame
  exact (congrArg State.zones frame :)

/-- The claims that a change of a zone entry removes: those on an open zone whose new entry is none (R13, R17). -/
def freed (s : State) (z : ZoneIx) (entry : Option Zone) (c : Claim) : Bool :=
  Zone.isOpen s.zones[z] && !Zone.isOpen entry && decide (c.resource = .zone z)

/-- The state in which a changed entry is written: the contacts are MUTE and the claims gone (R12 stages 1 to 3). -/
def clearedFor (z : ZoneIx) (entry : Option Zone) (s : State) : State :=
  if Zone.isOpen s.zones[z] && !Zone.isOpen entry then removeResource (.zone z) (muteZone z true s)
  else muteZone z true s

@[simp] theorem clearedFor_zones (z : ZoneIx) (entry : Option Zone) (s : State) :
    (clearedFor z entry s).zones = s.zones := by
  unfold clearedFor
  split <;> simp

/-- The entry is written (R12 stage 4). -/
def written (z : ZoneIx) (entry : Option Zone) (s : State) : State := { s with zones := upd s.zones z fun _ => entry }

theorem changeZone_eq (z : ZoneIx) (entry : Option Zone) (s : State) : changeZone z entry s =
    zoneChanged (zoneOwner s z) (zoneOwner (written z entry (clearedFor z entry s)) z)
      (written z entry (clearedFor z entry s)) := rfl

/-- ZONE_CHANGED for the old and the new owner (R12 stage 5). -/
theorem zoneChanged_bit (old new : Option Kiosk) (k : Kiosk) (s : State) (n : Nat) :
    ((zoneChanged old new s).notices[k]).pending.getLsbD n =
      ((s.notices[k]).pending.getLsbD n || decide (n = 10) && decide (old = some k ∨ new = some k)) := by
  have number : NoticeClass.zoneChanged.number = 10 := rfl
  by_cases same : new = old
  · subst same
    simp only [zoneChanged, if_true, latchOpt_bit, number, or_self]
  · simp only [zoneChanged, if_neg same, latchOpt_bit, number, Bool.or_assoc, ← Bool.and_or_distrib_left,
      Bool.decide_or]

theorem zoneChanged_eq (old new : Option Kiosk) (s : State) :
    ∃ notices, zoneChanged old new s = { s with notices := notices } := by
  have frame : offNotices s (zoneChanged old new s) = offNotices s s := by
    by_cases same : new = old
    · simp only [zoneChanged, if_pos same, latchOpt_frame]
    · simp only [zoneChanged, if_neg same, latchOpt_frame]
  generalize zoneChanged old new s = t at frame
  exact ⟨t.notices, congrArg (fun u : State => { u with notices := t.notices }) frame⟩

theorem zoneOwner_congr {s t : State} (zones : t.zones = s.zones) (claims : t.claims = s.claims) (z : ZoneIx) :
    zoneOwner t z = zoneOwner s z := by
  unfold zoneOwner holder?
  rw [zones, claims]

/-- But for the notices, an entry that has been changed is one that has been written. -/
theorem changeZone_written (z : ZoneIx) (entry : Option Zone) (s : State) :
    ∃ notices, changeZone z entry s = { written z entry (clearedFor z entry s) with notices := notices } :=
  zoneChanged_eq ..

theorem changeZone_zones (z : ZoneIx) (entry : Option Zone) (s : State) :
    (changeZone z entry s).zones = upd s.zones z fun _ => entry := by
  obtain ⟨notices, h⟩ := changeZone_written z entry s
  rw [h]
  simp only [written, clearedFor_zones]

/-- The law of the claims is about the claims, the wait queues and the next id alone. -/
theorem ClaimLaw.congr {s t : State} (law : ClaimLaw s) (claims : t.claims = s.claims) (waits : t.waits = s.waits)
    (next : t.nextClaim = s.nextClaim) : ClaimLaw t := by
  unfold ClaimLaw ClaimIdLaw holder? waitQueue claim? at law ⊢
  rwa [claims, waits, next]

/-- The claims that go before a changed entry is written (R12 stages 2 and 3). -/
theorem clearedFor_gone {s : State} (law : ClaimLaw s) (z : ZoneIx) (entry : Option Zone) :
    ClaimsGone (freed s z entry) (muteZone z true s) (clearedFor z entry s) := by
  have law' : ClaimLaw (muteZone z true s) :=
    law.congr (muteZone_claims ..) (muteZone_waits ..) (muteZone_nextClaim ..)
  unfold clearedFor freed
  split
  case isTrue stops => 
    exact (removeResource_gone law' (muteZone_cancelled z s).quiet).congr fun c _ => by rw [stops, Bool.true_and]
  case isFalse stays => exact .none fun c _ => by rw [Bool.eq_false_of_not_eq_true stays, Bool.false_and]

/-- In t the zone entry has been changed with the stages of R12: the contacts in the zone are MUTE, its claims gone when
it has stopped being a resource, ZONE_CHANGED latched for the old and the new owner. -/
structure ZoneChanged (z : ZoneIx) (entry : Option Zone) (s t : State) : Prop where
  zones : t.zones = upd s.zones z fun _ => entry
  muted : Cancelled (inZone z) s t
  claims : t.claims = s.claims.filter fun c => !freed s z entry c
  waits : t.waits = s.waits.filter fun id => !s.claims.any fun c => decide (c.id = id) && freed s z entry c
  lawful : ClaimLaw t
  latched : ∀ (k : Kiosk) (n : Nat), (t.notices[k]).pending.getLsbD n =
    ((s.notices[k]).pending.getLsbD n ||
      decide (n = 2) && (s.claims.any fun c => decide (c.kiosk = k) && freed s z entry c) ||
      decide (n = 10) && decide (zoneOwner s z = some k ∨ zoneOwner t z = some k))

theorem clearedFor_lawful {s : State} (law : ClaimLaw s) (z : ZoneIx) (entry : Option Zone) :
    ClaimLaw (clearedFor z entry s) := by
  have law' : ClaimLaw (muteZone z true s) :=
    law.congr (muteZone_claims ..) (muteZone_waits ..) (muteZone_nextClaim ..)
  unfold clearedFor
  split
  · exact law'.of_gone (removeResource_gone law' (muteZone_cancelled z s).quiet)
  · exact law'

/-- What a change of a zone entry does, in every lawful state (R12, R13, R17). -/
theorem changeZone_changed {s : State} (law : ClaimLaw s) (z : ZoneIx) (entry : Option Zone) :
    ZoneChanged z entry s (changeZone z entry s) := by
  have gone := clearedFor_gone law z entry
  have lawful := clearedFor_lawful law z entry
  have muted := muteZone_cancelled z s
  have latched := zoneChanged_bit (zoneOwner s z) (zoneOwner (written z entry (clearedFor z entry s)) z)
    (s := written z entry (clearedFor z entry s))
  rw [← changeZone_eq] at latched
  obtain ⟨notices, h⟩ := changeZone_written z entry s
  have owner : zoneOwner (changeZone z entry s) z = zoneOwner (written z entry (clearedFor z entry s)) z :=
    zoneOwner_congr (by rw [h]) (by rw [h]) z
  refine ⟨changeZone_zones z entry s, ?_, ?_, ?_, lawful.congr ?_ ?_ ?_, fun k n => ?_⟩
  case refine_1 =>
    exact muted.congr (by rw [h]; exact gone.contacts) (by rw [h]; exact gone.kiosks)
  case refine_2 => rw [h]; exact gone.claims.trans (by simp only [muteZone_claims])
  case refine_3 => rw [h]; exact gone.waits.trans (by simp only [muteZone_claims, muteZone_waits])
  case refine_7 =>
    have lost := gone.lost k n
    rw [muteZone_notices, muteZone_claims] at lost
    rw [latched, owner, ← lost]
    rfl
  all_goals rw [h]; rfl

section
variable {z : ZoneIx} {entry : Option Zone} {s t : State} (change : ZoneChanged z entry s t)
include change

/-- ZONE_CHANGED is latched for the old and the new owner and no other kiosk (R12 stage 5). -/
theorem ZoneChanged.owners (k : Kiosk) : (t.notices[k]).pending.getLsbD 10 =
    ((s.notices[k]).pending.getLsbD 10 || decide (zoneOwner s z = some k ∨ zoneOwner t z = some k)) := by
  rw [change.latched]
  simp only [Nat.reduceEqDiff, decide_false, Bool.false_and, Bool.or_false, decide_true, Bool.true_and]

/-- CLAIM_LOST is latched for the kiosks of the claims that go and no other (R68). -/
theorem ZoneChanged.losers (k : Kiosk) : (t.notices[k]).pending.getLsbD 2 =
    ((s.notices[k]).pending.getLsbD 2 || s.claims.any fun c => decide (c.kiosk = k) && freed s z entry c) := by
  rw [change.latched]
  simp only [Nat.reduceEqDiff, decide_false, Bool.false_and, Bool.or_false, decide_true, Bool.true_and]

/-- A change that does not stop a zone being a resource keeps every claim (R13). -/
theorem ZoneChanged.claimsKept (kept : (Zone.isOpen s.zones[z] && !Zone.isOpen entry) = false) :
    t.claims = s.claims ∧ t.waits = s.waits ∧
      ∀ k : Kiosk, (t.notices[k]).pending.getLsbD 2 = (s.notices[k]).pending.getLsbD 2 := by
  have stays (c : Claim) : freed s z entry c = false := by rw [freed, kept, Bool.false_and]
  refine ⟨?_, ?_, fun k => ?_⟩
  · rw [change.claims, List.filter_eq_self.mpr fun c _ => by simp [stays]]
  · rw [change.waits, List.filter_eq_self.mpr fun id _ => by simp [stays]]
  · have no : (s.claims.any fun c => decide (c.kiosk = k) && freed s z entry c) = false := by simp [stays]
    rw [change.losers, no, Bool.or_false]

/-- A change that stops a zone being a resource takes its claims, each with CLAIM_LOST (R13, R17, R68). -/
theorem ZoneChanged.claimsGone (stops : (Zone.isOpen s.zones[z] && !Zone.isOpen entry) = true) :
    t.claims = (s.claims.filter fun c => decide (c.resource ≠ .zone z)) ∧
      t.waits = (s.waits.filter fun id => !s.claims.any fun c => decide (c.id = id ∧ c.resource = .zone z)) ∧
      ∀ k : Kiosk, (t.notices[k]).pending.getLsbD 2 = ((s.notices[k]).pending.getLsbD 2 ||
        s.claims.any fun c => decide (c.kiosk = k ∧ c.resource = .zone z)) := by
  have goes (c : Claim) : freed s z entry c = decide (c.resource = .zone z) := by rw [freed, stops, Bool.true_and]
  refine ⟨?_, ?_, fun k => ?_⟩
  · simp only [change.claims, goes, ne_eq, decide_not]
  · simp only [change.waits, goes, Bool.decide_and]
  · simp only [change.losers, goes, Bool.decide_and]

end

end Sys2Proof.Machine
end

section
/-!
PROOFS. ZONE CLEAR (R17): which entries a list clears, how many were in use, and what the clearing of one entry does.
-/

namespace Sys2Proof.Machine

/-! ### Clearing entries -/

theorem clearZone_unused {s : State} {z : ZoneIx} (h : s.zones[z] = none) : clearZone z s = s := by
  simp only [clearZone, h, Option.isNone_none, if_true]

theorem clearZone_used {s : State} {z : ZoneIx} {e : Zone} (h : s.zones[z] = some e) :
    clearZone z s = changeZone z none s := by
  simp only [clearZone, h, Option.isNone_some, Bool.false_eq_true, if_false]

theorem clearZone_zones (w z : ZoneIx) (s : State) :
    (clearZone w s).zones[z] = if w = z then none else s.zones[z] := by
  cases h : s.zones[w] with
  | none =>
    rw [clearZone_unused h]
    split
    · next e => rw [← e, h]
    · rfl
  | some e => rw [clearZone_used h, changeZone_zones, upd_get]

theorem clearZones_zones (zs : List ZoneIx) (z : ZoneIx) (s : State) :
    (forEach zs clearZone s).zones[z] = if z ∈ zs then none else s.zones[z] := by
  induction zs generalizing s with
  | nil => simp
  | cons w zs ih =>
    rw [forEach_cons, ih, clearZone_zones]
    by_cases later : z ∈ zs
    · simp [later]
    · simp [later, eq_comm]

theorem clearZones_frame (base : State) (zs : List ZoneIx) (s : State) :
    offZones base (forEach zs clearZone s) = offZones base s :=
  forEach_frame (offZones base) (clearZone_frame base) zs s

theorem clearZones_units (zs : List ZoneIx) (s : State) : (forEach zs clearZone s).units = s.units := by
  simpa only [offZones, offClaims, offScan, offMuted] using congrArg State.units (clearZones_frame s zs s)

theorem clearZones_jobs (zs : List ZoneIx) (s : State) : (forEach zs clearZone s).jobs = s.jobs := by
  simpa only [offZones, offClaims, offScan, offMuted] using congrArg State.jobs (clearZones_frame s zs s)

theorem clearZones_links (zs : List ZoneIx) (s : State) : (forEach zs clearZone s).links = s.links := by
  simpa only [offZones, offClaims, offScan, offMuted] using congrArg State.links (clearZones_frame s zs s)

/-- The entries that a list clears are those of it that were in use (R17). -/
theorem usedZones_cleared (zs : List ZoneIx) (s : State) : usedZones s - usedZones (forEach zs clearZone s) =
    ((indices 32).filter fun z => (s.zones[z]).isSome && decide (z ∈ zs)).length := by
  have left : usedZones (forEach zs clearZone s) =
      ((indices 32).filter fun z => !decide (z ∈ zs) && (s.zones[z]).isSome).length := by
    refine congrArg List.length (List.filter_congr fun z _ => ?_)
    rw [clearZones_zones]
    by_cases h : z ∈ zs <;> simp [h]
  have parts := List.length_eq_length_filter_add (l := (indices 32).filter fun z => (s.zones[z]).isSome)
    fun z => decide (z ∈ zs)
  rw [List.filter_filter, List.filter_filter, ← left] at parts
  simp only [Bool.and_comm (decide (_ ∈ zs))] at parts
  exact Nat.sub_eq_of_eq_add parts

/-! ### The list of a ZONE CLEAR -/

/-- Indices of a list that are all at most 31 are zone indices. -/
theorem zones_of_indices {list : List Byte} (h : ∀ b ∈ list, b.toNat ≤ 31) :
    ∃ zs : List ZoneIx, zs.map Fin.val = list.map BitVec.toNat :=
  CanLift.prf (list.map BitVec.toNat) fun n hn => by
    obtain ⟨b, hb, rfl⟩ := List.mem_map.mp hn
    exact Nat.lt_succ_of_le (h b hb)

/-- The block of ZONE CLEAR for one index. -/
def clearIndex (b : Byte) (s : State) : State := (index? 32 b.toNat).elim s fun z => clearZone z s

theorem clearIndices_eq {list : List Byte} {zs : List ZoneIx} (h : zs.map Fin.val = list.map BitVec.toNat) (s : State) :
    forEach list clearIndex s = forEach zs clearZone s := by
  induction list generalizing zs s with
  | nil => rw [List.map_eq_nil_iff.mp h]; rfl
  | cons b list ih =>
    obtain ⟨z, zs, rfl, hz, hzs⟩ := List.map_eq_cons_iff.mp h
    rw [forEach_cons, forEach_cons, ih hzs, clearIndex, ← hz, index_val, Option.elim_some]

theorem badIndex_some {a c : List Byte} {b : Byte} (hb : 31 < b.toNat) (ha : ∀ x ∈ a, x.toNat ≤ 31) :
    badIndex (a ++ b :: c) = some (a.length + 1) := by
  have before : a.findIdx? (fun x => decide (31 < x.toNat)) = none := by
    simpa [List.findIdx?_eq_none_iff] using ha
  simp [badIndex, List.findIdx?_append, before, List.findIdx?_cons, hb]

theorem badIndex_none {list : List Byte} (h : ∀ b ∈ list, b.toNat ≤ 31) : badIndex list = none := by
  simpa [badIndex, List.findIdx?_eq_none_iff] using h

theorem zoneClearBlock_bad {list : List Byte} {position : Nat} (s : State) (h : badIndex list = some position) :
    zoneClearBlock list s = (s, reply .badArg (u8 position)) := by
  simp only [zoneClearBlock, h]

theorem zoneClearBlock_good {list : List Byte} {zs : List ZoneIx} (s : State) (h : badIndex list = none)
    (hz : zs.map Fin.val = list.map BitVec.toNat) : zoneClearBlock list s = (forEach zs clearZone s,
      reply .ok (u8 ((indices 32).filter fun z => (s.zones[z]).isSome && decide (z ∈ zs)).length)) := by
  have loop := clearIndices_eq hz s
  rw [← usedZones_cleared, ← loop]
  simp only [zoneClearBlock, h]
  rfl

/-- A ZONE CLEAR on S of 1 to 32 indices is answered by its block (R17, R187). -/
theorem zoneClear_answered {s t : State} {r : ReqSlot} {tag : Byte} {list p : List Byte} (free : Takes s serviceLink r)
    (some_ : 1 ≤ list.length) (room : list.length ≤ 32)
    (block : zoneClearBlock list (taken serviceLink r .zoneClear tag s) = (t, p)) :
    exec (.zoneClear serviceLink tag list) s = .next (answered serviceLink r p t) := by
  have count : (BitVec.ofNat 8 list.length).toNat = list.length := by simp; omega
  have agrees : lengthAgrees .zoneClear true (1 + list.length) (BitVec.ofNat 8 list.length) = true := by
    simp only [lengthAgrees, ReqKind.fixedLength, count, decide_eq_true_eq]
    exact ⟨by omega, some_, room, trivial⟩
  exact request_now (k := .zoneClear) free (by omega) rfl agrees rfl (by rw [atOnce, block])

/-! ### One entry -/

/-- What clearing an entry in use does (R12, R17). -/
theorem clearZone_changed {s : State} {z : ZoneIx} {e : Zone} (law : ClaimLaw s) (h : s.zones[z] = some e) :
    ZoneChanged z none s (clearZone z s) := clearZone_used h ▸ changeZone_changed law z none

/-- An UNUSED entry has no owner (R4). -/
theorem zoneOwner_unused {s : State} {z : ZoneIx} (h : s.zones[z] = none) : zoneOwner s z = none := by
  simp only [zoneOwner, h]

end Sys2Proof.Machine

open Sys2Proof Sys2Proof.Machine

/-- Settles O37: the list is its entries cleared one by one, and what clearing an entry does is what a change of a zone
entry does. -/
theorem zoneClear : Obligations.ZoneClear := by
  refine ⟨fun s r tag list free some_ room => ⟨?_, fun good => ?_⟩, fun s z => clearZone_unused, ?_⟩
  · rintro a b c rfl bad before
    exact zoneClear_answered free some_ room (zoneClearBlock_bad _ (badIndex_some bad before))
  · obtain ⟨zs, hzs⟩ := zones_of_indices good
    have mem (z : ZoneIx) : z.val ∈ list.map BitVec.toNat ↔ z ∈ zs := by
      rw [← hzs, List.mem_map_of_injective Fin.val_injective]
    have unique {ws : List ZoneIx} (hws : ws.map Fin.val = list.map BitVec.toNat) : ws = zs :=
      List.map_injective_iff.mpr Fin.val_injective (hws.trans hzs.symm)
    have answer := zoneClear_answered (tag := tag) free some_ room (zoneClearBlock_good _ (badIndex_none good) hzs)
    obtain ⟨zones, units, jobs⟩ : (taken serviceLink r .zoneClear tag s).zones = s.zones ∧
      (taken serviceLink r .zoneClear tag s).units = s.units ∧ (taken serviceLink r .zoneClear tag s).jobs = s.jobs :=
      ⟨rfl, rfl, rfl⟩
    generalize taken serviceLink r .zoneClear tag s = u at answer zones units jobs ⊢
    refine ⟨_, _, answer, fun ws hws => congrArg (fun l => forEach l clearZone u) (unique hws).symm,
      ?_, fun z hz => ?_, fun z hz => ?_, ?_, ?_, ?_⟩
    · simp only [mem, zones]
    · rw [clearZones_zones, if_pos ((mem z).mp hz)]
    · rw [clearZones_zones, if_neg (mt (mem z).mpr hz), zones]
    · rw [clearZones_units, units]
    · rw [clearZones_jobs, jobs]
    · exact clearZones_links zs u
  · rintro s t z e law he rfl
    have change := clearZone_changed law he
    have unowned : zoneOwner (clearZone z s) z = none :=
      zoneOwner_unused (by rw [clearZone_zones, if_pos rfl])
    have keeps (home : e.home ≠ none) : (Zone.isOpen s.zones[z] && !Zone.isOpen none) = false := by
      simpa [Zone.isOpen, he, Option.isSome_iff_ne_none] using home
    have stops (home : e.home = none) : (Zone.isOpen s.zones[z] && !Zone.isOpen none) = true := by
      simp [Zone.isOpen, he, home]
    refine ⟨change.zones, change.lawful, change.muted, fun home => ?_, fun c hc other => ?_, fun k other => ?_,
      fun n c hc hz => change.muted.quiet n c hc (decide_eq_true hz), fun k owner => ?_, fun home => ?_⟩
    · obtain ⟨claims, waits, _⟩ := change.claimsKept (keeps home)
      exact ⟨claims, waits⟩
    · rw [change.claims, List.mem_filter]
      exact ⟨hc, by simp [freed, other]⟩
    · rw [change.owners, unowned, decide_eq_false (by simpa using other), Bool.or_false]
    · rw [change.owners, decide_eq_true (.inl owner), Bool.or_true]
    · obtain ⟨claims, _, lost⟩ := change.claimsGone (stops home)
      refine ⟨fun c hc => ?_, fun c hc hz => ?_⟩
      · rw [claims, List.mem_filter] at hc
        exact of_decide_eq_true hc.2
      · rw [lost, List.any_eq_true.mpr ⟨c, hc, decide_eq_true ⟨rfl, hz⟩⟩, Bool.or_true]

end

section
/-!
PROOFS. ZONE SET (R9 to R14): the checks of a batch, what a batch that passes writes, and what a material change does.
-/

namespace Sys2Proof.Machine

/-! ### The checks of one record (R9) -/

/-- Whether a record fails the check of a number, in the order of `failedCheck`. -/
def failsCheck (s : State) (earlier : List ZoneRecord) (q : ZoneRecord) : Nat → Bool
  | 1 => decide (31 < q.index.toNat)
  | 2 => earlier.any fun p => p.index = q.index
  | 3 => decide (q.state ≠ 1 ∧ q.state ≠ 2)
  | 4 => !namesPanel s q.panel
  | 5 => !recordFits q
  | 6 => decide (3 < q.rotation.toNat)
  | 7 => !logicalSize q.logicalWidth || !logicalSize q.logicalHeight
  | 8 => (homeOf q.home).isNone
  | _ => false

/-- The checks are made in ascending number. -/
theorem failedCheck_eq (s : State) (earlier : List ZoneRecord) (q : ZoneRecord) :
    failedCheck s earlier q = (List.range 9).find? (failsCheck s earlier q) := by
  have range : List.range 9 = [0, 1, 2, 3, 4, 5, 6, 7, 8] := rfl
  rw [range]
  simp only [List.find?_cons, List.find?_nil, failsCheck, failedCheck]
  grind

theorem namesPanel_false (s : State) (b : Byte) : namesPanel s b = false ↔
    11 < b.toNat ∨ ∃ i : Slot, b.toNat = i.val ∧ definedKind s i ≠ some .panel := by
  unfold namesPanel
  cases h : index? 12 b.toNat with
  | none =>
    have := index_eq_none.mp h
    simp only [Option.any_none, true_iff]
    omega
  | some i =>
    have hi := index_eq_some.mp h
    have small : ¬11 < b.toNat := by omega
    rw [Option.any_some, decide_eq_false_iff_not]
    refine ⟨fun other => .inr ⟨i, hi, other⟩, ?_⟩
    rintro (large | ⟨j, hj, other⟩)
    · exact absurd large small
    · rwa [Fin.ext (hi.symm.trans hj)]

theorem half_eq_zero (h : Half) : h = 0 ↔ h.toNat = 0 :=
  ⟨fun e => by rw [e]; rfl, fun e => BitVec.eq_of_toNat_eq e⟩

theorem recordFits_false (q : ZoneRecord) : recordFits q = false ↔
    4095 < q.left.toNat ∨ 4095 < q.top.toNat ∨ q.width = 0 ∨ 4096 < q.width.toNat ∨ q.height = 0 ∨
      4096 < q.height.toNat ∨ 4096 < q.left.toNat + q.width.toNat ∨ 4096 < q.top.toNat + q.height.toNat := by
  simp only [recordFits, decide_eq_false_iff_not, half_eq_zero]
  omega

theorem logicalSize_false (h : Half) : logicalSize h = false ↔ h = 0 ∨ 32767 < h.toNat := by
  simp only [logicalSize, decide_eq_false_iff_not, half_eq_zero]
  omega

theorem homeOf_isNone (b : Byte) : (homeOf b).isNone = true ↔ 7 < b.toNat ∧ b ≠ 0xFF := by
  by_cases all : b = 0xFF
  · simp [homeOf, all]
  · rw [homeOf, if_neg all, Option.isNone_map, Option.isNone_iff_eq_none, index_eq_none]
    exact ⟨fun large => ⟨large, all⟩, And.left⟩

theorem failsCheck_iff (s : State) (earlier : List ZoneRecord) (q : ZoneRecord) (n : Nat) :
    failsCheck s earlier q n = true ↔ RecordFails s earlier q n := by
  match n with
  | 0 => simp [failsCheck, RecordFails]
  | 1 => exact decide_eq_true_iff
  | 2 => simp [failsCheck, RecordFails]
  | 3 => exact decide_eq_true_iff
  | 4 => simp only [failsCheck, RecordFails, Bool.not_eq_true', namesPanel_false]
  | 5 => simp only [failsCheck, RecordFails, Bool.not_eq_true', recordFits_false]
  | 6 => exact decide_eq_true_iff
  | 7 => simp only [failsCheck, RecordFails, Bool.or_eq_true, Bool.not_eq_true', logicalSize_false, or_assoc]
  | 8 => exact homeOf_isNone q.home
  | n + 9 => simp [failsCheck, RecordFails]

theorem failsCheck_small {s : State} {earlier : List ZoneRecord} {q : ZoneRecord} {n : Nat}
    (h : failsCheck s earlier q n = true) : n < 9 := by
  by_contra large
  obtain ⟨m, rfl⟩ : ∃ m, n = m + 9 := ⟨n - 9, by omega⟩
  simp [failsCheck] at h

theorem failedCheck_some (s : State) (earlier : List ZoneRecord) (q : ZoneRecord) (c : Nat) :
    failedCheck s earlier q = some c ↔ RecordFails s earlier q c ∧ ∀ d, d < c → ¬RecordFails s earlier q d := by
  rw [failedCheck_eq, List.find?_range_eq_some]
  simp only [← failsCheck_iff, List.mem_range, Bool.not_eq_true, Bool.not_eq_true']
  exact ⟨fun ⟨h, _, first⟩ => ⟨h, first⟩, fun ⟨h, first⟩ => ⟨h, failsCheck_small h, first⟩⟩

theorem failedCheck_none (s : State) (earlier : List ZoneRecord) (q : ZoneRecord) :
    failedCheck s earlier q = none ↔ ∀ c, ¬RecordFails s earlier q c := by
  rw [failedCheck_eq, List.find?_range_eq_none]
  simp only [← failsCheck_iff, Bool.not_eq_true, Bool.not_eq_true']
  refine ⟨fun h c => ?_, fun h c _ => h c⟩
  by_contra fails
  rw [Bool.not_eq_false] at fails
  simp [h c (failsCheck_small fails)] at fails

/-! ### The checks of a batch (R10) -/

/-- The first bad record of a batch, behind records that passed. -/
theorem badRecord_some (s : State) (records : List ZoneRecord) : ∀ (earlier : List ZoneRecord) (n c : Nat),
    badRecord s earlier records = some (n, c) ↔ ∃ a q b, records = a ++ q :: b ∧ n = earlier.length + a.length + 1 ∧
      failedCheck s (earlier ++ a) q = some c ∧
      ∀ x p y, a = x ++ p :: y → failedCheck s (earlier ++ x) p = none := by
  induction records with
  | nil => simp [badRecord]
  | cons r records ih =>
    intro earlier n c
    unfold badRecord
    cases check : failedCheck s earlier r with
    | some d =>
      simp only [Option.some.injEq, Prod.mk.injEq]
      constructor
      · rintro ⟨rfl, rfl⟩
        exact ⟨[], r, records, rfl, rfl, by simpa using check, by simp⟩
      · rintro ⟨_ | ⟨p, a⟩, q, b, split, hn, fails, before⟩
        · obtain ⟨rfl, rfl⟩ := List.cons.inj split
          rw [List.append_nil, check] at fails
          exact ⟨by simpa using hn.symm, Option.some.inj fails⟩
        · obtain ⟨rfl, rfl⟩ := List.cons.inj split
          have := before [] r a rfl
          simp [check] at this
    | none =>
      simp only [ih]
      constructor
      · rintro ⟨a, q, b, rfl, hn, fails, before⟩
        refine ⟨r :: a, q, b, rfl, by simp at hn ⊢; omega, by simpa using fails, ?_⟩
        rintro (_ | ⟨p', x⟩) p y split
        · obtain ⟨rfl, _⟩ := List.cons.inj split
          simpa using check
        · obtain ⟨rfl, rest⟩ := List.cons.inj split
          simpa using before x p y rest
      · rintro ⟨_ | ⟨p, a⟩, q, b, split, hn, fails, before⟩
        · obtain ⟨rfl, rfl⟩ := List.cons.inj split
          simp [check] at fails
        · obtain ⟨rfl, rfl⟩ := List.cons.inj split
          refine ⟨a, q, b, rfl, by simp at hn ⊢; omega, by simpa using fails, fun x p y split => ?_⟩
          simpa using before (r :: x) p y (by rw [split]; rfl)

theorem badRecord_none (s : State) (records : List ZoneRecord) : ∀ earlier : List ZoneRecord,
    badRecord s earlier records = none ↔ ∀ a q b, records = a ++ q :: b → failedCheck s (earlier ++ a) q = none := by
  induction records with
  | nil => simp [badRecord]
  | cons r records ih =>
    intro earlier
    unfold badRecord
    cases check : failedCheck s earlier r with
    | some d =>
      simp only [reduceCtorEq, false_iff, not_forall]
      exact ⟨[], r, records, rfl, by simp [check]⟩
    | none =>
      simp only [ih]
      constructor
      · rintro passes (_ | ⟨p, a⟩) q b split
        · obtain ⟨rfl, _⟩ := List.cons.inj split
          simpa using check
        · obtain ⟨rfl, rest⟩ := List.cons.inj split
          simpa using passes a q b rest
      · intro passes a q b split
        simpa using passes (r :: a) q b (by rw [split]; rfl)

/-- The checks read of the state the kinds of the slots alone. -/
theorem badRecord_congr {s t : State} (kinds : ∀ i, definedKind t i = definedKind s i) (records : List ZoneRecord) :
    ∀ earlier, badRecord t earlier records = badRecord s earlier records := by
  have panels (b : Byte) : namesPanel t b = namesPanel s b := by
    unfold namesPanel
    rw [funext kinds]
  have check (earlier : List ZoneRecord) (q : ZoneRecord) : failedCheck t earlier q = failedCheck s earlier q := by
    simp only [failedCheck, panels]
  induction records with
  | nil => exact fun _ => rfl
  | cons r records ih => simp only [badRecord, check, ih, implies_true]

/-! ### What a record writes (R9, R11) -/

/-- The entry e at index z is as a record says, field by field, on a panel. -/
structure EntryOf (s : State) (q : ZoneRecord) (z : ZoneIx) (e : Zone) : Prop where
  index : z.val = q.index.toNat
  enabled : e.enabled = true ↔ q.state = 1
  panel : e.panel.val = q.panel.toNat
  onPanel : definedKind s e.panel = some .panel
  left : e.left = q.left.toNat
  top : e.top = q.top.toNat
  width : e.width = q.width.toNat
  height : e.height = q.height.toNat
  rotation : e.rotation.val = q.rotation.toNat
  logicalWidth : e.logicalWidth = q.logicalWidth.toNat
  logicalHeight : e.logicalHeight = q.logicalHeight.toNat
  deadBand : e.deadBand = min 15 q.deadBand.toNat
  home : orNone e.home = [q.home]

theorem homeOf_code {b : Byte} {home : Option Kiosk} (h : homeOf b = some home) : orNone home = [b] := by
  unfold homeOf at h
  split at h
  · next all =>
    obtain rfl := Option.some.inj h
    rw [all]
    rfl
  · obtain ⟨k, hk, rfl⟩ := Option.map_eq_some_iff.mp h
    simp [orNone, u8, ← index_eq_some.mp hk]

theorem namesPanel_true {s : State} {b : Byte} (h : namesPanel s b = true) :
    ∃ i, index? 12 b.toNat = some i ∧ definedKind s i = some .panel := by
  simpa [namesPanel, Option.any_eq_true] using h

/-- A record that passes the checks of R9 writes an entry that is as it says. -/
theorem zoneOf_passed {s : State} {earlier : List ZoneRecord} {q : ZoneRecord} (h : failedCheck s earlier q = none) :
    ∃ z e, zoneOf q = some (z, e) ∧ EntryOf s q z e := by
  have passes (n : Nat) : failsCheck s earlier q n = false := by
    rw [← Bool.not_eq_true, failsCheck_iff]
    exact (failedCheck_none s earlier q).mp h n
  have index : q.index.toNat < 32 := by have := of_decide_eq_false (passes 1); omega
  have rotation : q.rotation.toNat < 4 := by have := of_decide_eq_false (passes 6); omega
  obtain ⟨i, panel, kind⟩ := namesPanel_true (s := s) (b := q.panel) (by simpa [failsCheck] using passes 4)
  have coded : (homeOf q.home).isSome = true := by simpa [failsCheck] using passes 8
  obtain ⟨home, hhome⟩ := Option.isSome_iff_exists.mp coded
  have hz : index? 32 q.index.toNat = some ⟨q.index.toNat, index⟩ := index_eq_some.mpr rfl
  have hr : index? 4 q.rotation.toNat = some ⟨q.rotation.toNat, rotation⟩ := index_eq_some.mpr rfl
  simp only [zoneOf, hz, hr, panel, hhome, Option.bind_eq_bind, Option.bind_some, Option.pure_def]
  exact ⟨_, _, rfl, {
    index := rfl, enabled := decide_eq_true_iff, panel := (index_eq_some.mp panel).symm, onPanel := kind, left := rfl,
    top := rfl, width := rfl, height := rfl, rotation := rfl, logicalWidth := rfl, logicalHeight := rfl,
    deadBand := rfl, home := homeOf_code hhome }⟩

/-- The geometry and the logical size of a record that passes lie in their ranges (R9). -/
theorem record_inRange {s : State} {earlier : List ZoneRecord} {q : ZoneRecord} (h : failedCheck s earlier q = none) :
    1 ≤ q.width.toNat ∧ q.left.toNat + q.width.toNat ≤ 4096 ∧ 1 ≤ q.height.toNat ∧
      q.top.toNat + q.height.toNat ≤ 4096 ∧ 1 ≤ q.logicalWidth.toNat ∧ 1 ≤ q.logicalHeight.toNat := by
  have fits : ¬RecordFails s earlier q 5 := (failedCheck_none s earlier q).mp h 5
  have logical : ¬RecordFails s earlier q 7 := (failedCheck_none s earlier q).mp h 7
  simp only [RecordFails, half_eq_zero] at fits logical
  omega

theorem zoneOf_index {q : ZoneRecord} {z : ZoneIx} {e : Zone} (h : zoneOf q = some (z, e)) : z.val = q.index.toNat := by
  simp only [zoneOf, Option.bind_eq_bind, Option.bind_eq_some_iff, Option.pure_def, Option.some.injEq,
    Prod.mk.injEq] at h
  obtain ⟨w, hw, _, _, _, _, _, _, rfl, _⟩ := h
  exact (index_eq_some.mp hw).symm

/-! ### Applying a batch (R11) -/

theorem applyZone_deadBand {s : State} {z : ZoneIx} {old e : Zone} (h : s.zones[z] = some old)
    (same : { old with deadBand := e.deadBand } = e) :
    applyZone z e s = { s with zones := upd s.zones z fun _ => some e } := by
  simp only [applyZone, h, if_pos same]

theorem applyZone_material {s : State} {z : ZoneIx} {e : Zone}
    (h : ∀ old, s.zones[z] = some old → { old with deadBand := e.deadBand } ≠ e) :
    applyZone z e s = changeZone z (some e) s := by
  cases entry : s.zones[z] with
  | none => simp only [applyZone, entry]
  | some old => simp only [applyZone, entry, if_neg (h old entry)]

theorem applyZone_zones (z : ZoneIx) (e : Zone) (s : State) :
    (applyZone z e s).zones = upd s.zones z fun _ => some e := by
  by_cases material : ∀ old, s.zones[z] = some old → { old with deadBand := e.deadBand } ≠ e
  · rw [applyZone_material material, changeZone_zones]
  · simp only [not_forall, not_not] at material
    obtain ⟨old, entry, same⟩ := material
    rw [applyZone_deadBand entry same]

theorem applyRecord_zones {q : ZoneRecord} {z : ZoneIx} {e : Zone} (h : zoneOf q = some (z, e)) (s : State) :
    (applyRecord q s).zones = upd s.zones z fun _ => some e := by
  rw [applyRecord, h, Option.elim_some, applyZone_zones]

/-- A batch leaves every entry that no record names. -/
theorem applyRecords_other {records : List ZoneRecord} {w : ZoneIx} (h : ∀ q ∈ records, q.index.toNat ≠ w.val)
    (s : State) : (forEach records applyRecord s).zones[w] = s.zones[w] := by
  induction records generalizing s with
  | nil => rfl
  | cons q records ih =>
    rw [forEach_cons, ih fun p hp => h p (List.mem_cons_of_mem q hp)]
    cases entry : zoneOf q with
    | none => rw [applyRecord, entry, Option.elim_none]
    | some p =>
      have named : p.1 ≠ w := fun e => h q List.mem_cons_self (by rw [← e]; exact (zoneOf_index entry).symm)
      rw [applyRecord_zones entry, upd_get_ne _ _ _ _ named]

/-- A batch whose records name distinct entries writes each. -/
theorem applyRecords_written {records : List ZoneRecord} (distinct : records.Pairwise fun p q => p.index ≠ q.index)
    {q : ZoneRecord} (hq : q ∈ records) {z : ZoneIx} {e : Zone} (h : zoneOf q = some (z, e)) (s : State) :
    (forEach records applyRecord s).zones[z] = some e := by
  induction records generalizing s with
  | nil => simp at hq
  | cons r records ih =>
    obtain ⟨apart, distinct⟩ := List.pairwise_cons.mp distinct
    rw [forEach_cons]
    obtain rfl | later := List.mem_cons.mp hq
    · have others : ∀ p ∈ records, p.index.toNat ≠ z.val := fun p hp same =>
        apart p hp (BitVec.eq_of_toNat_eq ((zoneOf_index h).symm.trans same.symm))
      rw [applyRecords_other others, applyRecord_zones h, upd_get_self]
    · exact ih distinct later (applyRecord r s)

/-- The records of a batch that passes name distinct entries (R9 check 2). -/
theorem passed_distinct {s : State} {records : List ZoneRecord}
    (h : ∀ a q b, records = a ++ q :: b → failedCheck s a q = none) :
    records.Pairwise fun p q => p.index ≠ q.index := by
  induction records using List.reverseRecOn with
  | nil => exact .nil
  | append_singleton records r ih =>
    refine List.pairwise_append.mpr
      ⟨ih fun a q b split => h a q (b ++ [r]) (by simp [split]), List.pairwise_singleton .., ?_⟩
    intro p hp q hq same
    obtain rfl := List.mem_singleton.mp hq
    exact (failedCheck_none s records q).mp (h records q [] rfl) 2 ⟨p, hp, same⟩

/-! ### The request -/

/-- A ZONE SET on S of 1 to 6 records is answered by its block (R9, R187). -/
theorem zoneSet_answered {s t : State} {r : ReqSlot} {tag : Byte} {records : List ZoneRecord} {p : List Byte}
    (free : Takes s serviceLink r) (some_ : 1 ≤ records.length) (room : records.length ≤ 6)
    (block : zoneSetBlock records (taken serviceLink r .zoneSet tag s) = (t, p)) :
    exec (.zoneSet serviceLink tag records) s = .next (answered serviceLink r p t) := by
  have count : (BitVec.ofNat 8 records.length).toNat = records.length := by simp; omega
  have agrees : lengthAgrees .zoneSet true (1 + 18 * records.length) (BitVec.ofNat 8 records.length) = true := by
    simp only [lengthAgrees, ReqKind.fixedLength, count, decide_eq_true_eq]
    exact ⟨by omega, some_, room, trivial⟩
  exact request_now (k := .zoneSet) free (by omega) rfl agrees rfl (by rw [atOnce, block])

theorem zoneSetBlock_bad {s : State} {records : List ZoneRecord} {n c : Nat}
    (h : badRecord s [] records = some (n, c)) : zoneSetBlock records s = (s, reply .badArg (u8 n ++ u8 c)) := by
  simp only [zoneSetBlock, h]

theorem zoneSetBlock_good {s : State} {records : List ZoneRecord} (h : badRecord s [] records = none) :
    zoneSetBlock records s = (forEach records applyRecord s, reply .ok []) := by
  simp only [zoneSetBlock, h]

end Sys2Proof.Machine

open Sys2Proof Sys2Proof.Machine

/-- Settles O36: the checks are a search through the batch, a batch that passes writes its distinct entries one by one, and
a material change is a change of a zone entry. -/
theorem zoneSet : Obligations.ZoneSet := by
  refine ⟨fun s r tag records free some_ room => ?_, fun s records => ⟨fun n c => ?_, ?_⟩, fun s records passed => ?_,
    fun s z old e => applyZone_deadBand, ?_⟩
  case refine_1 =>
    have same : badRecord (taken serviceLink r .zoneSet tag s) [] records = badRecord s [] records :=
      badRecord_congr (s := s) (t := taken serviceLink r .zoneSet tag s) (fun _ => rfl) records []
    rw [← same]
    exact ⟨fun n c bad => zoneSet_answered free some_ room (zoneSetBlock_bad bad),
      fun good => zoneSet_answered free some_ room (zoneSetBlock_good good)⟩
  case refine_2 =>
    simp only [badRecord_some, List.nil_append, List.length_nil, Nat.zero_add, failedCheck_some, failedCheck_none,
      and_assoc]
  case refine_3 =>
    simp only [badRecord_none, List.nil_append, failedCheck_none]
  case refine_4 =>
    have passes : ∀ a q b, records = a ++ q :: b → failedCheck s a q = none := (badRecord_none s records []).mp passed
    refine ⟨fun q hq => ?_, fun z others => applyRecords_other others s⟩
    obtain ⟨a, b, split⟩ := List.append_of_mem hq
    obtain ⟨z, e, entry, is⟩ := zoneOf_passed (passes a q b split)
    have range := record_inRange (passes a q b split)
    rw [← is.width, ← is.left, ← is.height, ← is.top, ← is.logicalWidth, ← is.logicalHeight] at range
    obtain ⟨width, right, height, bottom, logicalWidth, logicalHeight⟩ := range
    exact ⟨z, e, entry, applyRecords_written (passed_distinct passes) hq entry s, is.deadBand ▸ Nat.min_le_left ..,
      ⟨is.index, is.enabled, is.panel, is.left, is.top, is.width, is.height, is.rotation, is.logicalWidth,
        is.logicalHeight, is.deadBand, is.home⟩, width, right, height, bottom, logicalWidth, logicalHeight, is.onPanel⟩
  case refine_5 =>
    rintro s t z e law material rfl
    rw [applyZone_material material]
    have change := changeZone_changed law z (some e)
    refine ⟨change.zones, change.muted, fun n c hc hz => change.muted.quiet n c hc (decide_eq_true hz),
      change.owners, ?_, fun claimable home => change.claimsGone ?_, fun stays => change.claimsKept ?_⟩
    · simp only [claimableZone, Option.any_eq_true, Option.isNone_iff_eq_none]
    · have closed : Zone.isOpen (some e) = false := by simpa [Zone.isOpen, Option.isSome_iff_ne_none] using home
      rw [closed]
      exact congrArg (· && true) claimable
    · obtain shut | home := stays
      · exact congrArg (· && _) shut
      · simp [Zone.isOpen, home]

end

section
/-!
PROOFS. The laws of the contacts against the step: the part of the state they are about, the blocks that leave it as it
is, and the operations a law has to survive so that every step keeps it.
-/

namespace Sys2Proof.Machine

/-! ### The part of the state the laws of the contacts are about -/

/-- The state with every field at its reset value but the contacts, the ignored sets, the zones and the claims. -/
def touchPart (s : State) : State :=
  { State.reset with
    contacts := s.contacts, ignored := s.ignored, zones := s.zones, claims := s.claims, nextClaim := s.nextClaim }

/-- An operation that can change only what a mask blanks leaves this part alone, when the mask does. -/
theorem touchPart_of_frame (mask : State → State → State) {s t : State} (h : ∀ base, mask base t = mask base s)
    (blind : ∀ base u, touchPart (mask base u) = touchPart u := by exact fun _ _ => rfl) : touchPart t = touchPart s :=
  frame_of (blind s) (h s)

theorem touchPart_congr {s t : State} (contacts : t.contacts = s.contacts) (ignored : t.ignored = s.ignored)
    (zones : t.zones = s.zones) (claims : t.claims = s.claims) (next : t.nextClaim = s.nextClaim) :
    touchPart t = touchPart s := by
  unfold touchPart
  rw [contacts, ignored, zones, claims, next]

/-! ### Operations that leave this part as it is -/

@[simp] theorem touchPart_modUnit (i : Slot) (f : UnitSlot → UnitSlot) (s : State) :
    touchPart (modUnit i f s) = touchPart s := rfl

@[simp] theorem touchPart_modAttn (i : Slot) (f : Attention → Attention) (s : State) :
    touchPart (modAttn i f s) = touchPart s := rfl

@[simp] theorem touchPart_modPanel (i : Slot) (f : PanelEngine → PanelEngine) (s : State) :
    touchPart (modPanel i f s) = touchPart s := rfl

@[simp] theorem touchPart_postProbe (i : Slot) (p : ProbeStep) (s : State) :
    touchPart (postProbe i p s) = touchPart s :=
  touchPart_of_frame offBoard fun b => postProbe_frame b i p s

@[simp] theorem touchPart_freshEngines (i : Slot) (s : State) : touchPart (freshEngines i s) = touchPart s := rfl

@[simp] theorem touchPart_latchOpt (k : Option Kiosk) (c : NoticeClass) (s : State) :
    touchPart (latch? k c s) = touchPart s := touchPart_of_frame offNotices (fun b => latchOpt_frame b k c s)

@[simp] theorem touchPart_latch (k : Kiosk) (c : NoticeClass) (s : State) : touchPart (latch k c s) = touchPart s := rfl

@[simp] theorem touchPart_latchAll (c : NoticeClass) (s : State) : touchPart (latchAll c s) = touchPart s :=
  touchPart_of_frame offNotices (fun b => latchAll_frame b c s)

@[simp] theorem touchPart_produce (n : ContactNo) (c : Contact) (ph : Phase) (p : Produced) (t : Time) (s : State) :
    touchPart (produce n c ph p t s) = touchPart s :=
  touchPart_of_frame offKiosks (fun b => produce_frame b n c ph p t s)

@[simp] theorem touchPart_produceCancel (n : ContactNo) (c : Contact) (s : State) :
    touchPart (produceCancel n c s) = touchPart s := touchPart_of_frame offKiosks (fun b => produceCancel_frame b n c s)

@[simp] theorem touchPart_settle (s : State) : touchPart (settle s) = touchPart s :=
  touchPart_of_frame offSettle (fun b => settle_frame b s)

@[simp] theorem touchPart_queueReply (l : Link) (r : ReqSlot) (p : List Byte) (s : State) :
    touchPart (queueReply l r p s) = touchPart s := touchPart_of_frame offLinks (fun b => queueReply_frame b l r p s)

@[simp] theorem touchPart_fillPlace (i : Slot) (s : State) : touchPart (fillPlace i s) = touchPart s :=
  touchPart_of_frame offWork (fun b => fillPlace_frame b i s)

@[simp] theorem touchPart_levelRule (i : Slot) (s : State) : touchPart (levelRule i s) = touchPart s :=
  touchPart_of_frame offAttn (fun b => levelRule_frame b i s)

@[simp] theorem touchPart_tellScan (c : Claim) (lapse : Bool) (s : State) :
    touchPart (tellScan c lapse s) = touchPart s := touchPart_of_frame offScan (fun b => tellScan_frame b c lapse s)

@[simp] theorem touchPart_scannerGone (i : Slot) (s : State) : touchPart (scannerGone i s) = touchPart s :=
  touchPart_of_frame offScan (fun b => scannerGone_frame b i s)

@[simp] theorem touchPart_scanAct (i : Slot) (w : TxnName) (o : BusOutcome) (d : List Byte) (s : State) :
    touchPart (scanAct i w o d s) = touchPart s := touchPart_of_frame offScan (fun b => scanAct_frame b i w o d s)

@[simp] theorem touchPart_scannerCause (i : Slot) (b : Byte) (s : State) :
    touchPart (scannerCause i b s) = touchPart s :=
  touchPart_of_frame offScan (fun base => scannerCause_frame base i b s)

@[simp] theorem touchPart_feedAct (i : Slot) (w : TxnName) (o : BusOutcome) (d : List Byte) (s : State) :
    touchPart (feedAct i w o d s) = touchPart s := touchPart_of_frame offFeed (fun b => feedAct_frame b i w o d s)

@[simp] theorem touchPart_printerCause (i : Slot) (b : Byte) (s : State) :
    touchPart (printerCause i b s) = touchPart s :=
  touchPart_of_frame offFeed (fun base => printerCause_frame base i b s)

@[simp] theorem touchPart_printerLost (i : Slot) (s : State) : touchPart (printerLost i s) = touchPart s :=
  touchPart_of_frame offFeed (fun b => printerGone_frame b i .unitLost s)

@[simp] theorem touchPart_printerRemoved (i : Slot) (s : State) : touchPart (printerRemoved i s) = touchPart s :=
  touchPart_of_frame offFeed (fun b => printerRemoved_frame b i s)

@[simp] theorem touchPart_cancelJob (j : Job) (s : State) : touchPart (cancelJob j s) = touchPart s :=
  touchPart_of_frame offFeed (fun b => cancelJob_frame b j s)

@[simp] theorem touchPart_stallJob (j : Job) (s : State) : touchPart (stallJob j s) = touchPart s :=
  touchPart_of_frame offFeed (fun b => stallJob_frame b j s)

@[simp] theorem touchPart_clearJobs (k : Kiosk) (s : State) : touchPart (clearJobs k s) = touchPart s :=
  touchPart_of_frame offFeed (fun b => clearJobs_frame b k s)

@[simp] theorem touchPart_wantRoomTest (k : Kiosk) (s : State) : touchPart (wantRoomTest k s) = touchPart s :=
  touchPart_of_frame offRoom (fun b => wantRoomTest_frame b k s)

@[simp] theorem touchPart_createJob (k : Kiosk) (any : Bool) (i : Slot) (s : State) :
    touchPart (createJob k any i s).2 = touchPart s := by
  have h : touchPart (reclaim s) = touchPart s := by
    unfold reclaim
    split
    · rfl
    · split <;> rfl
  exact Eq.trans rfl h

@[simp] theorem touchPart_clearLink (k : Kiosk) (s : State) : touchPart (clearLink k s) = touchPart s := rfl

@[simp] theorem touchPart_clearNotices (k : Kiosk) (s : State) : touchPart (clearNotices k s) = touchPart s := rfl

/-! ### Blocks that leave this part as it is -/

@[simp] theorem atOnce_state (f : State → State × List Byte) (r : ReqSlot) (s : State) :
    (atOnce f r s).1 = (f s).1 := rfl

@[simp] theorem query_state (f : State → List Byte) (r : ReqSlot) (s : State) : (query f r s).1 = s := rfl

@[simp] theorem touchPart_forKiosk {l : Link} {f : Kiosk → State → State × List Byte}
    (h : ∀ k s, touchPart (f k s).1 = touchPart s) (s : State) : touchPart (forKiosk l f s).1 = touchPart s := by
  unfold forKiosk
  split
  · exact h _ s
  · rfl

@[simp] theorem touchPart_onJob {id : Half} {k : Kiosk} {s : State} {f : Job → State × List Byte}
    (h : ∀ j, touchPart (f j).1 = touchPart s) : touchPart (onJob id k s f).1 = touchPart s := by
  unfold onJob
  split
  · rfl
  · split
    · rfl
    · exact h _

@[simp] theorem touchPart_onScan {slot : Byte} {k : Kiosk} {s : State} {f : Slot → State × List Byte}
    (h : ∀ i, touchPart (f i).1 = touchPart s) : touchPart (onScan slot k s f).1 = touchPart s := by
  unfold onScan
  split
  · rfl
  · split_ifs
    · rfl
    · rfl
    · rfl
    · exact h _

@[simp] theorem touchPart_linkStatusBlock (l : Link) (named : Option Byte) (s : State) :
    touchPart (linkStatusBlock l named s).1 = touchPart s := by
  unfold linkStatusBlock
  split <;> rfl

@[simp] theorem touchPart_maintainBlock (kiosk : Byte) (on : Bool) (s : State) :
    touchPart (maintainBlock kiosk on s).1 = touchPart s := by
  unfold maintainBlock
  split <;> rfl

@[simp] theorem touchPart_maintainAny (p : List Byte) (s : State) : touchPart (maintainAny p s).1 = touchPart s := by
  unfold maintainAny
  split_ifs <;> simp

@[simp] theorem touchPart_openOn (k : Kiosk) (any : Bool) (i : Slot) (s : State) :
    touchPart (openOn k any i s).1 = touchPart s := by
  unfold openOn
  split_ifs <;> simp

@[simp] theorem touchPart_printOpenBlock (target : Byte) (k : Kiosk) (s : State) :
    touchPart (printOpenBlock target k s).1 = touchPart s := by
  unfold printOpenBlock
  split_ifs
  · split <;> simp
  · split
    · rfl
    · split_ifs <;> simp

@[simp] theorem touchPart_printDataBlock (id : Half) (data : List Byte) (k : Kiosk) (s : State) :
    touchPart (printDataBlock id data k s).1 = touchPart s :=
  touchPart_onJob fun j => by
    dsimp only
    split_ifs <;> rfl

@[simp] theorem touchPart_printCloseBlock (id : Half) (k : Kiosk) (s : State) :
    touchPart (printCloseBlock id k s).1 = touchPart s :=
  touchPart_onJob fun j => by split_ifs <;> rfl

@[simp] theorem touchPart_printCancelBlock (id : Half) (k : Kiosk) (s : State) :
    touchPart (printCancelBlock id k s).1 = touchPart s :=
  touchPart_onJob fun j => by split <;> simp

@[simp] theorem touchPart_jobStatusBlock (l : Link) (id : Half) (collect : Byte) (s : State) :
    touchPart (jobStatusBlock l id collect s).1 = touchPart s := by
  unfold jobStatusBlock
  split
  · rfl
  · dsimp only
    split_ifs <;> rfl

@[simp] theorem touchPart_quotaSetBlock (kiosk : Byte) (quota : Half) (s : State) :
    touchPart (quotaSetBlock kiosk quota s).1 = touchPart s := by
  unfold quotaSetBlock
  split
  · rfl
  · exact (touchPart_wantRoomTest ..).trans rfl

@[simp] theorem touchPart_fillLimitBlock (limit : Word) (s : State) :
    touchPart (fillLimitBlock limit s).1 = touchPart s := rfl

@[simp] theorem touchPart_scanStartBlock (slot : Byte) (g : ScanSettings) (k : Kiosk) (s : State) :
    touchPart (scanStartBlock slot g k s).1 = touchPart s := by
  unfold scanStartBlock
  split
  · rfl
  · split
    · rfl
    · split
      · rfl
      · split_ifs <;> rfl

@[simp] theorem touchPart_scanCreditBlock (slot n : Byte) (k : Kiosk) (s : State) :
    touchPart (scanCreditBlock slot n k s).1 = touchPart s := touchPart_onScan fun _ => rfl

@[simp] theorem touchPart_scanStopBlock (slot : Byte) (k : Kiosk) (s : State) :
    touchPart (scanStopBlock slot k s).1 = touchPart s :=
  touchPart_onScan fun i => by split_ifs <;> rfl

@[simp] theorem touchPart_unitDefineBlock (slot address kind mode enable : Byte) (s : State) :
    touchPart (unitDefineBlock slot address kind mode enable s).1 = touchPart s := by
  unfold unitDefineBlock
  split
  · rfl
  · split_ifs
    · rfl
    · rfl
    · split
      · rfl
      · split
        · rfl
        · rfl
        · simp [defineSlot]

@[simp] theorem touchPart_attnSetBlock (slot mode enable : Byte) (s : State) :
    touchPart (attnSetBlock slot mode enable s).1 = touchPart s := by
  unfold attnSetBlock
  split
  · split_ifs
    · rfl
    · dsimp only
      unfold setAttention
      dsimp only
      split_ifs
      · exact (touchPart_levelRule ..).trans rfl
      · rfl
  · rfl

@[simp] theorem touchPart_busRawBlock (kind : Option BusKind) (address command : Byte) (data : List Byte) (r : ReqSlot)
    (s : State) : touchPart (busRawBlock kind address command data r s).1 = touchPart s := by
  unfold busRawBlock
  split
  · rfl
  · split
    · rfl
    · split <;> rfl

@[simp] theorem touchPart_changeEnabled (f : ClassSet → ClassSet → ClassSet) (classes : Half) (k : Kiosk) (s : State) :
    touchPart (changeEnabled f classes k s).1 = touchPart s := by
  unfold changeEnabled
  split <;> rfl

@[simp] theorem touchPart_noticeArmBlock (classes : Half) (k : Kiosk) (s : State) :
    touchPart (noticeArmBlock classes k s).1 = touchPart s := touchPart_changeEnabled ..

@[simp] theorem touchPart_noticeDisarmBlock (classes : Half) (k : Kiosk) (s : State) :
    touchPart (noticeDisarmBlock classes k s).1 = touchPart s := touchPart_changeEnabled ..

@[simp] theorem touchPart_setHold (h : Bool) (k : Kiosk) (s : State) : touchPart (setHold h k s).1 = touchPart s := by
  unfold setHold
  rfl

@[simp] theorem touchPart_noticeTakeBlock (k : Kiosk) (s : State) :
    touchPart (noticeTakeBlock k s).1 = touchPart s := by
  unfold noticeTakeBlock
  rfl

@[simp] theorem touchPart_maintainMaskBlock (kiosk : Byte) (classes : Half) (s : State) :
    touchPart (maintainMaskBlock kiosk classes s).1 = touchPart s := by
  unfold maintainMaskBlock
  split <;> rfl

@[simp] theorem touchPart_forceNoticeBlock (kiosk : Byte) (classes word : Half) (s : State) :
    touchPart (forceNoticeBlock kiosk classes word s).1 = touchPart s := by
  unfold forceNoticeBlock
  split
  · split_ifs <;> rfl
  · rfl

/-! ### Events that leave this part as it is -/

@[simp] theorem touchPart_expireFill (id : Half) (s : State) : touchPart (expireFill id s) = touchPart s := by
  unfold expireFill
  split
  · rfl
  · split_ifs <;> simp

@[simp] theorem touchPart_expireReprobe (i : Slot) (s : State) : touchPart (expireReprobe i s) = touchPart s := by
  unfold expireReprobe
  split
  · split_ifs <;> simp
  · rfl

@[simp] theorem touchPart_attentionChange (i : Slot) (high : Bool) (s : State) :
    touchPart (attentionChange i high s) = touchPart s := by
  unfold attentionChange
  split_ifs
  · rfl
  · unfold lineChange
    dsimp only
    split
    · split_ifs <;> rfl
    · split_ifs <;> rfl
    · rfl

@[simp] theorem touchPart_endRelease (s : State) : touchPart (endRelease s) = touchPart s := by
  unfold endRelease
  split <;> rfl

@[simp] theorem touchPart_giveUpRelease (s : State) : touchPart (giveUpRelease s) = touchPart s := by
  unfold giveUpRelease
  split
  · split_ifs <;> rfl
  · rfl

@[simp] theorem touchPart_frameSent (l : Link) (s : State) : touchPart (frameSent l s) = touchPart s := by
  unfold frameSent
  split <;> rfl

@[simp] theorem touchPart_characterFault (l : Link) (s : State) : touchPart (characterFault l s) = touchPart s := by
  unfold characterFault
  split_ifs <;> rfl

@[simp] theorem touchPart_finishFull (s : State) : touchPart (finishFull s) = touchPart s := by
  unfold finishFull
  split_ifs <;> rfl

@[simp] theorem touchPart_finishSoft (s : State) : touchPart (finishSoft s) = touchPart s := by
  have first (i : Slot) (t : State) : touchPart (postFirstPing i t) = touchPart t := by
    unfold postFirstPing
    split_ifs <;> simp
  unfold finishSoft
  cases softDone? s with
  | none => rfl
  | some r =>
    rw [Option.elim_some, forEach_frame touchPart first, touchPart_queueReply]
    rfl

/-! ### Outcomes of the unit bus that leave this part as it is -/

@[simp] theorem touchPart_becomeReady (i : Slot) (s : State) : touchPart (becomeReady i s) = touchPart s := by
  simp [becomeReady]

@[simp] theorem touchPart_probeAct (i : Slot) (w : TxnName) (o : BusOutcome) (d : List Byte) (s : State) :
    touchPart (probeAct i w o d s) = touchPart s := by
  unfold probeAct
  split
  · split
    · simp [probeNext]
    · simp [probeNext]
    · unfold identified
      dsimp only
      split_ifs <;> simp
  · simp [setLost]

@[simp] theorem touchPart_rawAct (t : Txn) (o : BusOutcome) (s : State) : touchPart (rawAct t o s) = touchPart s := by
  unfold rawAct
  cases s.busRaw with
  | none => rfl
  | some r => exact (touchPart_queueReply ..).trans rfl

end Sys2Proof.Machine
end

section
/-!
PROOFS. A law of the contacts is kept by every step when the operations of the Contact Tracker, the Zone Map and the
Claim Manager keep it: the walk through the outcomes of the unit bus, the requests and the commands.
-/

namespace Sys2Proof.Machine

/-- What a law of the contacts has to survive to be kept by every step. -/
structure ContactsKept (P : State → Prop) : Prop where
  /-- It is about the contacts, the ignored sets, the zones and the claims alone. -/
  part : ∀ {s t}, touchPart t = touchPart s → P s → P t
  /-- Both resets (R22, R48, R71). -/
  fresh : ∀ zones, P { State.reset with zones := zones }
  /-- Muting (R41 to R43). -/
  muted : ∀ {s} fits cancel, P s → P (muteContacts fits cancel s)
  /-- A panel lost or removed (R44). -/
  gone : ∀ {s} i, P s → P (panelGone i s)
  /-- A contact record (R29 to R34). -/
  record : ∀ {s} i time q, P s → P (processRecord i time q s)
  /-- A changed zone entry (R12, R17). -/
  zone : ∀ {s} z entry, P s → P (changeZone z entry s)
  /-- A change of a zone's dead-band alone (R11). -/
  deadBand : ∀ {s z old e}, s.zones[z] = some old → { old with deadBand := e.deadBand } = e → P s →
    P { s with zones := upd s.zones z fun _ => some e }
  /-- CLAIM (R54). -/
  claim : ∀ {s} kind number lease wait k, P s → P (claimBlock kind number lease wait k s).1
  /-- A renewed lease (R57). -/
  renewed : ∀ {s} id expiry, P s → P (modClaim id (fun c => { c with expiry := expiry }) s)
  /-- The end of a claim of the table (R60). -/
  held : ∀ {s} {c : Claim} why, c ∈ s.claims → P s → P (removeHeld c why s)
  /-- The end of a WAITING claim of the table (R59, R63, R66). -/
  waiting : ∀ {s} {c : Claim} lost, c ∈ s.claims → c.held = false → P s → P (removeWaiting c lost s)
  /-- The claims of a kiosk at CLEAR KIOSK (R70). -/
  clearClaims : ∀ {s} k, P s → P (clearClaims k s)
  /-- The claims on a removed scanner (R68). -/
  scanner : ∀ {s} i, P s → P (removeResource (.scanner i) s)

/-- What each step of a loop keeps the loop keeps. -/
theorem forEach_keeps {α : Type} {P : State → Prop} {f : α → State → State} {l : List α} {s : State}
    (h : ∀ a ∈ l, ∀ t, P t → P (f a t)) (hs : P s) : P (forEach l f s) := by
  induction l generalizing s with
  | nil => exact hs
  | cons a l ih => exact ih (fun b hb => h b (List.mem_cons_of_mem a hb)) (h a List.mem_cons_self s hs)

/-- A command that answers a next state answers one with this property. -/
def Answers (P : State → Prop) (a : Answer) : Prop := ∀ t, a = .next t → P t

namespace ContactsKept

variable {P : State → Prop} (kept : ContactsKept P) {s : State}
include kept

/-! ### Outcomes of the unit bus (R141, R162) -/

theorem processContacts (i : Slot) (d : List Byte) (h : P s) : P (Machine.processContacts i d s) := by
  unfold Machine.processContacts
  dsimp only
  have start : P (modPanel i (fun e => { e with readWanted := false, readCapture := none }) s) :=
    kept.part (touchPart_modPanel ..) h
  split_ifs
  · exact kept.part (touchPart_modPanel ..) (forEach_keeps (fun q _ _ => kept.record i _ q) start)
  · exact forEach_keeps (fun q _ _ => kept.record i _ q) start
  · exact start

theorem panelAct (i : Slot) (o : BusOutcome) (d : List Byte) (h : P s) : P (Machine.panelAct i o d s) := by
  unfold Machine.panelAct
  dsimp only
  have ended : P (modPanel i (fun e => { e with outstanding := false }) s) := kept.part (touchPart_modPanel ..) h
  split_ifs
  · exact kept.processContacts i d ended
  · exact ended

theorem engineAct (i : Slot) (w : TxnName) (o : BusOutcome) (d : List Byte) (h : P s) :
    P (Machine.engineAct i w o d s) := by
  unfold Machine.engineAct
  split
  · exact kept.part (touchPart_feedAct ..) h
  · exact kept.part (touchPart_scanAct ..) h
  · exact kept.panelAct i o d h
  · exact h

theorem panelCause (i : Slot) (b : Byte) (capture : Time) (h : P s) : P (Machine.panelCause i b capture s) := by
  unfold Machine.panelCause
  dsimp only
  have faulted : P (if (panelCauses b).fault then mutePanel i s else s) := by
    split_ifs
    · exact kept.muted _ true h
    · exact h
  generalize (if (panelCauses b).fault then mutePanel i s else s) = t at faulted
  split_ifs
  · exact kept.part (touchPart_modPanel ..) faulted
  · exact faulted

theorem causeAct (i : Slot) (o : BusOutcome) (d : List Byte) (capture : Time) (h : P s) :
    P (Machine.causeAct i o d capture s) := by
  unfold Machine.causeAct
  refine kept.part (touchPart_levelRule ..) ?_
  split_ifs
  · unfold causeToEngine
    split
    · exact kept.part (touchPart_printerCause ..) h
    · exact kept.part (touchPart_scannerCause ..) h
    · exact kept.panelCause i _ capture h
    · exact h
  · exact kept.part (touchPart_modAttn ..) h

theorem slotLost (i : Slot) (h : P s) : P (Machine.slotLost i s) := by
  have lost : P (withdraw i (setLost i s)) := kept.part (s := s) (touchPart_congr rfl rfl rfl rfl rfl) h
  unfold Machine.slotLost
  refine kept.part (touchPart_latchAll ..) ?_
  generalize withdraw i (setLost i s) = t at lost
  unfold tearDown
  split
  · exact kept.part (touchPart_printerLost ..) lost
  · exact kept.part (touchPart_scannerGone ..) lost
  · exact kept.gone i lost
  · exact lost

theorem countFailure (i : Slot) (o : BusOutcome) (h : P s) : P (Machine.countFailure i o s) := by
  have raised : P (raiseFailures i s) := by
    unfold raiseFailures
    dsimp only
    have more : P (modUnit i (fun u => { u with failures := min 3 (u.failures + 1) }) s) :=
      kept.part (touchPart_modUnit ..) h
    split_ifs
    · exact kept.slotLost i more
    · exact more
  unfold Machine.countFailure
  split_ifs
  · split
    · exact kept.part (touchPart_modUnit ..) h
    · exact h
    · exact h
    · exact raised
  · exact h

theorem handOn (t : Txn) (o : BusOutcome) (h : P s) : P (Machine.handOn t o s) := by
  unfold Machine.handOn
  split_ifs
  · exact h
  · split
    · exact kept.countFailure _ o (kept.part (touchPart_fillPlace ..) (kept.causeAct _ o _ _ h))
    · exact kept.countFailure _ o (kept.part (touchPart_fillPlace ..) (kept.engineAct _ _ o _ h))
    · exact kept.part (touchPart_probeAct ..) h
    · exact kept.part (touchPart_rawAct ..) h
    · exact h

theorem endTransaction (t : Txn) (o : BusOutcome) (h : P s) : P (Machine.endTransaction t o s) :=
  kept.handOn t o (kept.part (s := s) rfl h)

theorem complete (w : TxnName) (a : UnitAnswer) (h : P s) : P (Machine.complete w a s) := by
  unfold Machine.complete
  split
  · split_ifs
    · exact kept.endTransaction _ _ h
    · exact h
  · exact h

theorem completeRaw (a : UnitAnswer) (h : P s) : P (Machine.completeRaw a s) := by
  unfold Machine.completeRaw
  split
  · split_ifs
    · exact kept.endTransaction _ _ h
    · exact h
  · exact h

theorem expireStall (sent : Nat) (received : List Byte) (h : P s) : P (Machine.expireStall sent received s) := by
  unfold Machine.expireStall
  split
  · split_ifs
    · exact kept.endTransaction _ _ h
    · exact h
  · exact h

theorem busAbortBlock (h : P s) : P (Machine.busAbortBlock s).1 := by
  unfold Machine.busAbortBlock
  split
  · exact kept.endTransaction _ _ (kept.part (s := s) rfl h)
  · exact h

/-! ### The blocks of the requests -/

theorem renewBlock (id : Byte) (k : Kiosk) (h : P s) : P (Machine.renewBlock id k s).1 := by
  unfold Machine.renewBlock
  split
  · exact h
  · split_ifs
    · exact h
    · exact h
    · exact kept.renewed _ _ h

theorem releaseBlock (id : Byte) (k : Kiosk) (h : P s) : P (Machine.releaseBlock id k s).1 := by
  unfold Machine.releaseBlock
  split
  · exact h
  · next c hc =>
    have mem := List.mem_of_find?_eq_some hc
    split_ifs with _ held
    · exact h
    · exact kept.held .release mem h
    · exact kept.waiting false mem (by simpa using held) h

theorem forceReleaseBlock (id : Byte) (h : P s) : P (Machine.forceReleaseBlock id s).1 := by
  unfold Machine.forceReleaseBlock
  split
  · exact h
  · next c hc =>
    have mem := List.mem_of_find?_eq_some hc
    dsimp only
    split_ifs with held
    · exact kept.held _ mem h
    · exact kept.waiting _ mem (by simpa using held) h

theorem expireLease (id : Byte) (h : P s) : P (Machine.expireLease id s) := by
  unfold Machine.expireLease
  split
  · exact h
  · next c hc =>
    split_ifs
    · exact kept.held _ (List.mem_of_find?_eq_some hc) h
    · exact h

theorem expireWait (id : Byte) (h : P s) : P (Machine.expireWait id s) := by
  unfold Machine.expireWait
  split
  · exact h
  · next c hc =>
    split_ifs with due
    · exact kept.waiting _ (List.mem_of_find?_eq_some hc) (by simp_all) h
    · exact h

theorem applyRecord (q : ZoneRecord) (h : P s) : P (Machine.applyRecord q s) := by
  unfold Machine.applyRecord
  cases zoneOf q with
  | none => exact h
  | some p =>
    simp only [Option.elim_some]
    unfold applyZone
    split
    · exact kept.zone _ _ h
    · next old used =>
      split_ifs with same
      · exact kept.deadBand used same h
      · exact kept.zone _ _ h

theorem zoneSetBlock (records : List ZoneRecord) (h : P s) : P (Machine.zoneSetBlock records s).1 := by
  unfold Machine.zoneSetBlock
  split
  · exact h
  · exact forEach_keeps (fun q _ _ => kept.applyRecord q) h

theorem clearZone (z : ZoneIx) (h : P s) : P (Machine.clearZone z s) := by
  unfold Machine.clearZone
  split_ifs
  · exact h
  · exact kept.zone z none h

theorem zoneClearBlock (l : List Byte) (h : P s) : P (Machine.zoneClearBlock l s).1 := by
  unfold Machine.zoneClearBlock
  split
  · exact h
  · refine forEach_keeps (fun b _ t ht => ?_) h
    cases index? 32 b.toNat with
    | none => exact ht
    | some z => exact kept.clearZone z ht

theorem clearKioskBlock (l : Link) (named : Option Byte) (h : P s) : P (Machine.clearKioskBlock l named s).1 := by
  unfold Machine.clearKioskBlock
  split
  · exact h
  · next k _ =>
    have muted : P (muteKiosk k (Machine.clearClaims k s)) := kept.muted _ false (kept.clearClaims k h)
    exact kept.part (by simp [clearAll]) muted

theorem removeSlot (i : Slot) (k : UnitKind) (h : P s) : P (Machine.removeSlot i k s) := by
  have orphaned (t : State) : touchPart (orphan i t) = touchPart t := by
    unfold orphan
    split
    · split_ifs <;> rfl
    · rfl
  unfold Machine.removeSlot
  dsimp only
  refine kept.part (by simp only [touchPart_latchAll, touchPart_modAttn, touchPart_modUnit, touchPart_freshEngines]) ?_
    (s := tearDownRemoved i k (orphan i (withdraw i (modUnit i (fun u => { u with reprobe := none }) s))))
  have start : P (orphan i (withdraw i (modUnit i (fun u => { u with reprobe := none }) s))) :=
    kept.part (orphaned _) (kept.part (s := s) rfl h)
  generalize orphan i (withdraw i (modUnit i (fun u => { u with reprobe := none }) s)) = t at start
  cases k with
  | panel =>
    refine forEach_keeps (fun z _ u hu => ?_) (kept.gone i start)
    unfold clearZoneOf
    split_ifs
    · exact kept.clearZone z hu
    · exact hu
  | printer => exact kept.part (touchPart_printerRemoved i t) start
  | scanner => exact kept.scanner i (kept.part (touchPart_scannerGone i t) start)

theorem unitRemoveBlock (slot : Byte) (h : P s) : P (Machine.unitRemoveBlock slot s).1 := by
  unfold Machine.unitRemoveBlock
  split
  · exact h
  · split
    · exact h
    · exact kept.removeSlot _ _ h

theorem fullReset (s : State) : P (Machine.fullReset s) :=
  kept.part (s := { State.reset with zones := State.reset.zones }) (touchPart_congr rfl rfl rfl rfl rfl) (kept.fresh _)

theorem resetBlock (kind : Byte) (r : ReqSlot) (h : P s) : P (Machine.resetBlock kind r s).1 := by
  unfold Machine.resetBlock
  split_ifs
  · exact kept.fullReset s
  · exact kept.part (s := { State.reset with zones := s.zones }) (touchPart_congr rfl rfl rfl rfl rfl) (kept.fresh _)
  · exact h

/-- The block of every request kind keeps the law. -/
theorem blockOf (kind : ReqKind) (l : Link) (p : List Byte) (r : ReqSlot) (h : P s) :
    P (Machine.blockOf kind l p r s).1 := by
  have forKiosk {f : Kiosk → State → State × List Byte} (hf : ∀ k, P (f k s).1) : P (Machine.forKiosk l f s).1 := by
    unfold Machine.forKiosk
    split
    · exact hf _
    · exact h
  cases kind with
  | clearKiosk => exact kept.clearKioskBlock l _ h
  | reset => exact kept.resetBlock _ r h
  | zoneSet => exact kept.zoneSetBlock _ h
  | zoneClear => exact kept.zoneClearBlock _ h
  | claim => exact forKiosk fun k => kept.claim _ _ _ _ k h
  | renew => exact forKiosk fun k => kept.renewBlock _ k h
  | release => exact forKiosk fun k => kept.releaseBlock _ k h
  | forceRelease => exact kept.forceReleaseBlock _ h
  | unitRemove => exact kept.unitRemoveBlock _ h
  | busAbort => exact kept.busAbortBlock h
  | _ => -- the blocks of the other kinds leave the contacts alone
    exact kept.part (by simp [Machine.blockOf]) h

/-! ### The commands -/

theorem arrive (a : Arrival) {block : ReqSlot → State → State × BlockAnswer}
    (hb : ∀ r t, P t → P (block r t).1) (h : P s) : P (Machine.arrive a block s) := by
  unfold Machine.arrive
  split_ifs
  · exact h
  · exact kept.part (s := s) rfl h
  · split
    · exact kept.part (s := s) rfl h
    · next r _ =>
      have holds : P (holdSlot a r s) := kept.part (s := s) rfl h
      unfold dispatch
      split
      · exact kept.part (touchPart_queueReply ..) holds
      · have acted := hb r _ holds
        split
        · next answered =>
          rw [answered] at acted
          exact kept.part (touchPart_queueReply ..) acted
        · next answered => rwa [answered] at acted

theorem request (a : Arrival) {block : ReqSlot → State → State × BlockAnswer}
    (hb : ∀ r t, P t → P (block r t).1) (h : P s) : Answers P (Machine.request a block s) := by
  rintro t ⟨⟩
  exact kept.part (touchPart_settle _) (kept.arrive a hb h)

/-- A request whose block leaves the contacts alone. -/
theorem otherRequest (a : Arrival) {block : ReqSlot → State → State × BlockAnswer}
    (hb : ∀ r t, touchPart (block r t).1 = touchPart t) (h : P s) : Answers P (Machine.request a block s) :=
  kept.request a (fun r t => kept.part (hb r t)) h

theorem kioskRequest (a : Arrival) {l : Link} {f : Kiosk → State → State × List Byte}
    (hf : ∀ k t, P t → P (f k t).1) (h : P s) : Answers P (Machine.request a (atOnce (forKiosk l f)) s) := by
  refine kept.request a (fun r t ht => ?_) h
  rw [atOnce_state]
  unfold forKiosk
  split
  · exact hf _ t ht
  · exact ht

theorem event {t : State} (h : P t) : Answers P (.next (settle t)) := by
  rintro u ⟨⟩
  exact kept.part (touchPart_settle _) h

theorem frameArrived (l : Link) (code tag : Byte) (p : List Byte) (h : P s) :
    P (Machine.frameArrived l code tag p s) := by
  unfold Machine.frameArrived
  split
  · exact kept.arrive _ (fun _ _ ht => ht) h
  · exact kept.arrive _ (fun r _ => kept.blockOf _ l p r) h

theorem byteReceived (l : Link) (b : Byte) (h : P s) : P (Machine.byteReceived l b s) := by
  have moved (r : Receiver) : P (setReceiver l r s) := kept.part (s := s) rfl h
  unfold Machine.byteReceived
  split_ifs
  · unfold receive
    split
    · split_ifs
      · exact moved _
      · exact h
    · split_ifs
      · exact kept.part (s := s) rfl h
      · exact moved _
    · split_ifs
      · exact moved _
      · unfold frameEnded
        dsimp only
        split_ifs
        · exact kept.frameArrived l _ _ _ (moved _)
        · exact kept.part (s := s) rfl h
  · exact h

theorem exec (i : Instr) (h : P s) : Answers P (Machine.exec i s) := by
  cases i with
  | powerOn => exact kept.event (kept.part (s := Machine.fullReset s) rfl (kept.fullReset s))
  | resetPinAssert => exact kept.event (kept.part (s := Machine.fullReset s) rfl (kept.fullReset s))
  | fullResetComplete => exact kept.event (kept.part (touchPart_finishFull s) h)
  | softResetComplete => exact kept.event (kept.part (touchPart_finishSoft s) h)
  | resetFull => exact kept.request _ (fun r _ => kept.resetBlock 2 r) h
  | resetSoft => exact kept.request _ (fun r _ => kept.resetBlock 1 r) h
  | linkByteReceived l b => exact kept.event (kept.byteReceived l b h)
  | characterError l => exact kept.event (kept.part (touchPart_characterFault l s) h)
  | transmitEnd l => exact kept.event (kept.part (touchPart_frameSent l s) h)
  | clearKiosk l _ named => exact kept.request _ (fun _ _ => kept.clearKioskBlock l named) h
  | zoneSet _ _ records => exact kept.request _ (fun _ _ => kept.zoneSetBlock records) h
  | zoneClear _ _ list => exact kept.request _ (fun _ _ => kept.zoneClearBlock list) h
  | claim => exact kept.kioskRequest _ (fun k _ => kept.claim _ _ _ _ k) h
  | renew _ _ id => exact kept.kioskRequest _ (fun k _ => kept.renewBlock id k) h
  | release _ _ id => exact kept.kioskRequest _ (fun k _ => kept.releaseBlock id k) h
  | forceRelease _ _ id => exact kept.request _ (fun _ _ => kept.forceReleaseBlock id) h
  | leaseExpiry id => exact kept.event (kept.expireLease id h)
  | waitLimitExpiry id => exact kept.event (kept.expireWait id h)
  | fillStallExpiry id => exact kept.event (kept.part (touchPart_expireFill id s) h)
  | unitRemove _ _ slot => exact kept.request _ (fun _ _ => kept.unitRemoveBlock slot) h
  | reprobeTimerExpiry i => exact kept.event (kept.part (touchPart_expireReprobe i s) h)
  | attnLineChange i high => exact kept.event (kept.part (touchPart_attentionChange i high s) h)
  | busRawComplete a => exact kept.event (kept.completeRaw a h)
  | busAbort => exact kept.request _ (fun _ _ => kept.busAbortBlock) h
  | stallTimerExpiry sent received => exact kept.event (kept.expireStall sent received h)
  | releaseSequenceEnd => exact kept.event (kept.part (touchPart_endRelease s) h)
  | releaseWaitTimeout => exact kept.event (kept.part (touchPart_giveUpRelease s) h)
  | markStartComplete | creditReadComplete | feedComplete | markEndComplete | pstateReadComplete | markAbortComplete
  | ssetComplete | sgoComplete | availReadComplete | pullComplete | sstateReadComplete | shaltComplete
  | pingComplete | restartComplete | identComplete | causePollComplete | contactsReadComplete =>
    exact kept.event (kept.complete _ _ h)
  | _ => -- the blocks of the other requests leave the contacts alone
    exact kept.otherRequest _ (by simp) h

theorem tick (h : P s) : P (Machine.tick s) := by
  unfold Machine.tick
  split_ifs
  · exact h
  · exact kept.part (s := s) rfl h
  · exact kept.part (s := settle s) rfl (kept.part (touchPart_settle s) h)

/-- Every step keeps the law. -/
theorem keptByStep : KeptByStep P := by
  intro s t h hstep
  unfold step at hstep
  split at hstep
  · cases hstep
    exact kept.tick h
  · next c rest _ =>
    have front : P { s with pending := rest } := kept.part (s := s) rfl h
    exact kept.exec c front t hstep

end ContactsKept

end Sys2Proof.Machine
end

section
/-!
PROOFS. The contact table (R23 to R25, R29): the entries a search finds, what a capture does in each case, what muting
leaves of the entries; and that every step keeps the law of the contact table.
-/

namespace Sys2Proof.Machine

/-! ### Entries (R23, R25) -/

theorem entry_eq_none {s : State} {i : Slot} {id : RawId} : entry? s i id = none ↔
    ∀ n : ContactNo, ∀ c, s.contacts[n] = some c → c.panel = i → c.rawId ≠ id := by
  unfold entry?
  rw [find_indices_none]
  simp only [Option.any_eq_false, Bool.and_eq_false_imp, decide_eq_true_eq, decide_eq_false_iff_not, ne_eq]

theorem entry_eq_some {s : State} {i : Slot} {id : RawId} {n : ContactNo} (h : entry? s i id = some n) :
    ∃ c, s.contacts[n] = some c ∧ c.panel = i ∧ c.rawId = id := by
  have fits := ((find_indices_iff _ _).mp h).1
  simpa only [Option.any_eq_true, Bool.and_eq_true, decide_eq_true_eq] using fits

theorem freeEntry_free {s : State} {n : ContactNo} (h : freeEntry? s = some n) : s.contacts[n] = none := by
  simpa only [Option.isNone_iff_eq_none] using ((find_indices_iff _ _).mp h).1

theorem setContact_get (n m : ContactNo) (c : Option Contact) (s : State) :
    (setContact n c s).contacts[m] = if n = m then c else s.contacts[m] := upd_get s.contacts n m _

/-! ### Captures (R29) -/

/-- A contact captured MUTE (R29). -/
def muteCapture (i : Slot) (id : RawId) (zone : Option ZoneIx) : Contact :=
  { panel := i, rawId := id, zone := zone, owner := none, live := false, last := none }

/-- A contact captured in a zone with an owner (R29). -/
def liveCapture (i : Slot) (id : RawId) (z : ZoneIx) (k : Kiosk) (p : Produced) : Contact :=
  { panel := i, rawId := id, zone := some z, owner := some k, live := true, last := some p }

section
variable {s : State} {i : Slot} {id : RawId} {x y : Nat} {time : Time}

/-- With a full table the id joins the ignored set (R29). -/
theorem captureContact_full (full : freeEntry? s = none) :
    captureContact i id x y time s = ignore i id (unignore i id s) := by
  have full' : freeEntry? (unignore i id s) = none := full
  unfold captureContact
  dsimp only
  rw [full']

/-- In a zone with an owner the contact is captured LIVE, with its DOWN (R29). -/
theorem captureContact_live {n : ContactNo} {z : ZoneIx} {k : Kiosk} {e : Zone} (free : freeEntry? s = some n)
    (inZone : pointLookup s i x y = some z) (owned : zoneOwner s z = some k) (used : s.zones[z] = some e) :
    captureContact i id x y time s =
      produce n (liveCapture i id z k (mapPosition e x y)) .down (mapPosition e x y) time
        (setContact n (some (liveCapture i id z k (mapPosition e x y))) (unignore i id s)) := by
  have free' : freeEntry? (unignore i id s) = some n := free
  have inZone' : pointLookup (unignore i id s) i x y = some z := inZone
  have owned' : zoneOwner (unignore i id s) z = some k := owned
  have used' : (unignore i id s).zones[z] = some e := used
  unfold captureContact
  dsimp only
  rw [free', inZone']
  simp only [Option.bind_some, owned', used']
  rfl

/-- With no owner, or no zone, the contact is captured MUTE (R29). -/
theorem captureContact_mute {n : ContactNo} {zone : Option ZoneIx} (free : freeEntry? s = some n)
    (inZone : pointLookup s i x y = zone) (unowned : zone.bind (zoneOwner s) = none) :
    captureContact i id x y time s = setContact n (some (muteCapture i id zone)) (unignore i id s) := by
  have free' : freeEntry? (unignore i id s) = some n := free
  have inZone' : pointLookup (unignore i id s) i x y = zone := inZone
  have unowned' : zone.bind (zoneOwner (unignore i id s)) = none := unowned
  unfold captureContact
  dsimp only
  rw [free', inZone', unowned']
  cases zone <;> rfl

/-- Everything a capture can do to the contacts: the id joins the ignored set, or a free entry takes the contact, LIVE
only when R40 holds of it. -/
theorem captureContact_part (i : Slot) (id : RawId) (x y : Nat) (time : Time) (s : State) :
    touchPart (captureContact i id x y time s) = touchPart (ignore i id (unignore i id s)) ∨
      ∃ n c, s.contacts[n] = none ∧ c.panel = i ∧ c.rawId = id ∧ (c.live = true → LiveContact s c) ∧
        touchPart (captureContact i id x y time s) = touchPart (setContact n (some c) (unignore i id s)) := by
  cases free : freeEntry? s with
  | none => exact .inl (by rw [captureContact_full free])
  | some n =>
    refine .inr ?_
    cases owned : (pointLookup s i x y).bind (zoneOwner s) with
    | none =>
      refine ⟨n, muteCapture i id (pointLookup s i x y), freeEntry_free free, rfl, rfl, nofun, ?_⟩
      rw [captureContact_mute free rfl owned]
    | some k =>
      obtain ⟨z, inZone, owner⟩ := Option.bind_eq_some_iff.mp owned
      have fits := ((find_indices_iff _ _).mp inZone).1
      obtain ⟨e, used, enabled, panel, -⟩ := (catches_iff s i x y z).mp fits
      refine ⟨n, liveCapture i id z k (mapPosition e x y), freeEntry_free free, rfl, rfl, fun _ => ?_, ?_⟩
      · exact ⟨z, e, k, mapPosition e x y, rfl, used, enabled, panel, rfl, owner, rfl⟩
      · rw [captureContact_live free inZone owner used, touchPart_produce]

end

/-! ### An id with no entry (R29, R32) -/

section
variable {s : State} {i : Slot} {id : RawId} {x y : Nat} {time : Time} (new : entry? s i id = none)
include new

theorem contactDown_new : contactDown i id x y time s = captureContact i id x y time s := by
  unfold contactDown
  rw [new]

theorem contactMove_new : contactMove i id x y time s =
    if isIgnored s i id then s else captureContact i id x y time s := by
  unfold contactMove
  rw [new]

theorem contactUp_new : contactUp i id x y time s = unignore i id s := by
  unfold contactUp
  rw [new]

end

/-! ### An id with an entry (R30, R31, R33) -/

section
variable {s : State} {i : Slot} {id : RawId} {x y : Nat} {time : Time} {n : ContactNo} {c : Contact}
  (found : entry? s i id = some n) (entry : s.contacts[n] = some c)
include found entry

theorem contactDown_old : contactDown i id x y time s =
    captureContact i id x y time (if c.live then produceCancel n c (setContact n none s) else setContact n none s) := by
  unfold contactDown
  rw [found]
  dsimp only
  rw [entry]

theorem contactMove_old : contactMove i id x y time s = contactMoveEntry n c x y time s := by
  unfold contactMove
  rw [found]
  dsimp only
  rw [entry]

theorem contactUp_mute (mute : c.live = false) : contactUp i id x y time s = setContact n none s := by
  unfold contactUp
  rw [found]
  dsimp only
  rw [entry]
  simp only [mute]

theorem contactUp_live {z : ZoneIx} {e : Zone} (live : c.live = true) (hz : c.zone = some z)
    (used : s.zones[z] = some e) : contactUp i id x y time s = produce n c .up (mapPosition e x y) time (setContact n none s) := by
  unfold contactUp
  rw [found]
  dsimp only
  rw [entry]
  simp only [live, hz, Option.bind_some, used]

end

theorem contactMoveEntry_mute {c : Contact} (n : ContactNo) (x y : Nat) (time : Time) (s : State)
    (mute : c.live = false) : contactMoveEntry n c x y time s = s := by
  unfold contactMoveEntry
  rw [mute]

theorem contactMoveEntry_live {s : State} {c : Contact} {z : ZoneIx} {e : Zone} {p : Produced} (n : ContactNo)
    (x y : Nat) (time : Time) (live : c.live = true) (last : c.last = some p) (hz : c.zone = some z) (used : s.zones[z] = some e) :
    contactMoveEntry n c x y time s = if moveProduced e.deadBand p (mapPosition e x y) then
      produce n c .move (mapPosition e x y) time
        (setContact n (some { c with last := some (mapPosition e x y) }) s) else s := by
  unfold contactMoveEntry
  simp only [live, last, hz, Option.bind_some, used]

/-- A MOVE of an id with an entry leaves everything as it is, or is produced for a LIVE contact (R31, R38). -/
theorem contactMoveEntry_cases (n : ContactNo) (c : Contact) (x y : Nat) (time : Time) (s : State) :
    contactMoveEntry n c x y time s = s ∨ c.live = true ∧ ∃ p, contactMoveEntry n c x y time s =
      produce n c .move p time (setContact n (some { c with last := some p }) s) := by
  unfold contactMoveEntry
  split
  · next e live _ _ =>
    dsimp only
    split_ifs
    · exact .inr ⟨live, mapPosition e x y, rfl⟩
    · exact .inl rfl
  · exact .inl rfl

/-- An UP of an id with an entry frees it, with an event or without (R33). -/
theorem contactUp_cases {s : State} {i : Slot} {id : RawId} {n : ContactNo} {c : Contact}
    (found : entry? s i id = some n) (entry : s.contacts[n] = some c) (x y : Nat) (time : Time) :
    contactUp i id x y time s = setContact n none s ∨
      ∃ p, contactUp i id x y time s = produce n c .up p time (setContact n none s) := by
  unfold contactUp
  rw [found]
  dsimp only
  rw [entry]
  dsimp only
  split
  · exact .inr ⟨_, rfl⟩
  · exact .inl rfl

/-- What a DOWN, a MOVE and an UP keep, every record keeps (R34). -/
theorem processRecord_keeps {P : State → Prop} {s : State} {i : Slot} {time : Time} (q : ContactRecord) (hs : P s)
    (down : ∀ id x y, P (contactDown i id x y time s)) (move : ∀ id x y, P (contactMove i id x y time s))
    (up : ∀ id x y, P (contactUp i id x y time s)) : P (processRecord i time q s) := by
  unfold processRecord
  split
  · exact hs
  · split_ifs
    · exact hs
    · split
      · exact down ..
      · exact move ..
      · exact up ..
      · exact hs

/-! ### Muting (R41 to R43) -/

theorem muteEntry_contacts {fits : Contact → Bool} {cancel : Bool} {n : ContactNo} {s t : State}
    (h : s.contacts = t.contacts) :
    (muteEntry fits cancel n s).contacts = (muteEntry fits true n t).contacts := by
  have cancels (c : Contact) (u : State) : (produceCancel n c u).contacts = u.contacts :=
    (congrArg State.contacts (touchPart_produceCancel n c u) :)
  unfold muteEntry
  rw [h]
  split
  · exact h
  · dsimp only
    split_ifs <;> simp [cancels, setContact, h]

/-- Muting, with its CANCELs or without, leaves each entry where it is and makes those that fit MUTE. -/
theorem muteContacts_contact (fits : Contact → Bool) (cancel : Bool) (s : State) (n : ContactNo) :
    (muteContacts fits cancel s).contacts[n] =
      (s.contacts[n]).map fun c => if fits c then { c with live := false } else c := by
  have same : ∀ (l : List ContactNo) {u v : State}, u.contacts = v.contacts →
      (forEach l (muteEntry fits cancel) u).contacts = (forEach l (muteEntry fits true) v).contacts := by
    intro l
    induction l with
    | nil => exact fun h => h
    | cons m l ih => exact fun h => ih (muteEntry_contacts h)
  rw [← (muteContacts_cancelled fits s).1 n]
  unfold muteContacts
  rw [same (indices 40) rfl]

/-- Muting changes the contact table and the touch queues alone (R41 to R43). -/
theorem muteContacts_eq (fits : Contact → Bool) (cancel : Bool) (s : State) :
    ∃ contacts kiosks, muteContacts fits cancel s = { s with contacts := contacts, kiosks := kiosks } := by
  have frame := muteContacts_frame s fits cancel s
  generalize muteContacts fits cancel s = t at frame
  exact ⟨t.contacts, t.kiosks, congrArg (fun u : State => { u with contacts := t.contacts, kiosks := t.kiosks }) frame⟩

/-! ### Panels and raw ids of the entries -/

/-- What the law of the contact table is about: the ignored sets, and the panel and raw id of each entry. -/
def keyPart (s : State) : Vector (List RawId) 12 × (ContactNo → Option (Slot × RawId)) :=
  (s.ignored, fun n => (s.contacts[n]).map fun c => (c.panel, c.rawId))

theorem keyPart_congr {s t : State} (ignored : t.ignored = s.ignored)
    (keys : ∀ n : ContactNo, (t.contacts[n]).map (fun c => (c.panel, c.rawId)) =
      (s.contacts[n]).map fun c => (c.panel, c.rawId)) : keyPart t = keyPart s :=
  Prod.ext ignored (funext keys)

theorem keyPart_of_touchPart {s t : State} (h : touchPart t = touchPart s) : keyPart t = keyPart s := by
  have ignored : t.ignored = s.ignored := (congrArg State.ignored h :)
  have contacts : t.contacts = s.contacts := (congrArg State.contacts h :)
  unfold keyPart
  rw [ignored, contacts]

theorem ContactLaw.of_keyPart {s t : State} (law : ContactLaw s) (h : keyPart t = keyPart s) : ContactLaw t := by
  obtain ⟨ignored, keys⟩ := Prod.ext_iff.mp h
  change t.ignored = s.ignored at ignored
  have entry (n : ContactNo) (c : Contact) (hc : t.contacts[n] = some c) :
      ∃ d, s.contacts[n] = some d ∧ d.panel = c.panel ∧ d.rawId = c.rawId := by
    have key : (t.contacts[n]).map (fun c => (c.panel, c.rawId)) = (s.contacts[n]).map fun c => (c.panel, c.rawId) :=
      congrFun keys n
    rw [hc, Option.map_some, eq_comm, Option.map_eq_some_iff] at key
    obtain ⟨d, hd, same⟩ := key
    exact ⟨d, hd, congrArg Prod.fst same, congrArg Prod.snd same⟩
  obtain ⟨apart, listed, nodup⟩ := law
  refine ⟨fun m n c d hc hd panel id => ?_, fun n c hc => ?_, fun i => ignored ▸ nodup i⟩
  · obtain ⟨c', hc', cp, ci⟩ := entry m c hc
    obtain ⟨d', hd', dp, di⟩ := entry n d hd
    exact apart m n c' d' hc' hd' (cp.trans (panel.trans dp.symm)) (ci.trans (id.trans di.symm))
  · obtain ⟨c', hc', cp, ci⟩ := entry n c hc
    have unlisted := listed n c' hc'
    simp only [cp, ci] at unlisted
    rwa [ignored]

/-- What each step of a loop leaves as it is the loop leaves as it is. -/
theorem keyPart_forEach {α : Type} {f : α → State → State} (h : ∀ a t, keyPart (f a t) = keyPart t) (l : List α)
    (s : State) : keyPart (forEach l f s) = keyPart s :=
  forEach_keeps (P := fun t => keyPart t = keyPart s) (fun a _ t ht => (h a t).trans ht) rfl

/-! ### Operations that leave panels, raw ids and ignored sets as they are -/

@[simp] theorem keyPart_muteContacts (fits : Contact → Bool) (cancel : Bool) (s : State) :
    keyPart (muteContacts fits cancel s) = keyPart s := by
  have ignored : (muteContacts fits cancel s).ignored = s.ignored := by
    obtain ⟨contacts, kiosks, h⟩ := muteContacts_eq fits cancel s
    rw [h]
  refine keyPart_congr ignored fun n => ?_
  rw [muteContacts_contact]
  cases s.contacts[n] with
  | none => rfl
  | some c => by_cases h : fits c = true <;> simp [h]

@[simp] theorem keyPart_ownerChange (x : Resource) (cancel : Bool) (s : State) :
    keyPart (ownerChange x cancel s) = keyPart s := by
  cases x with
  | scanner i => rfl
  | zone z => exact keyPart_muteContacts (fun c => decide (c.zone = some z)) cancel s

@[simp] theorem keyPart_grantHead (x : Resource) (s : State) : keyPart (grantHead x s) = keyPart s := by
  unfold grantHead
  split
  · rfl
  · split
    · rfl
    · exact (keyPart_ownerChange ..).trans rfl

@[simp] theorem keyPart_tellScan (c : Claim) (lapse : Bool) (s : State) : keyPart (tellScan c lapse s) = keyPart s :=
  keyPart_of_touchPart (touchPart_tellScan c lapse s)

@[simp] theorem keyPart_latch (k : Kiosk) (c : NoticeClass) (s : State) : keyPart (latch k c s) = keyPart s := rfl

@[simp] theorem keyPart_dropClaim (id : Nat) (s : State) : keyPart (dropClaim id s) = keyPart s := rfl

@[simp] theorem keyPart_removeHeld (c : Claim) (why : Removal) (s : State) :
    keyPart (removeHeld c why s) = keyPart s := by
  cases why <;> simp [removeHeld]

@[simp] theorem keyPart_removeWaiting (c : Claim) (lost : Bool) (s : State) :
    keyPart (removeWaiting c lost s) = keyPart s := by
  cases lost <;> simp [removeWaiting]

@[simp] theorem keyPart_removeResource (x : Resource) (s : State) : keyPart (removeResource x s) = keyPart s := by
  unfold removeResource
  dsimp only
  rw [keyPart_forEach]
  · cases holder? s x with
    | none => rfl
    | some c => exact keyPart_removeHeld c .resourceGone s
  · intro id t
    cases claim? t id with
    | none => rfl
    | some c => exact keyPart_removeWaiting c true t

@[simp] theorem keyPart_clearClaims (k : Kiosk) (s : State) : keyPart (clearClaims k s) = keyPart s := by
  unfold clearClaims
  dsimp only
  rw [keyPart_forEach fun c t => keyPart_removeHeld c .clearKiosk t,
    keyPart_forEach fun c t => keyPart_removeWaiting c false t]

@[simp] theorem keyPart_changeZone (z : ZoneIx) (entry : Option Zone) (s : State) :
    keyPart (changeZone z entry s) = keyPart s := by
  have cleared : keyPart (clearedFor z entry s) = keyPart s := by
    unfold clearedFor
    split_ifs
    · exact (keyPart_removeResource ..).trans (keyPart_muteContacts ..)
    · exact keyPart_muteContacts ..
  obtain ⟨notices, h⟩ := changeZone_written z entry s
  rw [h]
  exact Eq.trans rfl cleared

@[simp] theorem keyPart_claimBlock (kind number : Byte) (lease wait : Word) (k : Kiosk) (s : State) :
    keyPart (claimBlock kind number lease wait k s).1 = keyPart s := by
  unfold claimBlock
  dsimp only
  split
  · rfl
  · rfl
  · split
    · rfl
    · split
      · rfl
      · split
        · rfl
        · split
          · exact (keyPart_ownerChange ..).trans rfl
          · split_ifs <;> rfl

/-! ### The law of the contact table (R24, R25) -/

/-- Entries may leave the table and ids the ignored sets. -/
theorem ContactLaw.fewer {s t : State} (law : ContactLaw s)
    (entries : ∀ n : ContactNo, ∀ c, t.contacts[n] = some c → s.contacts[n] = some c)
    (ids : ∀ i : Slot, (t.ignored[i]).Sublist s.ignored[i]) : ContactLaw t := by
  obtain ⟨apart, listed, nodup⟩ := law
  exact ⟨fun m n c d hc hd => apart m n c d (entries m c hc) (entries n d hd),
    fun n c hc h => listed n c (entries n c hc) ((ids c.panel).subset h), fun i => (nodup i).sublist (ids i)⟩

theorem unignore_ignored (i j : Slot) (id : RawId) (s : State) : (unignore i id s).ignored[j] =
    if i = j then (s.ignored[j]).filter fun w => w ≠ id else s.ignored[j] := upd_get s.ignored i j _

theorem ContactLaw.unignore {s : State} (law : ContactLaw s) (i : Slot) (id : RawId) :
    ContactLaw (Machine.unignore i id s) := by
  refine law.fewer (fun n c h => h) fun j => ?_
  rw [unignore_ignored]
  split_ifs
  · exact List.filter_sublist
  · exact List.Sublist.refl _

theorem ContactLaw.freed {s : State} (law : ContactLaw s) (n : ContactNo) : ContactLaw (setContact n none s) := by
  refine law.fewer (fun m c h => ?_) fun j => List.Sublist.refl _
  rw [setContact_get] at h
  split_ifs at h
  exact h

/-- An id with no entry may be ignored (R24). -/
theorem ContactLaw.ignore {s : State} (law : ContactLaw s) {i : Slot} {id : RawId} (new : entry? s i id = none) :
    ContactLaw (Machine.ignore i id s) := by
  have get (j : Slot) : (Machine.ignore i id s).ignored[j] =
      if i = j then (if id ∈ s.ignored[j] then s.ignored[j] else s.ignored[j] ++ [id]) else s.ignored[j] :=
    upd_get s.ignored i j _
  obtain ⟨apart, listed, nodup⟩ := law
  refine ⟨apart, fun n c hc => ?_, fun j => ?_⟩
  · have old := listed n c hc
    have other : i = c.panel → c.rawId ≠ id := fun panel => entry_eq_none.mp new n c hc panel.symm
    rw [get]
    split_ifs with panel present
    · exact old
    · simpa [other panel] using old
    · exact old
  · rw [get]
    split_ifs with _ present
    · exact nodup j
    · refine List.nodup_append.mpr ⟨nodup j, List.nodup_singleton id, fun a ha b hb same => present ?_⟩
      rwa [← List.mem_singleton.mp hb, ← same]
    · exact nodup j

/-- An id with no entry, that is not ignored, may take one (R25). -/
theorem ContactLaw.captured {s : State} (law : ContactLaw s) {n : ContactNo} {c : Contact}
    (new : entry? s c.panel c.rawId = none) (wanted : c.rawId ∉ s.ignored[c.panel]) :
    ContactLaw (setContact n (some c) s) := by
  have other (m : ContactNo) (d : Contact) (hd : s.contacts[m] = some d) (panel : d.panel = c.panel) :
      d.rawId ≠ c.rawId := entry_eq_none.mp new m d hd panel
  obtain ⟨apart, listed, nodup⟩ := law
  refine ⟨fun m m' d d' hd hd' panel id => ?_, fun m d hd => ?_, nodup⟩
  · rw [setContact_get] at hd hd'
    split_ifs at hd hd' with h h'
    · exact h.symm.trans h'
    · cases hd
      exact absurd id.symm (other m' d' hd' panel.symm)
    · cases hd'
      exact absurd id (other m d hd panel)
    · exact apart m m' d d' hd hd' panel id
  · rw [setContact_get] at hd
    split_ifs at hd
    · cases hd
      exact wanted
    · exact listed m d hd

theorem not_mem_unignore (i : Slot) (id : RawId) (s : State) :
    id ∉ (unignore i id s).ignored[i] := by
  rw [unignore_ignored, if_pos rfl]
  simp

theorem ContactLaw.capture {s : State} (law : ContactLaw s) {i : Slot} {id : RawId} (new : entry? s i id = none)
    (x y : Nat) (time : Time) : ContactLaw (captureContact i id x y time s) := by
  have new' : entry? (Machine.unignore i id s) i id = none := new
  obtain full | ⟨n, c, -, rfl, rfl, -, captured⟩ := captureContact_part i id x y time s
  · exact ((law.unignore i id).ignore new').of_keyPart (keyPart_of_touchPart full)
  · exact ((law.unignore _ _).captured new' (not_mem_unignore _ _ s)).of_keyPart (keyPart_of_touchPart captured)

/-- An id that has an entry has no other: freeing it leaves none (R25). -/
theorem ContactLaw.entry_freed {s : State} (law : ContactLaw s) {i : Slot} {id : RawId} {n : ContactNo}
    (h : entry? s i id = some n) : entry? (setContact n none s) i id = none := by
  obtain ⟨c, hc, rfl, rfl⟩ := entry_eq_some h
  refine entry_eq_none.mpr fun m d hd panel id => ?_
  rw [setContact_get] at hd
  split_ifs at hd with other
  exact other (law.1 n m c d hc hd panel.symm id.symm)

theorem ContactLaw.down {s : State} (law : ContactLaw s) (i : Slot) (id : RawId) (x y : Nat) (time : Time) :
    ContactLaw (contactDown i id x y time s) := by
  cases found : entry? s i id with
  | none =>
    rw [contactDown_new found]
    exact law.capture found x y time
  | some n =>
    obtain ⟨c, entry, -⟩ := entry_eq_some found
    rw [contactDown_old found entry]
    have freed := law.freed n
    have left := law.entry_freed found
    split_ifs
    · have cancelled := touchPart_produceCancel n c (setContact n none s)
      refine (freed.of_keyPart (keyPart_of_touchPart cancelled)).capture ?_ x y time
      exact Eq.trans (congrArg (fun u : State => entry? u i id) cancelled :) left
    · exact freed.capture left x y time

theorem ContactLaw.move {s : State} (law : ContactLaw s) (i : Slot) (id : RawId) (x y : Nat) (time : Time) :
    ContactLaw (contactMove i id x y time s) := by
  cases found : entry? s i id with
  | none =>
    rw [contactMove_new found]
    split_ifs
    · exact law
    · exact law.capture found x y time
  | some n =>
    obtain ⟨c, entry, -⟩ := entry_eq_some found
    rw [contactMove_old found entry]
    obtain still | ⟨-, p, moved⟩ := contactMoveEntry_cases n c x y time s
    · rwa [still]
    · rw [moved]
      refine law.of_keyPart ((keyPart_of_touchPart (touchPart_produce ..)).trans (keyPart_congr rfl fun m => ?_))
      rw [setContact_get]
      split_ifs with here
      · rw [← here, entry]
        rfl
      · rfl

theorem ContactLaw.up {s : State} (law : ContactLaw s) (i : Slot) (id : RawId) (x y : Nat) (time : Time) :
    ContactLaw (contactUp i id x y time s) := by
  cases found : entry? s i id with
  | none =>
    rw [contactUp_new found]
    exact law.unignore i id
  | some n =>
    obtain ⟨c, entry, -⟩ := entry_eq_some found
    obtain mute | ⟨p, live⟩ := contactUp_cases found entry x y time
    · exact mute ▸ law.freed n
    · exact live ▸ (law.freed n).of_keyPart (keyPart_of_touchPart (touchPart_produce ..))

theorem panelGone_ignored (i j : Slot) (s : State) :
    (panelGone i s).ignored[j] = if i = j then [] else s.ignored[j] := by
  have frame := forEach_frame (offMuted s) (freeOfPanel_frame s i) (indices 40) s
  unfold panelGone
  dsimp only
  generalize forEach (indices 40) (freeOfPanel i) s = t at frame ⊢
  have same : t.ignored = s.ignored := (congrArg State.ignored frame :)
  rw [modPanel_ignored, upd_get, same]

theorem ContactLaw.gone {s : State} (law : ContactLaw s) (i : Slot) : ContactLaw (panelGone i s) := by
  refine law.fewer (fun n c hc => ?_) fun j => ?_
  · rw [(panelGone_cancels i s).1, Option.bind_eq_some_iff] at hc
    obtain ⟨d, hd, stays⟩ := hc
    split_ifs at stays
    rwa [← Option.some.inj stays]
  · rw [panelGone_ignored]
    split_ifs
    · exact List.nil_sublist _
    · exact List.Sublist.refl _

theorem contactLaw_kept : ContactsKept ContactLaw where
  part same law := law.of_keyPart (keyPart_of_touchPart same)
  fresh zones := by
    refine ⟨fun m n c d hc => ?_, fun n c hc => ?_, fun i => ?_⟩ <;> simp_all [State.reset]
  muted fits cancel law := law.of_keyPart (keyPart_muteContacts ..)
  gone i law := law.gone i
  record i time q law := processRecord_keeps q law (fun _ _ _ => law.down ..) (fun _ _ _ => law.move ..)
    fun _ _ _ => law.up ..
  zone z entry law := law.of_keyPart (keyPart_changeZone ..)
  deadBand _ _ law := law.of_keyPart rfl
  claim kind number lease wait k law := law.of_keyPart (keyPart_claimBlock ..)
  renewed id expiry law := law.of_keyPart rfl
  held why _ law := law.of_keyPart (keyPart_removeHeld ..)
  waiting lost _ _ law := law.of_keyPart (keyPart_removeWaiting ..)
  clearClaims k law := law.of_keyPart (keyPart_clearClaims ..)
  scanner i law := law.of_keyPart (keyPart_removeResource ..)

end Sys2Proof.Machine

open Sys2Proof Sys2Proof.Machine

/-- Settles O6: the law speaks of panels, raw ids and ignored sets alone, and outside the contact records and a lost
panel every operation leaves these. -/
theorem contactTableLawful : Obligations.ContactTableLawful := contactLaw_kept.keptByStep

end

section
/-!
PROOFS. The claim table (R50 to R52) as the owners of zones see it: fresh ids, and what inserting, changing and dropping
records leaves of the ids and of the holder of a resource.
-/

namespace Sys2Proof.Machine

/-! ### Fresh ids (R51) -/

/-- The number that the search for an id from v on tries after j others. -/
def triedId (last v j : Nat) : Nat := (v - 1 + j) % last + 1

theorem triedId_zero {last v : Nat} (low : 1 ≤ v) (high : v ≤ last) : triedId last v 0 = v := by
  unfold triedId
  rw [Nat.mod_eq_of_lt (by omega)]
  omega

theorem triedId_next {last v : Nat} (low : 1 ≤ v) (j : Nat) :
    triedId last (nextId last v) j = triedId last v (j + 1) := by
  unfold triedId nextId
  split_ifs with wraps
  · rw [wraps, show last - 1 + (j + 1) = j + last by omega, Nat.add_mod_right]
    simp
  · rw [show v + 1 - 1 + j = v - 1 + (j + 1) by omega]

theorem nextId_range {last v : Nat} (low : 1 ≤ v) (high : v ≤ last) : 1 ≤ nextId last v ∧ nextId last v ≤ last := by
  unfold nextId
  split_ifs <;> omega

theorem freshId_succ (used : Nat → Bool) (last k v : Nat) :
    freshId used last (k + 1) v = if used v then freshId used last k (nextId last v) else v := rfl

theorem freshId_range {used : Nat → Bool} {last : Nat} (k : Nat) {v : Nat} (low : 1 ≤ v) (high : v ≤ last) :
    1 ≤ freshId used last k v ∧ freshId used last k v ≤ last := by
  induction k generalizing v with
  | zero => exact ⟨low, high⟩
  | succ k ih =>
    obtain ⟨low', high'⟩ := nextId_range low high
    rw [freshId_succ]
    split_ifs
    · exact ih low' high'
    · exact ⟨low, high⟩

/-- The search ends at an unused number when it tries one. -/
theorem freshId_unused {used : Nat → Bool} {last : Nat} (k : Nat) {v : Nat} (low : 1 ≤ v) (high : v ≤ last)
    (tried : ∃ j < k, used (triedId last v j) = false) : used (freshId used last k v) = false := by
  induction k generalizing v with
  | zero => simp at tried
  | succ k ih =>
    obtain ⟨low', high'⟩ := nextId_range low high
    rw [freshId_succ]
    split_ifs with taken
    · refine ih low' high' ?_
      obtain ⟨j, hj, unused⟩ := tried
      cases j with
      | zero => simp [triedId_zero low high, taken] at unused
      | succ j => exact ⟨j, by omega, by rwa [triedId_next low]⟩
    · simpa using taken

/-- Among more numbers than there are ids, one is unused. -/
theorem triedId_unused (ids : List Nat) {last : Nat} (v : Nat) (room : ids.length < last) :
    ∃ j < ids.length + 1, triedId last v j ∉ ids := by
  by_contra all
  push Not at all
  have inj : Set.InjOn (triedId last v) (Finset.range (ids.length + 1)) := by
    intro a ha b hb same
    simp only [Finset.coe_range, Set.mem_Iio] at ha hb
    have mod : (v - 1 + a) % last = (v - 1 + b) % last := Nat.succ_injective same
    have mod' : a % last = b % last := Nat.ModEq.add_left_cancel' (v - 1) mod
    rwa [Nat.mod_eq_of_lt (by omega), Nat.mod_eq_of_lt (by omega)] at mod'
  have members : ∀ j ∈ Finset.range (ids.length + 1), triedId last v j ∈ ids.toFinset := fun j hj =>
    List.mem_toFinset.mpr (all j (Finset.mem_range.mp hj))
  have count := Finset.card_le_card_of_injOn _ members inj
  have few := ids.toFinset_card_le
  rw [Finset.card_range] at count
  omega

/-- The id that a CLAIM draws: in range and no record's. -/
theorem createClaim_id {s : State} (law : ClaimIdLaw s) (room : s.claims.length < 24) (k : Kiosk) (x : Resource)
    (held : Bool) (lease wait : Nat) : ∀ id, (createClaim k x held lease wait s).1 = id →
      (∀ c ∈ s.claims, c.id ≠ id) ∧ 1 ≤ id ∧ id ≤ 255 := by
  rintro id rfl
  obtain ⟨-, -, -, low, high⟩ := law
  refine ⟨?_, freshId_range _ low high⟩
  obtain ⟨j, hj, unused⟩ := triedId_unused (s.claims.map Claim.id) (last := 255) s.nextClaim (by simp; omega)
  have free := freshId_unused (used := fun v => s.claims.any fun c => c.id = v) (s.claims.length + 1) low high
    ⟨j, by simpa using hj, by simpa using unused⟩
  simpa [createClaim] using free

/-! ### Inserting a record (R50) -/

@[simp] theorem mem_insertClaim {c d : Claim} {l : List Claim} : d ∈ insertClaim c l ↔ d = c ∨ d ∈ l := by
  induction l with
  | nil => simp [insertClaim]
  | cons x xs ih =>
    unfold insertClaim
    split_ifs
    · simp
    · simp only [List.mem_cons, ih]
      tauto

@[simp] theorem insertClaim_length (c : Claim) (l : List Claim) : (insertClaim c l).length = l.length + 1 := by
  induction l with
  | nil => rfl
  | cons x xs ih =>
    unfold insertClaim
    split_ifs
    · rfl
    · simp [ih]

theorem insertClaim_ascending {c : Claim} {l : List Claim} (ids : l.Pairwise fun a b => a.id < b.id)
    (new : ∀ d ∈ l, d.id ≠ c.id) : (insertClaim c l).Pairwise fun a b => a.id < b.id := by
  induction l with
  | nil => simp [insertClaim]
  | cons x xs ih =>
    obtain ⟨above, rest⟩ := List.pairwise_cons.mp ids
    have other := new x List.mem_cons_self
    unfold insertClaim
    split_ifs with before
    · refine List.pairwise_cons.mpr ⟨fun d hd => ?_, ids⟩
      obtain rfl | hd := List.mem_cons.mp hd
      · exact before
      · exact before.trans (above d hd)
    · refine List.pairwise_cons.mpr ⟨fun d hd => ?_, ih rest fun d hd => new d (List.mem_cons_of_mem x hd)⟩
      obtain rfl | hd := mem_insertClaim.mp hd
      · omega
      · exact above d hd

theorem insertClaim_find {c : Claim} {p : Claim → Bool} (l : List Claim) (h : p c = false) :
    (insertClaim c l).find? p = l.find? p := by
  induction l with
  | nil => simp [insertClaim, h]
  | cons x xs ih =>
    unfold insertClaim
    split_ifs
    · simp [List.find?_cons, h]
    · simp [List.find?_cons, ih]

/-! ### The law of the ids -/

theorem ClaimIdLaw.congr {s t : State} (law : ClaimIdLaw s) (claims : t.claims = s.claims)
    (next : t.nextClaim = s.nextClaim) : ClaimIdLaw t := by
  unfold ClaimIdLaw
  rwa [claims, next]

theorem ClaimIdLaw.filter {s t : State} {keep : Claim → Bool} (law : ClaimIdLaw s)
    (claims : t.claims = s.claims.filter keep) (next : t.nextClaim = s.nextClaim) : ClaimIdLaw t := by
  obtain ⟨ids, range, room, counter⟩ := law
  unfold ClaimIdLaw
  rw [claims, next]
  exact ⟨ids.filter _, fun c hc => range c (List.mem_of_mem_filter hc), (List.length_filter_le ..).trans room, counter⟩

theorem ClaimIdLaw.map {s t : State} {f : Claim → Claim} (law : ClaimIdLaw s) (claims : t.claims = s.claims.map f)
    (next : t.nextClaim = s.nextClaim) (same : ∀ c, (f c).id = c.id) : ClaimIdLaw t := by
  obtain ⟨ids, range, room, counter⟩ := law
  unfold ClaimIdLaw
  rw [claims, next]
  refine ⟨List.pairwise_map.mpr (by simpa only [same] using ids), fun c hc => ?_, by simpa using room, counter⟩
  obtain ⟨d, hd, rfl⟩ := List.mem_map.mp hc
  rw [same]
  exact range d hd

theorem ClaimIdLaw.create {s : State} (law : ClaimIdLaw s) (room : s.claims.length < 24) (k : Kiosk) (x : Resource)
    (held : Bool) (lease wait : Nat) : ClaimIdLaw (createClaim k x held lease wait s).2 := by
  obtain ⟨new, low, high⟩ := createClaim_id law room k x held lease wait _ rfl
  obtain ⟨ids, range, -⟩ := law
  refine ⟨insertClaim_ascending ids new, fun c hc => ?_, ?_, nextId_range low high⟩
  · obtain rfl | hc := mem_insertClaim.mp hc
    · exact ⟨low, high⟩
    · exact range c hc
  · exact (insertClaim_length ..).trans_le room

end Sys2Proof.Machine
end

section
/-!
PROOFS. The LIVE contacts (R40): while the owner of a resource changes, the law holds of every contact but those in its
zone; muting that zone restores it. Every step keeps the law.
-/

namespace Sys2Proof.Machine

/-! ### The law but for some resources -/

/-- The law of the LIVE contacts, but for those in the zones of some resources (R15, R16). -/
def LiveBut (spared : Resource → Prop) (s : State) : Prop :=
  ClaimIdLaw s ∧ ∀ n : ContactNo, ∀ c, s.contacts[n] = some c → c.live = true →
    LiveContact s c ∨ ∃ z, c.zone = some z ∧ spared (.zone z)

variable {spared : Resource → Prop} {s t : State}

theorem LiveLaw.spare (law : LiveLaw s) : LiveBut spared s := by
  obtain ⟨ids, live⟩ := law
  exact ⟨ids, fun n c hc hl => .inl (live n c hc hl)⟩

theorem LiveBut.lawful (law : LiveBut spared s) (quiet : ∀ z, spared (.zone z) → ZoneQuiet z s) : LiveLaw s := by
  obtain ⟨ids, live⟩ := law
  refine ⟨ids, fun n c hc hl => ?_⟩
  obtain held | ⟨z, hz, hb⟩ := live n c hc hl
  · exact held
  · have mute := quiet z hb n c hc (decide_eq_true hz)
    simp [mute] at hl

theorem LiveContact.congr {c : Contact} (h : LiveContact s c)
    (zones : ∀ z e, c.zone = some z → s.zones[z] = some e →
      ∃ e', t.zones[z] = some e' ∧ e'.enabled = e.enabled ∧ e'.panel = e.panel)
    (owner : ∀ z, c.zone = some z → zoneOwner t z = zoneOwner s z) : LiveContact t c := by
  obtain ⟨z, e, k, p, hz, used, enabled, panel, hk, owned, hp⟩ := h
  obtain ⟨e', used', enabled', panel'⟩ := zones z e hz used
  exact ⟨z, e', k, p, hz, used', enabled'.trans enabled, panel'.trans panel, hk, (owner z hz).trans owned, hp⟩

theorem zoneOwner_of_holder {z : ZoneIx} (zones : t.zones = s.zones)
    (holder : (holder? t (.zone z)).map Claim.kiosk = (holder? s (.zone z)).map Claim.kiosk) :
    zoneOwner t z = zoneOwner s z := by
  unfold zoneOwner
  rw [zones, holder]

theorem LiveBut.part (law : LiveBut spared s) (same : touchPart t = touchPart s) : LiveBut spared t := by
  have contacts : t.contacts = s.contacts := (congrArg State.contacts same :)
  have zones : t.zones = s.zones := (congrArg State.zones same :)
  have claims : t.claims = s.claims := (congrArg State.claims same :)
  have next : t.nextClaim = s.nextClaim := (congrArg State.nextClaim same :)
  obtain ⟨ids, live⟩ := law
  refine ⟨ids.congr claims next, fun n c hc hl => (live n c (contacts ▸ hc) hl).imp_left fun h => ?_⟩
  exact h.congr (fun z e _ used => ⟨e, zones ▸ used, rfl, rfl⟩) fun z _ => zoneOwner_congr zones claims z

theorem LiveLaw.part (law : LiveLaw s) (same : touchPart t = touchPart s) : LiveLaw t :=
  (LiveBut.part (spared := fun _ => False) law.spare same).lawful nofun

/-- A change of the claim table that keeps the holders of the other zones keeps the law but for these. -/
theorem LiveLaw.of_holders (law : LiveLaw s) (ids : ClaimIdLaw t) (contacts : t.contacts = s.contacts)
    (zones : t.zones = s.zones) (holders : ∀ z, spared (.zone z) ∨
      (holder? t (.zone z)).map Claim.kiosk = (holder? s (.zone z)).map Claim.kiosk) : LiveBut spared t := by
  obtain ⟨-, live⟩ := law
  refine ⟨ids, fun n c hc hl => ?_⟩
  rw [contacts] at hc
  have lawful := live n c hc hl
  by_cases other : ∀ z, c.zone = some z → ¬spared (.zone z)
  · refine .inl (lawful.congr (fun z e _ used => ⟨e, zones ▸ used, rfl, rfl⟩) fun z hz => ?_)
    exact zoneOwner_of_holder zones ((holders z).resolve_left (other z hz))
  · push Not at other
    exact .inr other

/-! ### Muting (R41) -/

theorem muteContacts_live {fits : Contact → Bool} {cancel : Bool} {n : ContactNo} {c : Contact}
    (hc : (muteContacts fits cancel s).contacts[n] = some c) (hl : c.live = true) :
    s.contacts[n] = some c ∧ fits c = false := by
  rw [muteContacts_contact, Option.map_eq_some_iff] at hc
  obtain ⟨d, hd, same⟩ := hc
  split_ifs at same with h
  · simp [← same] at hl
  · exact ⟨same ▸ hd, by simpa [same] using h⟩

theorem LiveBut.muted (law : LiveBut spared s) (fits : Contact → Bool) (cancel : Bool) :
    LiveBut spared (muteContacts fits cancel s) := by
  have entries := fun n c => muteContacts_live (s := s) (fits := fits) (cancel := cancel) (n := n) (c := c)
  obtain ⟨contacts, kiosks, h⟩ := muteContacts_eq fits cancel s
  rw [h] at entries ⊢
  obtain ⟨ids, live⟩ := law
  exact ⟨ids, fun n c hc hl => live n c (entries n c hc hl).1 hl⟩

theorem muteZone_quiet (z : ZoneIx) (cancel : Bool) (s : State) : ZoneQuiet z (muteZone z cancel s) := by
  intro n c hc hz
  by_contra hl
  have out := (muteContacts_live hc (by simpa using hl)).2
  exact absurd hz (by simpa [inZone] using out)

theorem LiveLaw.muted (law : LiveLaw s) (fits : Contact → Bool) (cancel : Bool) :
    LiveLaw (muteContacts fits cancel s) :=
  (LiveBut.muted (spared := fun _ => False) law.spare fits cancel).lawful nofun

/-- Muting the zone of a resource whose owner has changed restores the law (R15, R16). -/
theorem LiveBut.ownerChange {x : Resource} (law : LiveBut (· = x) s) (cancel : Bool) :
    LiveLaw (ownerChange x cancel s) := by
  cases x with
  | scanner i => exact law.lawful nofun
  | zone z =>
    refine (law.muted (fun c => decide (c.zone = some z)) cancel).lawful fun w hw => ?_
    cases hw
    exact muteZone_quiet z cancel s

/-! ### Changes of the claim table -/

theorem LiveLaw.filter {keep : Claim → Bool} (law : LiveLaw s) (claims : t.claims = s.claims.filter keep)
    (next : t.nextClaim = s.nextClaim) (contacts : t.contacts = s.contacts) (zones : t.zones = s.zones)
    (gone : ∀ c ∈ s.claims, keep c = false → c.held = false ∨ spared c.resource) : LiveBut spared t := by
  refine law.of_holders (law.1.filter claims next) contacts zones fun z => ?_
  by_cases hz : spared (.zone z)
  · exact .inl hz
  · refine .inr (congrArg _ ?_)
    unfold holder?
    rw [claims, List.find?_filter]
    refine List.find?_congr fun c hc => ?_
    cases hk : keep c
    · obtain free | hb := gone c hc hk
      · simp [free]
      · have other : c.resource ≠ .zone z := fun e => hz (e ▸ hb)
        simp [other]
    · simp

theorem LiveLaw.map {f : Claim → Claim} (law : LiveLaw s) (claims : t.claims = s.claims.map f)
    (next : t.nextClaim = s.nextClaim) (contacts : t.contacts = s.contacts) (zones : t.zones = s.zones)
    (same : ∀ c, (f c).id = c.id ∧ (f c).kiosk = c.kiosk ∧ (f c).resource = c.resource)
    (held : ∀ c ∈ s.claims, (f c).held = c.held ∨ spared c.resource) : LiveBut spared t := by
  refine law.of_holders (law.1.map claims next fun c => (same c).1) contacts zones fun z => ?_
  by_cases hz : spared (.zone z)
  · exact .inl hz
  · refine .inr ?_
    have found : s.claims.find? ((fun c => decide (c.resource = .zone z) && c.held) ∘ f) =
        s.claims.find? fun c => decide (c.resource = .zone z) && c.held := by
      refine List.find?_congr fun c hc => ?_
      simp only [Function.comp_apply, (same c).2.2]
      obtain h | hb := held c hc
      · rw [h]
      · have other : c.resource ≠ .zone z := fun e => hz (e ▸ hb)
        simp [other]
    unfold holder?
    rw [claims, List.find?_map, found, Option.map_map]
    exact congrArg (Option.map · _) (funext fun c => (same c).2.1)

theorem LiveLaw.create (law : LiveLaw s) (room : s.claims.length < 24) (k : Kiosk) (x : Resource) (held : Bool)
    (lease wait : Nat) (free : held = false ∨ spared x) : LiveBut spared (createClaim k x held lease wait s).2 := by
  refine law.of_holders (law.1.create room k x held lease wait) rfl rfl fun z => ?_
  by_cases hz : spared (.zone z)
  · exact .inl hz
  · refine .inr (congrArg _ (insertClaim_find s.claims ?_))
    obtain rfl | hb := free
    · exact Bool.and_false _
    · have other : x ≠ .zone z := fun e => hz (e ▸ hb)
      simp [other]

/-- Without the claims that no LIVE contact depends on. -/
theorem LiveLaw.filterFree {keep : Claim → Bool} (law : LiveLaw s) (claims : t.claims = s.claims.filter keep)
    (next : t.nextClaim = s.nextClaim) (contacts : t.contacts = s.contacts) (zones : t.zones = s.zones)
    (gone : ∀ c ∈ s.claims, keep c = false → c.held = false) : LiveLaw t :=
  (law.filter (spared := fun _ => False) claims next contacts zones fun c hc hk => .inl (gone c hc hk)).lawful nofun

/-! ### Releases and grants (R60, R61) -/

theorem LiveLaw.grantHead (law : LiveLaw s) (x : Resource) : LiveLaw (grantHead x s) := by
  unfold Machine.grantHead
  split
  · exact law
  · next id rest queue =>
    have waiting : id ∈ waitQueue s x := queue ▸ List.mem_cons_self
    obtain ⟨-, d, hd, hid, hx⟩ := (mem_waitQueue law.1.1).mp waiting
    split
    · exact law
    · next c hc =>
      have granted : LiveBut (· = x)
          (modClaim id (fun c => { c with held := true, expiry := after s.hubTime c.lease }) s) := by
        refine law.map rfl rfl rfl rfl (fun a => ?_) fun a ha => ?_
        · split_ifs <;> exact ⟨rfl, rfl, rfl⟩
        · split_ifs with h
          · exact .inr (claim_unique law.1.1 ha hd (h.trans hid.symm) ▸ hx)
          · exact .inl rfl
      refine LiveBut.ownerChange (granted.part ?_) true
      rw [touchPart_latch]
      rfl

theorem LiveLaw.removeHeld (law : LiveLaw s) {c : Claim} (why : Removal)
    (own : ∀ d ∈ s.claims, d.id = c.id → d.resource = c.resource) : LiveLaw (removeHeld c why s) := by
  have dropped : LiveBut (· = c.resource) (dropClaim c.id s) :=
    law.filter rfl rfl rfl rfl fun d hd hk => .inr (own d hd (by simpa using hk))
  have muted := dropped.ownerChange (decide (why ≠ .clearKiosk))
  unfold Machine.removeHeld
  dsimp only
  generalize Machine.ownerChange c.resource (decide (why ≠ .clearKiosk)) (dropClaim c.id s) = u at muted ⊢
  have told (lapse : Bool) : LiveLaw (tellScan c lapse u) := muted.part (touchPart_tellScan c lapse u)
  cases why with
  | release => exact (told false).grantHead c.resource
  | clearKiosk => exact (told false).grantHead c.resource
  | lapse => exact ((told true).part (touchPart_latch c.kiosk .claimLost _)).grantHead c.resource
  | resourceGone => exact (told false).part (touchPart_latch c.kiosk .claimLost _)

theorem LiveLaw.removeWaiting (law : LiveLaw s) {c : Claim} (lost : Bool)
    (free : ∀ d ∈ s.claims, d.id = c.id → d.held = false) : LiveLaw (removeWaiting c lost s) := by
  have dropped : LiveLaw (dropClaim c.id s) :=
    law.filterFree rfl rfl rfl rfl fun d hd hk => free d hd (by simpa using hk)
  cases lost with
  | false => exact dropped
  | true => exact dropped.part rfl

/-- A resource without LIVE contacts in its zone. -/
def ResourceQuiet (x : Resource) (s : State) : Prop := ∀ z, x = .zone z → ZoneQuiet z s

theorem LiveLaw.gone {x : Resource} {gone : Claim → Bool} (law : LiveLaw s) (quiet : ResourceQuiet x s)
    (h : ClaimsGone gone s t) (only : ∀ c ∈ s.claims, gone c = true → c.resource = x) :
    LiveLaw t ∧ ResourceQuiet x t := by
  have quiet' : ResourceQuiet x t := fun z hz n c hc => quiet z hz n c (h.contacts ▸ hc)
  have zones : t.zones = s.zones := (congrArg State.zones h.frame :)
  have next : t.nextClaim = s.nextClaim := (congrArg State.nextClaim h.frame :)
  refine ⟨LiveBut.lawful (spared := (· = x)) ?_ fun z hz => quiet' z hz.symm, quiet'⟩
  exact law.filter h.claims next h.contacts zones fun c hc hk => .inr (only c hc (by simpa using hk))

theorem LiveLaw.removeResource {x : Resource} (law : LiveLaw s) (quiet : ResourceQuiet x s) :
    LiveLaw (removeResource x s) ∧ ResourceQuiet x (removeResource x s) := by
  have holder : LiveLaw ((holder? s x).elim s fun c => Machine.removeHeld c .resourceGone s) ∧
      ResourceQuiet x ((holder? s x).elim s fun c => Machine.removeHeld c .resourceGone s) := by
    cases h : holder? s x with
    | none => exact ⟨law, quiet⟩
    | some c =>
      obtain ⟨hc, rfl, -⟩ := holder_eq_some h
      have own (d : Claim) (hd : d ∈ s.claims) (hid : d.id = c.id) : d.resource = c.resource :=
        congrArg Claim.resource (claim_unique law.1.1 hd hc hid)
      refine ⟨law.removeHeld .resourceGone own, fun z hz => ?_⟩
      have still := removeHeld_quiet (quiet z hz) hz
      rw [Option.elim_some, still]
      exact quiet z hz
  unfold Machine.removeResource
  dsimp only
  generalize (holder? s x).elim s (fun c => Machine.removeHeld c .resourceGone s) = u at holder ⊢
  obtain ⟨law', quiet'⟩ := holder
  refine law'.gone quiet' (loseClaims_gone (waitQueue u x) law'.1.1) fun c hc hk => ?_
  obtain ⟨-, d, hd, hid, hx⟩ := (mem_waitQueue law'.1.1).mp (of_decide_eq_true hk)
  exact claim_unique law'.1.1 hc hd hid.symm ▸ hx

/-! ### CLAIM and CLEAR KIOSK (R54, R70) -/

theorem LiveLaw.claimBlock (law : LiveLaw s) (kind number : Byte) (lease wait : Word) (k : Kiosk) :
    LiveLaw (claimBlock kind number lease wait k s).1 := by
  unfold Machine.claimBlock
  dsimp only
  split
  · exact law
  · exact law
  · next x _ =>
    split
    · exact law
    · split
      · exact law
      · split
        · exact law
        · next room =>
          have room' : s.claims.length < 24 := by omega
          split
          · exact LiveBut.ownerChange (law.create room' k x true _ _ (.inr rfl)) true
          · split_ifs
            · exact law
            · exact law
            · exact (law.create (spared := fun _ => False) room' k x false _ _ (.inl rfl)).lawful nofun

theorem LiveLaw.renewed (law : LiveLaw s) (id : Nat) (expiry : Time) :
    LiveLaw (modClaim id (fun c => { c with expiry := expiry }) s) := by
  refine (law.map (t := modClaim id (fun c => { c with expiry := expiry }) s) (spared := fun _ => False)
    (f := fun c => if c.id = id then { c with expiry := expiry } else c)
    rfl rfl rfl rfl (fun c => ?_) fun c _ => .inl ?_).lawful fun _ => False.elim
  · split_ifs <;> exact ⟨rfl, rfl, rfl⟩
  · split_ifs <;> rfl

theorem ownerChange_claims (x : Resource) (cancel : Bool) (s : State) : (ownerChange x cancel s).claims = s.claims := by
  cases x with
  | scanner i => rfl
  | zone z => exact muteZone_claims z cancel s

/-- Every claim of t is one of s as far as its id and resource go. -/
def ClaimsFrom (s t : State) : Prop := ∀ d ∈ t.claims, ∃ c ∈ s.claims, c.id = d.id ∧ c.resource = d.resource

theorem ClaimsFrom.of_subset (h : t.claims ⊆ s.claims) : ClaimsFrom s t := fun d hd => ⟨d, h hd, rfl, rfl⟩

theorem grantHead_claims (x : Resource) (s : State) : ClaimsFrom s (grantHead x s) := by
  unfold grantHead
  split
  · exact .of_subset (List.Subset.refl _)
  · next id _ _ =>
    split
    · exact .of_subset (List.Subset.refl _)
    · intro d hd
      rw [ownerChange_claims] at hd
      obtain ⟨c, hc, rfl⟩ := List.mem_map.mp hd
      exact ⟨c, hc, by split_ifs <;> exact ⟨rfl, rfl⟩⟩

theorem removeHeld_claims (c : Claim) (why : Removal) (s : State) : ClaimsFrom s (removeHeld c why s) := by
  unfold removeHeld
  dsimp only
  have dropped :
      (Machine.ownerChange c.resource (decide (why ≠ .clearKiosk)) (dropClaim c.id s)).claims ⊆ s.claims := by
    rw [ownerChange_claims]
    exact List.filter_subset_self _
  generalize Machine.ownerChange c.resource (decide (why ≠ .clearKiosk)) (dropClaim c.id s) = u at dropped ⊢
  have told (lapse : Bool) : (tellScan c lapse u).claims ⊆ s.claims := by
    have same : (tellScan c lapse u).claims = u.claims := (congrArg State.claims (touchPart_tellScan c lapse u) :)
    rwa [same]
  have granted (t : State) (h : t.claims ⊆ s.claims) : ClaimsFrom s (grantHead c.resource t) := fun d hd =>
    (grantHead_claims c.resource t d hd).imp fun a ⟨ha, same⟩ => ⟨h ha, same⟩
  cases why with
  | release => exact granted _ (told false)
  | clearKiosk => exact granted _ (told false)
  | lapse => exact granted (latch c.kiosk .claimLost (tellScan c true u)) (told true)
  | resourceGone => exact .of_subset (t := latch c.kiosk .claimLost (tellScan c false u)) (told false)

/-- The claims of a kiosk are WAITING while the first are removed, and keep their resources while the others are. -/
theorem LiveLaw.clearClaims (law : LiveLaw s) (k : Kiosk) : LiveLaw (clearClaims k s) := by
  have own {u : State} (law : LiveLaw u) {held : Bool} {c d : Claim} (hc : c ∈ claimsOf u k held) (hd : d ∈ u.claims)
      (hid : d.id = c.id) : d = c ∧ d.held = held := by
    obtain ⟨hc, fits⟩ := List.mem_filter.mp hc
    obtain rfl := claim_unique law.1.1 hd hc hid
    simp only [Bool.and_eq_true, beq_iff_eq] at fits
    exact ⟨rfl, fits.2⟩
  unfold Machine.clearClaims
  dsimp only
  have waiting := forEach_keeps (l := claimsOf s k false) (f := fun c => Machine.removeWaiting c false) (s := s)
    (P := fun u => LiveLaw u ∧ ∀ c ∈ claimsOf s k false, ∀ d ∈ u.claims, d.id = c.id → d.held = false)
    (fun c hc u ⟨lu, free⟩ => ⟨lu.removeWaiting false (free c hc), fun a ha d hd =>
      free a ha d (List.mem_of_mem_filter hd)⟩)
    ⟨law, fun c hc d hd hid => (own law hc hd hid).2⟩
  generalize forEach (claimsOf s k false) (fun c => Machine.removeWaiting c false) s = v at waiting ⊢
  obtain ⟨lv, -⟩ := waiting
  refine (forEach_keeps (l := claimsOf v k true)
    (P := fun u => LiveLaw u ∧ ∀ c ∈ claimsOf v k true, ∀ d ∈ u.claims, d.id = c.id → d.resource = c.resource)
    (fun c hc u ⟨lu, same⟩ => ⟨lu.removeHeld .clearKiosk (same c hc), fun a ha d hd hid => ?_⟩)
    ⟨lv, fun c hc d hd hid => congrArg Claim.resource (own lv hc hd hid).1⟩).1
  obtain ⟨b, hb, hbid, hbx⟩ := removeHeld_claims c .clearKiosk u d hd
  exact hbx.symm.trans (same a ha b hb (hbid.trans hid))

/-! ### Changes of the zone table (R11, R12) -/

theorem LiveLaw.written (law : LiveLaw s) {z : ZoneIx} (quiet : ZoneQuiet z s) (entry : Option Zone) :
    LiveLaw (written z entry s) := by
  obtain ⟨ids, live⟩ := law
  refine ⟨ids, fun n c hc hl => (live n c hc hl).congr (fun w e hw used => ?_) fun w hw => ?_⟩
  all_goals
    have other : z ≠ w := by
      rintro rfl
      simp [quiet n c hc (decide_eq_true hw)] at hl
    have same : (Machine.written z entry s).zones[w] = s.zones[w] := upd_get_ne s.zones z w _ other
  · exact ⟨e, same.trans used, rfl, rfl⟩
  · unfold zoneOwner
    rw [same]
    rfl

theorem LiveLaw.changeZone (law : LiveLaw s) (z : ZoneIx) (entry : Option Zone) : LiveLaw (changeZone z entry s) := by
  have muted : LiveLaw (muteZone z true s) := law.muted _ true
  have quiet : ResourceQuiet (.zone z) (muteZone z true s) := by
    rintro w ⟨⟩
    exact muteZone_quiet z true s
  have cleared : LiveLaw (clearedFor z entry s) ∧ ResourceQuiet (.zone z) (clearedFor z entry s) := by
    unfold clearedFor
    split_ifs
    · exact muted.removeResource quiet
    · exact ⟨muted, quiet⟩
  obtain ⟨lawful, quiet⟩ := cleared
  obtain ⟨notices, h⟩ := changeZone_written z entry s
  rw [h]
  exact (lawful.written (quiet z rfl) entry).part rfl

theorem LiveLaw.deadBand (law : LiveLaw s) {z : ZoneIx} {old e : Zone} (used : s.zones[z] = some old)
    (same : { old with deadBand := e.deadBand } = e) : LiveLaw { s with zones := upd s.zones z fun _ => some e } := by
  have entry (w : ZoneIx) : (upd s.zones z fun _ => some e)[w] =
      (s.zones[w]).map fun o => if z = w then { o with deadBand := e.deadBand } else o := by
    rw [upd_get]
    split_ifs with h
    · subst h
      rw [used, Option.map_some, same]
    · simp
  obtain ⟨ids, live⟩ := law
  refine ⟨ids, fun n c hc hl => (live n c hc hl).congr (fun w o hw ho => ?_) fun w hw => ?_⟩
  · refine ⟨_, (entry w).trans (congrArg _ ho), ?_⟩
    split_ifs <;> exact ⟨rfl, rfl⟩
  · unfold zoneOwner
    dsimp only
    rw [entry]
    cases s.zones[w] with
    | none => rfl
    | some o =>
      dsimp only [Option.map_some]
      split_ifs <;> rfl

/-! ### Contact records and lost panels (R29 to R33, R44) -/

theorem LiveLaw.setContact (law : LiveLaw s) (n : ContactNo) (entry : Option Contact)
    (live : ∀ c, entry = some c → c.live = true → LiveContact s c) : LiveLaw (setContact n entry s) := by
  obtain ⟨ids, others⟩ := law
  refine ⟨ids, fun m c hc hl => ?_⟩
  rw [setContact_get] at hc
  split_ifs at hc
  · exact live c hc hl
  · exact others m c hc hl

theorem LiveLaw.capture (law : LiveLaw s) (i : Slot) (id : RawId) (x y : Nat) (time : Time) :
    LiveLaw (captureContact i id x y time s) := by
  obtain full | ⟨n, c, -, -, -, live, captured⟩ := captureContact_part i id x y time s
  · have ignored : LiveLaw (ignore i id (unignore i id s)) := law
    exact ignored.part full
  · refine LiveLaw.part ?_ captured
    exact LiveLaw.setContact (s := unignore i id s) law n (some c) (by rintro d ⟨⟩; exact live)

theorem LiveLaw.freed (law : LiveLaw s) (n : ContactNo) : LiveLaw (Machine.setContact n none s) :=
  law.setContact n none nofun

theorem LiveLaw.down (law : LiveLaw s) (i : Slot) (id : RawId) (x y : Nat) (time : Time) :
    LiveLaw (contactDown i id x y time s) := by
  cases found : entry? s i id with
  | none =>
    rw [contactDown_new found]
    exact law.capture ..
  | some n =>
    obtain ⟨c, entry, -⟩ := entry_eq_some found
    rw [contactDown_old found entry]
    split_ifs
    · exact ((law.freed n).part (touchPart_produceCancel n c _)).capture ..
    · exact (law.freed n).capture ..

/-- The contact of a MOVE has its zone and owner still, and a new position (R31). -/
theorem LiveLaw.move (law : LiveLaw s) (i : Slot) (id : RawId) (x y : Nat) (time : Time) :
    LiveLaw (contactMove i id x y time s) := by
  cases found : entry? s i id with
  | none =>
    rw [contactMove_new found]
    split_ifs
    · exact law
    · exact law.capture ..
  | some n =>
    obtain ⟨c, entry, -⟩ := entry_eq_some found
    rw [contactMove_old found entry]
    obtain still | ⟨live, p, moved⟩ := contactMoveEntry_cases n c x y time s
    · rwa [still]
    · rw [moved]
      refine LiveLaw.part (law.setContact n _ ?_) (touchPart_produce ..)
      rintro d ⟨⟩ -
      obtain ⟨z, e, k, -, hz, used, enabled, panel, hk, owned, -⟩ := law.2 n c entry live
      exact ⟨z, e, k, p, hz, used, enabled, panel, hk, owned, rfl⟩

theorem LiveLaw.up (law : LiveLaw s) (i : Slot) (id : RawId) (x y : Nat) (time : Time) :
    LiveLaw (contactUp i id x y time s) := by
  cases found : entry? s i id with
  | none =>
    rw [contactUp_new found]
    exact law
  | some n =>
    obtain ⟨c, entry, -⟩ := entry_eq_some found
    obtain mute | ⟨p, live⟩ := contactUp_cases found entry x y time
    · exact mute ▸ law.freed n
    · exact live ▸ (law.freed n).part (touchPart_produce ..)

theorem LiveLaw.panelGone (law : LiveLaw s) (i : Slot) : LiveLaw (panelGone i s) := by
  have entries := (panelGone_cancels i s).1
  have frame := panelGone_frame s i s
  generalize Machine.panelGone i s = t at entries frame ⊢
  have zones : t.zones = s.zones := (congrArg State.zones frame :)
  have claims : t.claims = s.claims := (congrArg State.claims frame :)
  have next : t.nextClaim = s.nextClaim := (congrArg State.nextClaim frame :)
  obtain ⟨ids, live⟩ := law
  refine ⟨ids.congr claims next, fun n c hc hl => ?_⟩
  rw [entries, Option.bind_eq_some_iff] at hc
  obtain ⟨d, hd, stays⟩ := hc
  split_ifs at stays
  cases stays
  exact (live n c hd hl).congr (fun z e _ used => ⟨e, zones ▸ used, rfl, rfl⟩) fun z _ => zoneOwner_congr zones claims z

theorem liveLaw_kept : ContactsKept LiveLaw where
  part same law := law.part same
  fresh zones := ⟨by simp [ClaimIdLaw, State.reset], fun n c hc => by simp [State.reset] at hc⟩
  muted fits cancel law := law.muted fits cancel
  gone i law := law.panelGone i
  record i time q law := processRecord_keeps q law (fun _ _ _ => law.down ..) (fun _ _ _ => law.move ..)
    fun _ _ _ => law.up ..
  zone z entry law := law.changeZone z entry
  deadBand used same law := law.deadBand used same
  claim kind number lease wait k law := law.claimBlock kind number lease wait k
  renewed id expiry law := law.renewed id expiry
  held why mem law := law.removeHeld why fun d hd hid =>
    congrArg Claim.resource (claim_unique law.1.1 hd mem hid)
  waiting lost mem free law := law.removeWaiting lost fun d hd hid => claim_unique law.1.1 hd mem hid ▸ free
  clearClaims k law := law.clearClaims k
  scanner i law := (law.removeResource (x := .scanner i) fun _ h => nomatch h).1

end Sys2Proof.Machine

open Sys2Proof Sys2Proof.Machine

/-- Settles O7: a zone whose owner or entry changes has its contacts muted in the same operation, and no other zone's
owner changes with it. -/
theorem liveContactsOwned : Obligations.LiveContactsOwned := liveLaw_kept.keptByStep

end

section
/-!
PROOFS. The coordinate mapping (R35 to R37): the rotation and its ranges, the clamp of an axis, and the scale of one.
-/

namespace Sys2Proof.Machine

/-! ### Rotation (R36) -/

section
variable {e : Zone} (dx dy : Nat)

theorem rotate_zero (h : e.rotation = 0) : rotate e dx dy = (dx, dy, e.width, e.height) := by
  unfold rotate
  rw [h]

theorem rotate_one (h : e.rotation = 1) : rotate e dx dy = (dy, e.width - 1 - dx, e.height, e.width) := by
  unfold rotate
  rw [h]

theorem rotate_two (h : e.rotation = 2) :
    rotate e dx dy = (e.width - 1 - dx, e.height - 1 - dy, e.width, e.height) := by
  unfold rotate
  rw [h]

theorem rotate_three (h : e.rotation = 3) : rotate e dx dy = (e.height - 1 - dy, dx, e.height, e.width) := by
  unfold rotate
  rw [h]

end

theorem rotation_cases (r : Fin 4) : r = 0 ∨ r = 1 ∨ r = 2 ∨ r = 3 := by
  revert r
  decide

/-- Offsets within the extents stay within the rotated ones (R36). -/
theorem rotate_range (e : Zone) {dx dy : Nat} (hx : dx + 1 ≤ e.width) (hy : dy + 1 ≤ e.height) :
    (rotate e dx dy).1 + 1 ≤ (rotate e dx dy).2.2.1 ∧ (rotate e dx dy).2.1 + 1 ≤ (rotate e dx dy).2.2.2 := by
  have mirrored {d n : Nat} (h : d + 1 ≤ n) : n - 1 - d + 1 ≤ n := by omega
  obtain h | h | h | h := rotation_cases e.rotation
  · rw [rotate_zero dx dy h]
    exact ⟨hx, hy⟩
  · rw [rotate_one dx dy h]
    exact ⟨hy, mirrored hx⟩
  · rw [rotate_two dx dy h]
    exact ⟨mirrored hx, mirrored hy⟩
  · rw [rotate_three dx dy h]
    exact ⟨mirrored hy, hx⟩

/-! ### Clamp (R35) -/

section
variable {raw origin extent : Nat}

theorem clampAxis_below (h : raw ≤ origin) (wide : 1 ≤ extent) : (clampAxis raw origin extent).1 = 0 := by
  unfold clampAxis
  split_ifs
  · rfl
  · show extent - 1 = 0
    omega
  · show raw - origin = 0
    omega

theorem clampAxis_above (h : origin ≤ raw) :
    (clampAxis raw origin extent).1 = min (raw - origin) (extent - 1) := by
  unfold clampAxis
  split_ifs
  · omega
  · show extent - 1 = _
    omega
  · show raw - origin = _
    omega

theorem clampAxis_range (wide : 1 ≤ extent) : (clampAxis raw origin extent).1 + 1 ≤ extent := by
  obtain h | h := Nat.le_total raw origin
  · rw [clampAxis_below h wide]
    exact wide
  · rw [clampAxis_above h]
    omega

/-- The clamp changes the offset exactly when the position lies outside (R35). -/
theorem clampAxis_edge : (clampAxis raw origin extent).2 = true ↔ ¬(origin ≤ raw ∧ raw < origin + extent) := by
  unfold clampAxis
  split_ifs <;> simp <;> omega

end

/-! ### Scale (R37) -/

/-- The centre of a cell of the extent falls into the logical size. -/
theorem scaleAxis_lt {u logical extent : Nat} (inside : u + 1 ≤ extent) (size : 1 ≤ logical) :
    scaleAxis u logical extent < logical := by
  unfold scaleAxis
  rw [Nat.div_lt_iff_lt_mul (by omega), Nat.mul_comm logical]
  exact Nat.mul_lt_mul_of_pos_right (by omega) size

/-! ### The mapping -/

theorem mapPosition_eq {e : Zone} {x y dx dy u v eu ev : Nat} (hx : (clampAxis x e.left e.width).1 = dx)
    (hy : (clampAxis y e.top e.height).1 = dy) (turned : rotate e dx dy = (u, v, eu, ev)) :
    (mapPosition e x y).x = scaleAxis u e.logicalWidth eu ∧ (mapPosition e x y).y = scaleAxis v e.logicalHeight ev := by
  unfold mapPosition
  dsimp only
  rw [hx, hy, turned]
  exact ⟨rfl, rfl⟩

theorem mapPosition_edge (e : Zone) (x y : Nat) : (mapPosition e x y).edge = true ↔ e.contains x y = false := by
  have edge : (mapPosition e x y).edge = ((clampAxis x e.left e.width).2 || (clampAxis y e.top e.height).2) := rfl
  rw [edge, Bool.or_eq_true, clampAxis_edge, clampAxis_edge, Zone.contains, decide_eq_false_iff_not, ← not_and_or,
    and_assoc]

end Sys2Proof.Machine

open Sys2Proof Sys2Proof.Machine

/-- Settles O25: the table row by row, and the ranges by the row. -/
theorem rotationTable : Obligations.RotationTable := by
  intro e dx dy hx hy
  obtain ⟨hu, hv⟩ := rotate_range e hx hy
  refine ⟨rotate_zero dx dy, rotate_one dx dy, rotate_two dx dy, rotate_three dx dy, hu, hv, ?_⟩
  rintro rfl
  refine ⟨fun h => ?_, fun h => ?_, fun h => ?_, fun h => ?_⟩
  · rw [rotate_zero 0 dy h]
  · rw [rotate_one 0 dy h]
    rfl
  · rw [rotate_two 0 dy h]
    rfl
  · rw [rotate_three 0 dy h]

/-- Settles O26: the clamped offsets stay in the extents, the rotation keeps them there, and the centre of a cell scales
into the logical size. -/
theorem mappingInRange : Obligations.MappingInRange := by
  intro e x y width height logicalWidth logicalHeight
  obtain ⟨hu, hv⟩ := rotate_range e (clampAxis_range (raw := x) (origin := e.left) width)
    (clampAxis_range (raw := y) (origin := e.top) height)
  obtain ⟨hx, hy⟩ := mapPosition_eq (e := e) (x := x) (y := y) rfl rfl rfl
  refine ⟨hx ▸ scaleAxis_lt hu logicalWidth, hy ▸ scaleAxis_lt hv logicalHeight, mapPosition_edge e x y, ?_⟩
  intro dx dy hx0 hx1 hy0 hy1 u v eu ev turned
  have offset {raw origin extent d : Nat} (wide : 1 ≤ extent) (below : raw ≤ origin → d = 0)
      (above : origin ≤ raw → d = min (raw - origin) (extent - 1)) : (clampAxis raw origin extent).1 = d := by
    obtain h | h := Nat.le_total raw origin
    · rw [clampAxis_below h wide, below h]
    · rw [clampAxis_above h, above h]
  exact mapPosition_eq (offset width hx0 hx1) (offset height hy0 hy1) turned

end

section
/-!
PROOFS. The CONTACTS read (R27 to R34, R38, R39): the dead-band test, the records of an answer and their range, the
events of a contact, and the end of the read.
-/

namespace Sys2Proof.Machine

/-! ### The dead-band test (R38) -/

theorem distance_le_iff (band a b : Nat) : band ≤ distance a b ↔ b + band ≤ a ∨ a + band ≤ b := by
  unfold distance
  omega

theorem moveProduced_iff (band : Nat) (last new : Produced) : moveProduced band last new = true ↔
    new.edge ≠ last.edge ∨ last.x + band ≤ new.x ∨ new.x + band ≤ last.x ∨ last.y + band ≤ new.y ∨
      new.y + band ≤ last.y := by
  simp only [moveProduced, Bool.or_eq_true, decide_eq_true_eq, distance_le_iff, bne_iff_ne, or_assoc]
  rw [ne_comm]

/-! ### The records of an answer (R27, 11.6) -/

theorem contactRecords_length (d : List Byte) : (contactRecords d).length = (byteAt d 0).toNat % 128 := by
  simp [contactRecords]

theorem byteAt_of_take {d l : List Byte} {m j : Nat} (h : (d.drop m).take 5 = l) (hj : j < 5) :
    byteAt d (m + j) = l.getD j 0 := by
  unfold byteAt
  rw [← h, List.getD_eq_getElem?_getD, List.getD_eq_getElem?_getD, List.getElem?_take_of_lt hj, List.getElem?_drop]

theorem contactRecord_of_take {d : List Byte} {m : Nat} {b x1 x0 y1 y0 : Byte}
    (h : (d.drop m).take 5 = [b, x1, x0, y1, y0]) : contactRecord d m =
      { phase := b.toNat / 32, rawId := b.toNat % 32, x := (x1 ++ x0).toNat, y := (y1 ++ y0).toNat } := by
  have byte (j : Nat) (hj : j < 5) := byteAt_of_take h hj
  unfold contactRecord halfAt join16
  rw [show byteAt d m = b from byte 0 (by decide), show byteAt d (m + 1) = x1 from byte 1 (by decide),
    show byteAt d (m + 1 + 1) = x0 from byte 2 (by decide), show byteAt d (m + 3) = y1 from byte 3 (by decide),
    show byteAt d (m + 3 + 1) = y0 from byte 4 (by decide)]

theorem contactRecords_get {d : List Byte} {k : Nat} (hk : k < (byteAt d 0).toNat % 128) :
    (contactRecords d)[k]? = some (contactRecord d (1 + 5 * k)) := by
  simp [contactRecords, hk]

theorem contactsFit_iff (d : List Byte) : contactsFit d = true ↔
    (byteAt d 0).toNat % 128 ≤ 9 ∧ d.length = 1 + 5 * ((byteAt d 0).toNat % 128) := decide_eq_true_iff

/-- The read is no longer wanted (R27). -/
def readTaken (i : Slot) (s : State) : State :=
  modPanel i (fun e => { e with readWanted := false, readCapture := none }) s

section
variable {s : State} {i : Slot} {d : List Byte} {time : Time}

theorem processContacts_discarded (h : contactsFit d = false) : processContacts i d s = readTaken i s := by
  unfold processContacts
  dsimp only
  rw [h]
  rfl

theorem processContacts_fit (capture : (s.panels[i]).readCapture = some time) (h : contactsFit d = true) :
    processContacts i d s = if 128 ≤ (byteAt d 0).toNat then
      modPanel i (fun e => { e with readWanted := true, readCapture := some time })
        (forEach (contactRecords d) (processRecord i time) (readTaken i s))
    else forEach (contactRecords d) (processRecord i time) (readTaken i s) := by
  unfold processContacts
  dsimp only
  rw [h, capture]
  rfl

end

/-! ### A record leaves the panel engines alone -/

theorem produce_panels (n : ContactNo) (c : Contact) (ph : Phase) (p : Produced) (t : Time) (s : State) :
    (produce n c ph p t s).panels = s.panels := (congrArg State.panels (produce_frame s n c ph p t s) :)

theorem produceCancel_panels (n : ContactNo) (c : Contact) (s : State) : (produceCancel n c s).panels = s.panels :=
  (congrArg State.panels (produceCancel_frame s n c s) :)

theorem captureContact_panels (i : Slot) (id : RawId) (x y : Nat) (time : Time) (s : State) :
    (captureContact i id x y time s).panels = s.panels := by
  unfold captureContact
  dsimp only
  split
  · rfl
  · split
    · rw [produce_panels]
      rfl
    · rfl

theorem contactDown_panels (i : Slot) (id : RawId) (x y : Nat) (time : Time) (s : State) :
    (contactDown i id x y time s).panels = s.panels := by
  cases found : entry? s i id with
  | none => rw [contactDown_new found, captureContact_panels]
  | some n =>
    obtain ⟨c, entry, -⟩ := entry_eq_some found
    rw [contactDown_old found entry, captureContact_panels]
    split_ifs
    · exact produceCancel_panels ..
    · rfl

theorem contactMove_panels (i : Slot) (id : RawId) (x y : Nat) (time : Time) (s : State) :
    (contactMove i id x y time s).panels = s.panels := by
  cases found : entry? s i id with
  | none =>
    rw [contactMove_new found]
    split_ifs
    · rfl
    · exact captureContact_panels ..
  | some n =>
    obtain ⟨c, entry, -⟩ := entry_eq_some found
    rw [contactMove_old found entry]
    obtain still | ⟨-, p, moved⟩ := contactMoveEntry_cases n c x y time s
    · rw [still]
    · rw [moved, produce_panels]
      rfl

theorem contactUp_panels (i : Slot) (id : RawId) (x y : Nat) (time : Time) (s : State) :
    (contactUp i id x y time s).panels = s.panels := by
  cases found : entry? s i id with
  | none =>
    rw [contactUp_new found]
    rfl
  | some n =>
    obtain ⟨c, entry, -⟩ := entry_eq_some found
    obtain mute | ⟨p, live⟩ := contactUp_cases found entry x y time
    · rw [mute]
      rfl
    · rw [live, produce_panels]
      rfl

theorem processRecord_panels (i : Slot) (time : Time) (q : ContactRecord) (s : State) :
    (processRecord i time q s).panels = s.panels :=
  processRecord_keeps (P := fun t => t.panels = s.panels) q rfl (fun _ _ _ => contactDown_panels ..)
    (fun _ _ _ => contactMove_panels ..) fun _ _ _ => contactUp_panels ..

theorem processRecords_panels (i : Slot) (time : Time) (l : List ContactRecord) (s : State) :
    (forEach l (processRecord i time) s).panels = s.panels :=
  forEach_keeps (P := fun t => t.panels = s.panels) (fun q _ t ht => (processRecord_panels i time q t).trans ht) rfl

/-! ### Records in range and out of range (R34) -/

section
variable {i : Slot} {time : Time} {id : RawId} {x y : Nat} (hx : x ≤ 4095) (hy : y ≤ 4095) (s : State)
include hx hy

theorem processRecord_down : processRecord i time { phase := 1, rawId := id.val, x := x, y := y } s =
    contactDown i id x y time s := by
  simp [processRecord, Nat.not_lt.mpr hx, Nat.not_lt.mpr hy]

theorem processRecord_move : processRecord i time { phase := 2, rawId := id.val, x := x, y := y } s =
    contactMove i id x y time s := by
  simp [processRecord, Nat.not_lt.mpr hx, Nat.not_lt.mpr hy]

theorem processRecord_up : processRecord i time { phase := 3, rawId := id.val, x := x, y := y } s =
    contactUp i id x y time s := by
  simp [processRecord, Nat.not_lt.mpr hx, Nat.not_lt.mpr hy]

end

theorem processRecord_outOfRange {q : ContactRecord} (i : Slot) (time : Time) (s : State)
    (h : 15 < q.rawId ∨ 4095 < q.x ∨ 4095 < q.y ∨ (q.phase ≠ 1 ∧ q.phase ≠ 2 ∧ q.phase ≠ 3)) :
    processRecord i time q s = s := by
  unfold processRecord
  split
  · rfl
  · next id hid =>
    have small : q.rawId < 16 := index_eq_some.mp hid ▸ id.isLt
    split_ifs with far
    · rfl
    · obtain ⟨notDown, notMove, notUp⟩ : q.phase ≠ 1 ∧ q.phase ≠ 2 ∧ q.phase ≠ 3 := by omega
      split
      · next down => exact absurd down notDown
      · next move => exact absurd move notMove
      · next up => exact absurd up notUp
      · rfl

/-! ### Events and ignored ids (R24, R45) -/

/-- An id that is taken off the ignored set and put into it again is its last (R24). -/
theorem ignore_unignore (i : Slot) (id : RawId) (s : State) : ignore i id (unignore i id s) =
    { s with ignored := upd s.ignored i fun l => l.filter (fun w => w ≠ id) ++ [id] } := by
  simp [ignore, unignore]

/-- An event of a contact in a zone goes to the queue of its owner (R45). -/
theorem produce_owned {c : Contact} {z : ZoneIx} {k : Kiosk} (n : ContactNo) (ph : Phase) (p : Produced) (time : Time)
    (s : State) (owned : c.owner = some k) (hz : c.zone = some z) : produce n c ph p time s =
      deliver k
        { contact := n, phase := ph, zone := some z, x := p.x, y := p.y, time := time.setWidth 16, edge := p.edge } s := by
  unfold produce touchEvent
  rw [owned, hz]

theorem produceCancel_owned {c : Contact} {k : Kiosk} {p : Produced} (n : ContactNo) (s : State)
    (owned : c.owner = some k) (last : c.last = some p) : produceCancel n c s = deliver k (cancelOf s.hubTime n c p) s := by
  unfold produceCancel produce
  rw [last]
  dsimp only
  rw [owned]
  rfl

/-! ### The end of the read (R27, R162) -/

/-- The panel engine's CONTACTS read is no longer outstanding. -/
def contactsEnded (i : Slot) (s : State) : State :=
  { s with panels := upd s.panels i fun e => { e with outstanding := false } }

theorem panelAct_ok (i : Slot) (d : List Byte) (s : State) :
    panelAct i .ok d s = processContacts i d (contactsEnded i s) := rfl

theorem panelAct_failed {o : BusOutcome} (h : o ≠ .ok) (i : Slot) (d : List Byte) (s : State) :
    panelAct i o d s = contactsEnded i s := by
  unfold panelAct
  exact if_neg h

end Sys2Proof.Machine

open Sys2Proof Sys2Proof.Machine

/-- Settles O39: the completion is that of an engine's transaction, an answer that fits is a loop over its records, and
each record is one of the cases of an id with or without an entry. -/
theorem contactsRead : Obligations.ContactsRead := by
  refine ⟨moveProduced_iff, ?completes, ?answer, ?new, ?down, ?range, ?captured, ?old⟩
  case completes =>
    intro s t i a d h
    have panel : definedKind s i = some .panel := by
      obtain ⟨-, -, -, -, -, -, panel⟩ := h
      exact panel
    have acts (b : BusState) (o : BusOutcome) (d : List Byte) :
        engineAct i .contacts o d { s with bus := b } = panelAct i o d { s with bus := b } := engineAct_kind.2.2 panel
    refine ⟨fun he => ?_, fun he => ?_, fun o ho => ?_⟩
    · exact completion_ok h he ((acts .idle .ok d).trans (panelAct_ok ..))
    · exact completion_refused h he fun d => (acts .idle .refused d).trans (panelAct_failed (by decide) ..)
    · exact endsWith_engine h ho (fun _ => rfl) fun b => (acts b o []).trans (panelAct_failed ho ..)
  case answer =>
    rintro s u v i d n time rfl capture rfl rfl
    refine ⟨fun misfit => processContacts_discarded ?_, fun few length => ⟨fun last => ?_, fun more => ?_, ?_, ?_, ?_⟩⟩
    · rw [← Bool.not_eq_true, contactsFit_iff]
      omega
    · rw [processContacts_fit capture ((contactsFit_iff d).mpr ⟨few, length⟩), if_neg (by omega)]
      rfl
    · rw [processContacts_fit capture ((contactsFit_iff d).mpr ⟨few, length⟩), if_pos more]
      rfl
    · exact processRecords_panels ..
    · exact contactRecords_length d
    · intro k b x1 x0 y1 y0 hk bytes
      rw [contactRecords_get hk, contactRecord_of_take bytes]
  case new =>
    intro s i time id x y hx hy new
    rw [processRecord_move hx hy, processRecord_down hx hy, processRecord_up hx hy, contactMove_new new,
      contactDown_new new, contactUp_new new]
    refine ⟨fun ignored => if_pos ignored, fun heard => ?_, rfl, fun n z free inZone unowned => ?_⟩
    · rw [heard, if_neg nofun]
    · exact captureContact_mute free inZone unowned
  case down =>
    rintro s u i time id x y n c hx hy law found entry rfl
    have freed : entry? (setContact n none s) i id = none := law.entry_freed found
    refine ⟨freed, fun mute => ?_, fun k p live owned last => ?_⟩
    · rw [processRecord_down hx hy, processRecord_down hx hy, contactDown_old found entry, mute]
      exact (contactDown_new freed).symm
    · have freed' : entry? (deliver k (cancelOf s.hubTime n c p) (setContact n none s)) i id = none := freed
      rw [processRecord_down hx hy, processRecord_down hx hy, contactDown_old found entry, live, if_pos rfl,
        produceCancel_owned n _ owned last]
      exact (contactDown_new freed').symm
  case range => exact fun s i time q => processRecord_outOfRange i time s
  case captured =>
    intro s i time id x y hx hy new
    rw [processRecord_down hx hy, contactDown_new new]
    refine ⟨fun full => ?_, fun n free => ⟨fun z k e inZone owned used => ?_, fun outside => ?_⟩⟩
    · refine ⟨(s.ignored[i]).filter (fun w => w ≠ id) ++ [id], by simp, fun w hw => by simp [hw], ?_⟩
      rw [captureContact_full full, ignore_unignore]
      rfl
    · rw [captureContact_live free inZone owned used]
      exact produce_owned n .down _ time _ rfl rfl
    · exact captureContact_mute free outside rfl
  case old =>
    intro s i time id x y n c hx hy found entry
    rw [processRecord_move hx hy, processRecord_up hx hy, contactMove_old found entry]
    refine ⟨fun mute => ⟨contactMoveEntry_mute n x y time s mute, contactUp_mute found entry mute⟩, ?_⟩
    intro z e k p live hz used owned last
    rw [contactMoveEntry_live n x y time live last hz used, contactUp_live found entry live hz used]
    refine ⟨fun moved => ?_, fun near => ?_, produce_owned n .up _ time _ owned hz⟩
    · rw [if_pos moved]
      exact produce_owned n .move _ time _ owned hz
    · rw [near, if_neg nofun]

end

section
/-!
PROOFS. The claim table against the step: the part of the state the law of the claims is about, which holds the wait
queues beside what `touchPart` holds of the claims, and the operations, blocks and events that leave it as it is.
-/

namespace Sys2Proof.Machine

/-! ### The part of the state the law of the claims is about -/

/-- The state with every field at its reset value but the claims, the wait queues and the next id. -/
def claimPart (s : State) : State :=
  { State.reset with claims := s.claims, waits := s.waits, nextClaim := s.nextClaim }

/-- An operation that can change only what a mask blanks leaves this part alone, when the mask does. -/
theorem claimPart_of_frame (mask : State → State → State) {s t : State} (h : ∀ base, mask base t = mask base s)
    (blind : ∀ base u, claimPart (mask base u) = claimPart u := by exact fun _ _ => rfl) : claimPart t = claimPart s :=
  frame_of (blind s) (h s)

theorem claims_of_part {s t : State} (same : claimPart t = claimPart s) : t.claims = s.claims :=
  (congrArg State.claims same :)

theorem waits_of_part {s t : State} (same : claimPart t = claimPart s) : t.waits = s.waits :=
  (congrArg State.waits same :)

theorem nextClaim_of_part {s t : State} (same : claimPart t = claimPart s) : t.nextClaim = s.nextClaim :=
  (congrArg State.nextClaim same :)

theorem ClaimLaw.part {s t : State} (law : ClaimLaw s) (same : claimPart t = claimPart s) : ClaimLaw t :=
  law.congr (claims_of_part same) (waits_of_part same) (nextClaim_of_part same)

/-! ### Operations that leave this part as it is -/

@[simp] theorem claimPart_modUnit (i : Slot) (f : UnitSlot → UnitSlot) (s : State) :
    claimPart (modUnit i f s) = claimPart s := rfl

@[simp] theorem claimPart_modAttn (i : Slot) (f : Attention → Attention) (s : State) :
    claimPart (modAttn i f s) = claimPart s := rfl

@[simp] theorem claimPart_modPanel (i : Slot) (f : PanelEngine → PanelEngine) (s : State) :
    claimPart (modPanel i f s) = claimPart s := rfl

@[simp] theorem claimPart_latch (k : Kiosk) (c : NoticeClass) (s : State) : claimPart (latch k c s) = claimPart s := rfl

@[simp] theorem claimPart_postProbe (i : Slot) (p : ProbeStep) (s : State) :
    claimPart (postProbe i p s) = claimPart s := rfl

@[simp] theorem claimPart_freshEngines (i : Slot) (s : State) : claimPart (freshEngines i s) = claimPart s := rfl

@[simp] theorem claimPart_clearLink (k : Kiosk) (s : State) : claimPart (clearLink k s) = claimPart s := rfl

@[simp] theorem claimPart_clearNotices (k : Kiosk) (s : State) : claimPart (clearNotices k s) = claimPart s := rfl

@[simp] theorem claimPart_latchAll (c : NoticeClass) (s : State) : claimPart (latchAll c s) = claimPart s :=
  claimPart_of_frame offNotices fun b => latchAll_frame b c s

@[simp] theorem claimPart_settle (s : State) : claimPart (settle s) = claimPart s :=
  claimPart_of_frame offSettle fun b => settle_frame b s

@[simp] theorem claimPart_queueReply (l : Link) (r : ReqSlot) (p : List Byte) (s : State) :
    claimPart (queueReply l r p s) = claimPart s := claimPart_of_frame offLinks fun b => queueReply_frame b l r p s

@[simp] theorem claimPart_fillPlace (i : Slot) (s : State) : claimPart (fillPlace i s) = claimPart s :=
  claimPart_of_frame offWork fun b => fillPlace_frame b i s

@[simp] theorem claimPart_levelRule (i : Slot) (s : State) : claimPart (levelRule i s) = claimPart s :=
  claimPart_of_frame offAttn fun b => levelRule_frame b i s

@[simp] theorem claimPart_muteContacts (fits : Contact → Bool) (cancel : Bool) (s : State) :
    claimPart (muteContacts fits cancel s) = claimPart s :=
  claimPart_of_frame offMuted fun b => muteContacts_frame b fits cancel s

@[simp] theorem claimPart_ownerChange (x : Resource) (cancel : Bool) (s : State) :
    claimPart (ownerChange x cancel s) = claimPart s :=
  claimPart_of_frame offMuted fun b => ownerChange_frame b x cancel s

@[simp] theorem claimPart_tellScan (c : Claim) (lapse : Bool) (s : State) :
    claimPart (tellScan c lapse s) = claimPart s := claimPart_of_frame offScan fun b => tellScan_frame b c lapse s

@[simp] theorem claimPart_panelGone (i : Slot) (s : State) : claimPart (panelGone i s) = claimPart s :=
  claimPart_of_frame offTouch fun b => panelGone_frame b i s

@[simp] theorem claimPart_scannerGone (i : Slot) (s : State) : claimPart (scannerGone i s) = claimPart s :=
  claimPart_of_frame offScan fun b => scannerGone_frame b i s

@[simp] theorem claimPart_printerLost (i : Slot) (s : State) : claimPart (printerLost i s) = claimPart s :=
  claimPart_of_frame offFeed fun b => printerGone_frame b i .unitLost s

@[simp] theorem claimPart_printerRemoved (i : Slot) (s : State) : claimPart (printerRemoved i s) = claimPart s :=
  claimPart_of_frame offFeed fun b => printerRemoved_frame b i s

@[simp] theorem claimPart_cancelJob (j : Job) (s : State) : claimPart (cancelJob j s) = claimPart s :=
  claimPart_of_frame offFeed fun b => cancelJob_frame b j s

@[simp] theorem claimPart_stallJob (j : Job) (s : State) : claimPart (stallJob j s) = claimPart s :=
  claimPart_of_frame offFeed fun b => stallJob_frame b j s

@[simp] theorem claimPart_clearJobs (k : Kiosk) (s : State) : claimPart (clearJobs k s) = claimPart s :=
  claimPart_of_frame offFeed fun b => clearJobs_frame b k s

@[simp] theorem claimPart_wantRoomTest (k : Kiosk) (s : State) : claimPart (wantRoomTest k s) = claimPart s :=
  claimPart_of_frame offRoom fun b => wantRoomTest_frame b k s

@[simp] theorem claimPart_createJob (k : Kiosk) (any : Bool) (i : Slot) (s : State) :
    claimPart (createJob k any i s).2 = claimPart s := by
  have reclaimed : claimPart (reclaim s) = claimPart s := by
    unfold reclaim
    repeat' split
    all_goals rfl
  exact Eq.trans rfl reclaimed

@[simp] theorem claimPart_withdrawn (i : Slot) (s : State) : claimPart (orphan i (withdraw i s)) = claimPart s := by
  unfold orphan
  repeat' split
  all_goals rfl

/-! ### Blocks that leave this part as it is -/

@[simp] theorem claimPart_forKiosk {l : Link} {f : Kiosk → State → State × List Byte}
    (h : ∀ k s, claimPart (f k s).1 = claimPart s) (s : State) : claimPart (forKiosk l f s).1 = claimPart s := by
  unfold forKiosk
  split
  · exact h _ s
  · rfl

@[simp] theorem claimPart_onJob {id : Half} {k : Kiosk} {s : State} {f : Job → State × List Byte}
    (h : ∀ j, claimPart (f j).1 = claimPart s) : claimPart (onJob id k s f).1 = claimPart s := by
  unfold onJob
  repeat' split
  · rfl
  · rfl
  · exact h _

@[simp] theorem claimPart_onScan {slot : Byte} {k : Kiosk} {s : State} {f : Slot → State × List Byte}
    (h : ∀ i, claimPart (f i).1 = claimPart s) : claimPart (onScan slot k s f).1 = claimPart s := by
  unfold onScan
  split
  · rfl
  · split_ifs
    · rfl
    · rfl
    · rfl
    · exact h _

@[simp] theorem claimPart_linkStatusBlock (l : Link) (named : Option Byte) (s : State) :
    claimPart (linkStatusBlock l named s).1 = claimPart s := by
  unfold linkStatusBlock
  split <;> rfl

@[simp] theorem claimPart_maintainBlock (kiosk : Byte) (on : Bool) (s : State) :
    claimPart (maintainBlock kiosk on s).1 = claimPart s := by
  unfold maintainBlock
  split <;> rfl

@[simp] theorem claimPart_maintainAny (p : List Byte) (s : State) : claimPart (maintainAny p s).1 = claimPart s := by
  unfold maintainAny
  split_ifs <;> simp

@[simp] theorem claimPart_openOn (k : Kiosk) (any : Bool) (i : Slot) (s : State) :
    claimPart (openOn k any i s).1 = claimPart s := by
  unfold openOn
  split <;> simp

@[simp] theorem claimPart_printOpenBlock (target : Byte) (k : Kiosk) (s : State) :
    claimPart (printOpenBlock target k s).1 = claimPart s := by
  unfold printOpenBlock
  repeat' split
  all_goals simp

@[simp] theorem claimPart_printDataBlock (id : Half) (data : List Byte) (k : Kiosk) (s : State) :
    claimPart (printDataBlock id data k s).1 = claimPart s :=
  claimPart_onJob fun j => by
    dsimp only
    split_ifs <;> rfl

@[simp] theorem claimPart_printCloseBlock (id : Half) (k : Kiosk) (s : State) :
    claimPart (printCloseBlock id k s).1 = claimPart s :=
  claimPart_onJob fun j => by split <;> rfl

@[simp] theorem claimPart_printCancelBlock (id : Half) (k : Kiosk) (s : State) :
    claimPart (printCancelBlock id k s).1 = claimPart s :=
  claimPart_onJob fun j => by split <;> simp

@[simp] theorem claimPart_jobStatusBlock (l : Link) (id : Half) (collect : Byte) (s : State) :
    claimPart (jobStatusBlock l id collect s).1 = claimPart s := by
  unfold jobStatusBlock
  repeat' split
  · rfl
  · rfl
  · dsimp only
    split_ifs <;> rfl

@[simp] theorem claimPart_quotaSetBlock (kiosk : Byte) (quota : Half) (s : State) :
    claimPart (quotaSetBlock kiosk quota s).1 = claimPart s := by
  unfold quotaSetBlock
  split
  · rfl
  · exact (claimPart_wantRoomTest ..).trans rfl

@[simp] theorem claimPart_fillLimitBlock (limit : Word) (s : State) :
    claimPart (fillLimitBlock limit s).1 = claimPart s := rfl

@[simp] theorem claimPart_scanStartBlock (slot : Byte) (g : ScanSettings) (k : Kiosk) (s : State) :
    claimPart (scanStartBlock slot g k s).1 = claimPart s := by
  unfold scanStartBlock
  repeat' split
  all_goals rfl

@[simp] theorem claimPart_scanCreditBlock (slot n : Byte) (k : Kiosk) (s : State) :
    claimPart (scanCreditBlock slot n k s).1 = claimPart s := claimPart_onScan fun _ => rfl

@[simp] theorem claimPart_scanStopBlock (slot : Byte) (k : Kiosk) (s : State) :
    claimPart (scanStopBlock slot k s).1 = claimPart s := claimPart_onScan fun i => by split <;> rfl

@[simp] theorem claimPart_unitDefineBlock (slot address kind mode enable : Byte) (s : State) :
    claimPart (unitDefineBlock slot address kind mode enable s).1 = claimPart s := by
  unfold unitDefineBlock
  repeat' split
  all_goals simp [defineSlot]

@[simp] theorem claimPart_attnSetBlock (slot mode enable : Byte) (s : State) :
    claimPart (attnSetBlock slot mode enable s).1 = claimPart s := by
  have set (i : Slot) (m : AttnMode) (on : Bool) : claimPart (setAttention i m on s) = claimPart s := by
    unfold setAttention
    dsimp only
    split
    · exact (claimPart_levelRule ..).trans rfl
    · rfl
  unfold attnSetBlock
  repeat' split
  · rfl
  · exact set ..
  · rfl

@[simp] theorem claimPart_busRawBlock (kind : Option BusKind) (address command : Byte) (data : List Byte) (r : ReqSlot)
    (s : State) : claimPart (busRawBlock kind address command data r s).1 = claimPart s := by
  unfold busRawBlock
  repeat' split
  all_goals rfl

@[simp] theorem claimPart_changeEnabled (f : ClassSet → ClassSet → ClassSet) (classes : Half) (k : Kiosk) (s : State) :
    claimPart (changeEnabled f classes k s).1 = claimPart s := by
  unfold changeEnabled
  split <;> rfl

@[simp] theorem claimPart_noticeArmBlock (classes : Half) (k : Kiosk) (s : State) :
    claimPart (noticeArmBlock classes k s).1 = claimPart s := claimPart_changeEnabled ..

@[simp] theorem claimPart_noticeDisarmBlock (classes : Half) (k : Kiosk) (s : State) :
    claimPart (noticeDisarmBlock classes k s).1 = claimPart s := claimPart_changeEnabled ..

@[simp] theorem claimPart_setHold (h : Bool) (k : Kiosk) (s : State) : claimPart (setHold h k s).1 = claimPart s := by
  unfold setHold
  rfl

@[simp] theorem claimPart_noticeTakeBlock (k : Kiosk) (s : State) :
    claimPart (noticeTakeBlock k s).1 = claimPart s := by
  unfold noticeTakeBlock
  rfl

@[simp] theorem claimPart_maintainMaskBlock (kiosk : Byte) (classes : Half) (s : State) :
    claimPart (maintainMaskBlock kiosk classes s).1 = claimPart s := by
  unfold maintainMaskBlock
  split <;> rfl

@[simp] theorem claimPart_forceNoticeBlock (kiosk : Byte) (classes word : Half) (s : State) :
    claimPart (forceNoticeBlock kiosk classes word s).1 = claimPart s := by
  unfold forceNoticeBlock
  repeat' split
  all_goals rfl

/-! ### Outcomes of the unit bus: none of them changes a claim -/

@[simp] theorem claimPart_engineAct (i : Slot) (w : TxnName) (o : BusOutcome) (d : List Byte) (s : State) :
    claimPart (engineAct i w o d s) = claimPart s := by
  unfold engineAct
  split
  · exact claimPart_of_frame offFeed fun b => feedAct_frame b i w o d s
  · exact claimPart_of_frame offScan fun b => scanAct_frame b i w o d s
  · exact claimPart_of_frame offTouch fun b => panelAct_frame b i o d s
  · rfl

@[simp] theorem claimPart_causeToEngine (i : Slot) (b : Byte) (capture : Time) (s : State) :
    claimPart (causeToEngine i b capture s) = claimPart s := by
  unfold causeToEngine
  split
  · exact claimPart_of_frame offFeed fun base => printerCause_frame base i b s
  · exact claimPart_of_frame offScan fun base => scannerCause_frame base i b s
  · exact claimPart_of_frame offTouch fun base => panelCause_frame base i b capture s
  · rfl

@[simp] theorem claimPart_causeAct (i : Slot) (o : BusOutcome) (d : List Byte) (capture : Time) (s : State) :
    claimPart (causeAct i o d capture s) = claimPart s := by
  unfold causeAct
  dsimp only
  split <;> simp

@[simp] theorem claimPart_slotLost (i : Slot) (s : State) : claimPart (slotLost i s) = claimPart s := by
  have torn (t : State) : claimPart (tearDown i t) = claimPart t := by
    unfold tearDown
    split <;> simp
  exact (claimPart_latchAll ..).trans ((torn _).trans rfl)

@[simp] theorem claimPart_countFailure (i : Slot) (o : BusOutcome) (s : State) :
    claimPart (countFailure i o s) = claimPart s := by
  have raised : claimPart (raiseFailures i s) = claimPart s := by
    unfold raiseFailures
    dsimp only
    split <;> simp
  unfold countFailure
  split
  · split
    · rfl
    · rfl
    · rfl
    · exact raised
  · rfl

@[simp] theorem claimPart_probeAct (i : Slot) (w : TxnName) (o : BusOutcome) (d : List Byte) (s : State) :
    claimPart (probeAct i w o d s) = claimPart s := by
  have identified : claimPart (identified i d s) = claimPart s := by
    unfold Machine.identified
    dsimp only
    split_ifs <;> simp [becomeReady]
  unfold probeAct
  repeat' split
  · simp [probeNext]
  · simp [probeNext]
  · exact identified
  · simp [setLost]

@[simp] theorem claimPart_rawAct (t : Txn) (o : BusOutcome) (s : State) : claimPart (rawAct t o s) = claimPart s := by
  unfold rawAct
  cases s.busRaw with
  | none => rfl
  | some r => exact (claimPart_queueReply ..).trans rfl

@[simp] theorem claimPart_endTransaction (t : Txn) (o : BusOutcome) (s : State) :
    claimPart (endTransaction t o s) = claimPart s := by
  have handed (u : State) : claimPart (handOn t o u) = claimPart u := by
    unfold handOn
    repeat' split
    all_goals simp
  exact (handed _).trans rfl

/-! ### Events that leave this part as it is -/

@[simp] theorem claimPart_complete (w : TxnName) (a : UnitAnswer) (s : State) :
    claimPart (complete w a s) = claimPart s := by
  unfold complete
  repeat' split
  all_goals simp

@[simp] theorem claimPart_completeRaw (a : UnitAnswer) (s : State) : claimPart (completeRaw a s) = claimPart s := by
  unfold completeRaw
  repeat' split
  all_goals simp

@[simp] theorem claimPart_expireStall (sent : Nat) (received : List Byte) (s : State) :
    claimPart (expireStall sent received s) = claimPart s := by
  unfold expireStall
  repeat' split
  all_goals simp

@[simp] theorem claimPart_busAbortBlock (s : State) : claimPart (busAbortBlock s).1 = claimPart s := by
  unfold busAbortBlock
  split
  · exact (claimPart_endTransaction ..).trans rfl
  · rfl

@[simp] theorem claimPart_expireFill (id : Half) (s : State) : claimPart (expireFill id s) = claimPart s := by
  unfold expireFill
  repeat' split
  all_goals simp

@[simp] theorem claimPart_expireReprobe (i : Slot) (s : State) : claimPart (expireReprobe i s) = claimPart s := by
  unfold expireReprobe
  repeat' split
  all_goals simp

@[simp] theorem claimPart_attentionChange (i : Slot) (high : Bool) (s : State) :
    claimPart (attentionChange i high s) = claimPart s := by
  unfold attentionChange lineChange
  dsimp only
  repeat' split
  all_goals rfl

@[simp] theorem claimPart_endRelease (s : State) : claimPart (endRelease s) = claimPart s := by
  unfold endRelease
  split <;> rfl

@[simp] theorem claimPart_giveUpRelease (s : State) : claimPart (giveUpRelease s) = claimPart s := by
  unfold giveUpRelease
  repeat' split
  all_goals rfl

@[simp] theorem claimPart_frameSent (l : Link) (s : State) : claimPart (frameSent l s) = claimPart s := by
  unfold frameSent
  split <;> rfl

@[simp] theorem claimPart_characterFault (l : Link) (s : State) : claimPart (characterFault l s) = claimPart s := by
  unfold characterFault
  split <;> rfl

@[simp] theorem claimPart_finishFull (s : State) : claimPart (finishFull s) = claimPart s := by
  unfold finishFull
  split <;> rfl

@[simp] theorem claimPart_finishSoft (s : State) : claimPart (finishSoft s) = claimPart s := by
  have first (i : Slot) (t : State) : claimPart (postFirstPing i t) = claimPart t := by
    unfold postFirstPing
    split <;> simp
  unfold finishSoft
  cases softDone? s with
  | none => rfl
  | some r =>
    rw [Option.elim_some, forEach_frame claimPart first, claimPart_queueReply]
    rfl

end Sys2Proof.Machine
end

section
/-!
PROOFS. The operations of the Claim Manager against the law of the claims (R50 to R52): while the holder of a resource
is gone the law holds but for the waiters on it; granting the resource, or removing them too, restores it.
-/

namespace Sys2Proof.Machine

variable {spared : Resource → Prop} {s t : State}

/-! ### Lookups of the claim table -/

theorem claim_congr (claims : t.claims = s.claims) (id : Nat) : claim? t id = claim? s id := by
  unfold claim?
  rw [claims]

theorem holder_congr (claims : t.claims = s.claims) (x : Resource) : holder? t x = holder? s x := by
  unfold holder?
  rw [claims]

theorem waitQueue_congr (claims : t.claims = s.claims) (waits : t.waits = s.waits) (x : Resource) :
    waitQueue t x = waitQueue s x := by
  unfold waitQueue
  simp only [waits, claim_congr claims]

theorem holder_eq_none {x : Resource} : holder? s x = none ↔ ∀ c ∈ s.claims, c.resource = x → c.held = false := by
  simp [holder?]

theorem claimOf_eq_none {k : Kiosk} {x : Resource} :
    claimOf? s k x = none ↔ ∀ c ∈ s.claims, c.resource = x → c.kiosk ≠ k := by
  simp [claimOf?]

theorem waitQueue_sublist (ids : s.claims.Pairwise fun c d => c.id < d.id) (origin : ClaimsFrom s t)
    (waits : t.waits.Sublist s.waits) (x : Resource) : (waitQueue t x).Sublist (waitQueue s x) := by
  refine (waits.filter _).trans (List.monotone_filter_right _ fun id h => ?_)
  obtain ⟨d, found, hx⟩ := (Option.any_eq_true ..).mp h
  have hid : d.id = id := by simpa using List.find?_some found
  obtain ⟨c, hc, sameId, same⟩ := origin d (List.mem_of_find?_eq_some found)
  rw [(claim_eq_some ids).mpr ⟨hc, sameId.trans hid⟩, Option.any_some, same]
  exact hx

/-! ### The law but for the waiters on some resources -/

/-- The law of the claims, but for some resources, whose waiters may have no holder (R60). -/
structure ClaimLawBut (spared : Resource → Prop) (s : State) : Prop where
  ids : ClaimIdLaw s
  apart : s.claims.Pairwise ClaimsApart
  nodup : s.waits.Nodup
  waiting : ∀ id, id ∈ s.waits ↔ ∃ c ∈ s.claims, c.id = id ∧ c.held = false
  behind : ∀ c ∈ s.claims, c.held = false → (holder? s c.resource).isSome ∨ spared c.resource
  queues : ∀ x, (waitQueue s x).length ≤ 4

theorem ClaimLaw.spare (law : ClaimLaw s) : ClaimLawBut spared s := by
  obtain ⟨ids, apart, nodup, waiting, behind, queues⟩ := law
  exact ⟨ids, apart, nodup, waiting, fun c hc free => .inl (behind c hc free), queues⟩

theorem ClaimLawBut.lawful (law : ClaimLawBut spared s)
    (none : ∀ c ∈ s.claims, c.held = false → ¬spared c.resource) : ClaimLaw s :=
  ⟨law.ids, law.apart, law.nodup, law.waiting,
    fun c hc free => (law.behind c hc free).resolve_right (none c hc free), law.queues⟩

theorem ClaimLawBut.part (law : ClaimLawBut spared s) (same : claimPart t = claimPart s) : ClaimLawBut spared t := by
  have claims := claims_of_part same
  have waits := waits_of_part same
  refine ⟨law.ids.congr claims (nextClaim_of_part same), claims ▸ law.apart, waits ▸ law.nodup, ?_, ?_, ?_⟩
  · rw [claims, waits]
    exact law.waiting
  · rw [claims]
    exact fun c hc free => holder_congr claims _ ▸ law.behind c hc free
  · exact fun x => waitQueue_congr claims waits x ▸ law.queues x

/-- A waiter stands in the queue of its resource (R52). -/
theorem ClaimLawBut.queued (law : ClaimLawBut spared s) {c : Claim} (hc : c ∈ s.claims) (free : c.held = false) :
    c.id ∈ waitQueue s c.resource :=
  (mem_waitQueue law.ids.1).mpr ⟨(law.waiting c.id).mpr ⟨c, hc, rfl, free⟩, c, hc, rfl, rfl⟩

/-- What stands in a queue is WAITING for its resource (R52). -/
theorem ClaimLawBut.of_queued (law : ClaimLawBut spared s) {c : Claim} {x : Resource} (hc : c ∈ s.claims)
    (queued : c.id ∈ waitQueue s x) : c.resource = x ∧ c.held = false := by
  obtain ⟨inWaits, d, hd, hid, hx⟩ := (mem_waitQueue law.ids.1).mp queued
  obtain ⟨e, he, heid, free⟩ := (law.waiting c.id).mp inWaits
  obtain rfl := claim_unique law.ids.1 hd hc hid
  obtain rfl := claim_unique law.ids.1 he hd heid
  exact ⟨hx, free⟩

/-! ### Records that leave -/

theorem mem_dropClaim {id : Nat} {c : Claim} : c ∈ (dropClaim id s).claims ↔ c ∈ s.claims ∧ c.id ≠ id := by
  simp [dropClaim]

theorem dropClaim_from (id : Nat) (s : State) : ClaimsFrom s (dropClaim id s) :=
  .of_subset (List.filter_subset_self _)

/-- A record may leave when it is WAITING, or when its resource is spared. -/
theorem ClaimLawBut.drop (law : ClaimLawBut spared s) (id : Nat)
    (free : ∀ c ∈ s.claims, c.id = id → c.held = true → spared c.resource) : ClaimLawBut spared (dropClaim id s) where
  ids := law.ids.filter rfl rfl
  apart := law.apart.filter _
  nodup := law.nodup.filter _
  waiting other := by
    have left : other ∈ (dropClaim id s).waits ↔ other ∈ s.waits ∧ other ≠ id := by simp [dropClaim]
    simp only [left, law.waiting, mem_dropClaim]
    constructor
    · rintro ⟨⟨c, hc, rfl, waits⟩, ne⟩
      exact ⟨c, ⟨hc, ne⟩, rfl, waits⟩
    · rintro ⟨c, ⟨hc, ne⟩, rfl, waits⟩
      exact ⟨⟨c, hc, rfl, waits⟩, ne⟩
  behind c hc waits := by
    obtain ⟨hc, -⟩ := mem_dropClaim.mp hc
    obtain present | without := law.behind c hc waits
    · obtain ⟨h, hh, hx, held⟩ := holder_isSome.mp present
      by_cases gone : h.id = id
      · exact .inr (hx ▸ free h hh gone held)
      · exact .inl (holder_isSome.mpr ⟨h, mem_dropClaim.mpr ⟨hh, gone⟩, hx, held⟩)
    · exact .inr without
  queues x :=
    (waitQueue_sublist law.ids.1 (dropClaim_from id s) List.filter_sublist x).length_le.trans (law.queues x)

/-- Once its holder has left, a resource has none (R52). -/
theorem dropClaim_vacant (law : ClaimLaw s) {c : Claim} (hc : c ∈ s.claims) (held : c.held = true) :
    holder? (dropClaim c.id s) c.resource = none := by
  obtain ⟨-, apart, -⟩ := law
  refine holder_eq_none.mpr fun d hd same => ?_
  obtain ⟨hd, ne⟩ := mem_dropClaim.mp hd
  by_contra both
  exact ne (congrArg Claim.id (held_unique apart hd hc same ⟨by simpa using both, held⟩))

/-! ### Grants (R61) -/

/-- The claim with an id becomes HELD with its lease in full, and leaves its queue (R61). -/
def granted (id : Nat) (s : State) : State :=
  { modClaim id (fun c => { c with held := true, expiry := after s.hubTime c.lease }) s with
    waits := s.waits.filter fun x => x ≠ id }

/-- A grant finds no waiter, or grants the resource to the head of its queue (R61). -/
theorem grantHead_cases (x : Resource) (s : State) :
    waitQueue s x = [] ∧ grantHead x s = s ∨
      ∃ id rest d, waitQueue s x = id :: rest ∧ claim? s id = some d ∧ d.resource = x ∧
        grantHead x s = ownerChange x true (latch d.kiosk .claimGranted (granted id s)) := by
  unfold grantHead
  cases queue : waitQueue s x with
  | nil => exact .inl ⟨rfl, rfl⟩
  | cons id rest =>
    have fits := List.of_mem_filter (queue ▸ List.mem_cons_self : id ∈ waitQueue s x)
    obtain ⟨d, found, hx⟩ := (Option.any_eq_true ..).mp fits
    refine .inr ⟨id, rest, d, rfl, found, of_decide_eq_true hx, ?_⟩
    dsimp only
    rw [found]
    rfl

theorem mem_granted {id : Nat} {c : Claim} : c ∈ (granted id s).claims ↔
    ∃ d ∈ s.claims, c = if d.id = id then { d with held := true, expiry := after s.hubTime d.lease } else d := by
  simp only [granted, modClaim, List.mem_map, eq_comm]

theorem granted_from (id : Nat) (s : State) : ClaimsFrom s (granted id s) := by
  intro c hc
  obtain ⟨d, hd, rfl⟩ := mem_granted.mp hc
  exact ⟨d, hd, by split_ifs <;> exact ⟨rfl, rfl⟩⟩

/-- The claims of a vacant resource stay apart when one of them is granted it. -/
theorem granted_apart (ids : s.claims.Pairwise fun c d => c.id < d.id) (apart : s.claims.Pairwise ClaimsApart)
    {d : Claim} (hd : d ∈ s.claims) (vacant : holder? s d.resource = none) :
    (granted d.id s).claims.Pairwise ClaimsApart := by
  have idle := holder_eq_none.mp vacant
  refine List.pairwise_map.mpr ((ids.and apart).imp_of_mem fun {a b} ha hb ⟨lt, h⟩ same => ?_)
  have unique {c : Claim} (hc : c ∈ s.claims) (hid : c.id = d.id) : c = d := claim_unique ids hc hd hid
  split_ifs at same ⊢ with ga gb gb
  · omega
  · obtain rfl := unique ha ga
    exact ⟨(h same).1, fun both => by simp [idle b hb same.symm] at both⟩
  · obtain rfl := unique hb gb
    exact ⟨(h same).1, fun both => by simp [idle a ha same] at both⟩
  · exact h same

theorem ClaimLawBut.granted (law : ClaimLawBut spared s) {d : Claim} (hd : d ∈ s.claims)
    (vacant : holder? s d.resource = none) (only : ∀ x, spared x → x = d.resource) : ClaimLaw (granted d.id s) := by
  have ids : ClaimIdLaw (Machine.granted d.id s) :=
    law.ids.map rfl rfl fun c => by split_ifs <;> rfl
  have holds : (holder? (Machine.granted d.id s) d.resource).isSome :=
    holder_isSome.mpr ⟨_, mem_granted.mpr ⟨d, hd, rfl⟩, by simp⟩
  refine ⟨ids, granted_apart law.ids.1 law.apart hd vacant, law.nodup.filter _, fun id => ?_, fun c hc waits => ?_,
    fun x => ?_⟩
  · have left : id ∈ (Machine.granted d.id s).waits ↔ id ∈ s.waits ∧ id ≠ d.id := by simp [Machine.granted]
    simp only [left, law.waiting, mem_granted]
    constructor
    · rintro ⟨⟨c, hc, rfl, waits⟩, ne⟩
      exact ⟨c, ⟨c, hc, (if_neg ne).symm⟩, rfl, waits⟩
    · rintro ⟨_, ⟨c, hc, rfl⟩, rfl, waits⟩
      split_ifs at waits ⊢ with ne
      exact ⟨⟨c, hc, rfl, waits⟩, ne⟩
  · obtain ⟨b, hb, rfl⟩ := mem_granted.mp hc
    split_ifs at waits ⊢
    obtain present | without := law.behind b hb waits
    · obtain ⟨h, hh, hx, held⟩ := holder_isSome.mp present
      refine holder_isSome.mpr ⟨_, mem_granted.mpr ⟨h, hh, rfl⟩, ?_⟩
      split_ifs <;> exact ⟨hx, by simp [held]⟩
    · exact only _ without ▸ holds
  · exact (waitQueue_sublist law.ids.1 (granted_from d.id s) List.filter_sublist x).length_le.trans (law.queues x)

/-- The grant of a vacant resource restores the law (R61). -/
theorem ClaimLawBut.grantHead {x : Resource} (law : ClaimLawBut (· = x) s) (vacant : holder? s x = none) :
    ClaimLaw (grantHead x s) := by
  obtain ⟨empty, still⟩ | ⟨id, rest, d, queue, found, hx, next⟩ := grantHead_cases x s
  · rw [still]
    refine law.lawful fun c hc free hx => ?_
    have queued := law.queued hc free
    rw [hx, empty] at queued
    exact List.not_mem_nil queued
  · obtain ⟨hd, rfl⟩ := (claim_eq_some law.ids.1).mp found
    subst hx
    rw [next]
    have lawful : ClaimLaw (Machine.granted d.id s) := law.granted hd vacant fun _ same => same
    exact lawful.part ((claimPart_ownerChange ..).trans (claimPart_latch ..))

/-! ### The removal of a HELD claim (R60) -/

/-- With no LIVE contact in its zone, a resource changes its owner without a trace (R15, R16). -/
theorem ownerChange_quiet {x : Resource} (quiet : ResourceQuiet x s) (cancel : Bool) : ownerChange x cancel s = s := by
  cases x with
  | scanner i => rfl
  | zone z =>
    show muteZone z cancel s = s
    exact muteContacts_idle (quiet z rfl)

theorem quiet_of_ownerChange {x : Resource} (cancel : Bool) (s : State) : ResourceQuiet x (ownerChange x cancel s) := by
  rintro z rfl
  exact muteZone_quiet z cancel s

theorem ResourceQuiet.congr {x : Resource} (quiet : ResourceQuiet x s) (contacts : t.contacts = s.contacts) :
    ResourceQuiet x t := fun z hz n c hc => quiet z hz n c (contacts ▸ hc)

/-- A HELD claim is gone, and its zone and its scan have been told (R60 stages 1 and 2). -/
def told (c : Claim) (why : Removal) (s : State) : State :=
  tellScan c (decide (why = .lapse)) (ownerChange c.resource (decide (why ≠ .clearKiosk)) (dropClaim c.id s))

/-- Its kiosk has been told too, if it is; its resource is not granted yet (R60 stage 3). -/
def released (c : Claim) (why : Removal) (s : State) : State :=
  if why = .lapse ∨ why = .resourceGone then latch c.kiosk .claimLost (told c why s) else told c why s

theorem released_told (c : Claim) (why : Removal) (s : State) :
    ∃ notices, released c why s = { told c why s with notices := notices } := by
  unfold released
  split_ifs
  · exact ⟨_, rfl⟩
  · exact ⟨_, rfl⟩

theorem removeHeld_eq (c : Claim) (why : Removal) (s : State) : removeHeld c why s =
    if why = .resourceGone then released c why s else grantHead c.resource (released c why s) := by
  cases why <;> rfl

@[simp] theorem claimPart_released (c : Claim) (why : Removal) (s : State) :
    claimPart (released c why s) = claimPart (dropClaim c.id s) := by
  have same : claimPart (told c why s) = claimPart (dropClaim c.id s) :=
    (claimPart_tellScan ..).trans (claimPart_ownerChange ..)
  obtain ⟨notices, h⟩ := released_told c why s
  rw [h]
  exact same

theorem released_quiet (c : Claim) (why : Removal) (s : State) : ResourceQuiet c.resource (released c why s) := by
  have muted := quiet_of_ownerChange (x := c.resource) (decide (why ≠ .clearKiosk)) (dropClaim c.id s)
  have quiet : ResourceQuiet c.resource (told c why s) :=
    muted.congr (congrArg State.contacts (tellScan_frame State.reset ..) :)
  obtain ⟨notices, h⟩ := released_told c why s
  rw [h]
  exact quiet.congr rfl

/-- Without the claim that held a resource, the law holds but for the waiters on it. -/
theorem ClaimLaw.dropHolder (law : ClaimLaw s) {c : Claim} (hc : c ∈ s.claims) :
    ClaimLawBut (· = c.resource) (dropClaim c.id s) :=
  law.spare.drop c.id fun _ hd hid _ => congrArg Claim.resource (claim_unique law.1.1 hd hc hid)

theorem ClaimLaw.removeHeld (law : ClaimLaw s) {c : Claim} {why : Removal} (hc : c ∈ s.claims) (held : c.held = true)
    (stays : why ≠ .resourceGone) : ClaimLaw (removeHeld c why s) := by
  have same := claimPart_released c why s
  rw [removeHeld_eq, if_neg stays]
  refine ((law.dropHolder hc).part same).grantHead ?_
  rw [holder_congr (claims_of_part same)]
  exact dropClaim_vacant law hc held

theorem ClaimLaw.removeWaiting (law : ClaimLaw s) {c : Claim} (lost : Bool)
    (free : ∀ d ∈ s.claims, d.id = c.id → d.held = false) : ClaimLaw (removeWaiting c lost s) := by
  have dropped : ClaimLaw (dropClaim c.id s) :=
    (law.spare (spared := fun _ => False).drop c.id fun d hd hid held => by simp [free d hd hid] at held).lawful
      fun _ _ _ => False.elim
  cases lost with
  | false => exact dropped
  | true => exact dropped.part rfl

theorem claim_dropClaim (id other : Nat) (s : State) :
    claim? (dropClaim id s) other = if other = id then none else claim? s other := by
  unfold claim? dropClaim
  rw [List.find?_filter]
  split_ifs with same
  · simp [same]
  · exact List.find?_congr fun c _ => by by_cases h : c.id = other <;> simp [h, same]

/-- The claim that holds a resource stands in no queue, so the queues are as before without it. -/
theorem waitQueue_dropHolder (law : ClaimLaw s) {c : Claim} (hc : c ∈ s.claims) (held : c.held = true) (x : Resource) :
    waitQueue (dropClaim c.id s) x = waitQueue s x := by
  obtain ⟨⟨ids, -⟩, -, -, waiting, -⟩ := law
  have other {id : Nat} (h : id ∈ s.waits) : id ≠ c.id := by
    rintro rfl
    obtain ⟨d, hd, hid, free⟩ := (waiting c.id).mp h
    simp [claim_unique ids hd hc hid, held] at free
  have waits : (dropClaim c.id s).waits = s.waits :=
    List.filter_eq_self.mpr fun id h => decide_eq_true (other h)
  unfold waitQueue
  rw [waits]
  exact List.filter_congr fun id h => by rw [claim_dropClaim, if_neg (other h)]

/-- The removal of a HELD claim grants its resource to the head of the queue, unless the resource goes or none waits.
The grant mutes no contact, since the zone is MUTE already (R15, R60, R61). -/
theorem removeHeld_cases (law : ClaimLaw s) {c : Claim} (why : Removal) (hc : c ∈ s.claims) (held : c.held = true) :
    (why = .resourceGone ∨ waitQueue s c.resource = []) ∧ removeHeld c why s = released c why s ∨
      why ≠ .resourceGone ∧ ∃ id rest d, waitQueue s c.resource = id :: rest ∧ claim? s id = some d ∧
        d.resource = c.resource ∧ removeHeld c why s = latch d.kiosk .claimGranted (granted id (released c why s)) := by
  have same := claimPart_released c why s
  have queue : waitQueue (released c why s) c.resource = waitQueue s c.resource :=
    (waitQueue_congr (claims_of_part same) (waits_of_part same) _).trans (waitQueue_dropHolder law hc held _)
  rw [removeHeld_eq]
  split_ifs with gone
  · exact .inl ⟨.inl gone, rfl⟩
  obtain ⟨empty, still⟩ | ⟨id, rest, d, waits, found, hx, next⟩ := grantHead_cases c.resource (released c why s)
  · exact .inl ⟨.inr (queue ▸ empty), still⟩
  · rw [claim_congr (claims_of_part same), claim_dropClaim] at found
    split_ifs at found
    refine .inr ⟨gone, id, rest, d, queue ▸ waits, found, hx, next.trans (ownerChange_quiet ?_ true)⟩
    exact (released_quiet c why s).congr rfl

/-- A claim stays in the table while another is removed, unless it is granted the resource. -/
theorem removeHeld_keeps (law : ClaimLaw s) {c d : Claim} {why : Removal} (hc : c ∈ s.claims) (held : c.held = true)
    (hd : d ∈ s.claims) (ne : d.id ≠ c.id)
    (other : (waitQueue s c.resource).head? ≠ some d.id ∨ why = .resourceGone) : d ∈ (removeHeld c why s).claims := by
  have stays : d ∈ (released c why s).claims := by
    rw [claims_of_part (claimPart_released c why s)]
    exact mem_dropClaim.mpr ⟨hd, ne⟩
  obtain ⟨-, same⟩ | ⟨gone, id, rest, e, queue, -, -, same⟩ := removeHeld_cases law why hc held
  · rwa [same]
  · rw [same]
    have head : id ≠ d.id := by simpa [queue, gone] using other
    exact mem_granted.mpr ⟨d, stays, (if_neg head.symm).symm⟩

/-! ### A resource that goes (R68) -/

theorem ClaimLawBut.loseClaim {x : Resource} (law : ClaimLawBut (· = x) s) {id : Nat}
    (own : ∀ c ∈ s.claims, c.id = id → c.resource = x) : ClaimLawBut (· = x) (loseClaim id s) := by
  unfold Machine.loseClaim
  cases found : claim? s id with
  | none => exact law
  | some c =>
    obtain ⟨-, rfl⟩ := (claim_eq_some law.ids.1).mp found
    exact (law.drop c.id fun d hd hid _ => own d hd hid).part rfl

theorem ClaimLawBut.loseQueue {x : Resource} (law : ClaimLawBut (· = x) s) :
    ClaimLaw (forEach (waitQueue s x) Machine.loseClaim s) := by
  have left := (loseClaims_gone (waitQueue s x) law.ids.1).claims
  have kept : ClaimLawBut (· = x) (forEach (waitQueue s x) Machine.loseClaim s) := by
    refine (forEach_keeps (P := fun u => ClaimLawBut (· = x) u ∧ u.claims ⊆ s.claims) (fun id hid u hu => ?_)
      ⟨law, List.Subset.refl _⟩).1
    obtain ⟨lu, sub⟩ := hu
    refine ⟨lu.loseClaim fun c hc same => ?_, fun c hc => ?_⟩
    · exact (law.of_queued (sub hc) (same ▸ hid)).1
    · rw [(loseClaim_gone lu.ids.1 id).claims] at hc
      exact sub (List.mem_of_mem_filter hc)
  refine kept.lawful fun c hc free hx => ?_
  rw [left, List.mem_filter] at hc
  have queued := law.queued hc.1 free
  simp [hx ▸ queued] at hc

theorem ClaimLaw.removeResource (law : ClaimLaw s) (x : Resource) : ClaimLaw (removeResource x s) := by
  have holder : ClaimLawBut (· = x) ((holder? s x).elim s fun c => Machine.removeHeld c .resourceGone s) := by
    cases h : holder? s x with
    | none => exact law.spare
    | some c =>
      obtain ⟨hc, rfl, -⟩ := holder_eq_some h
      exact (law.dropHolder hc).part (claimPart_released c .resourceGone s)
  exact holder.loseQueue

/-! ### CLEAR KIOSK (R70) -/

theorem ClaimLaw.clearHeld : ∀ (l : List Claim) {s : State}, ClaimLaw s → l.Pairwise (fun c d => c.id < d.id) →
    (∀ c ∈ l, c ∈ s.claims ∧ c.held = true) → ClaimLaw (forEach l (fun c => Machine.removeHeld c .clearKiosk) s)
  | [], _, law, _, _ => law
  | c :: l, s, law, ids, own => by
    obtain ⟨after, ids⟩ := List.pairwise_cons.mp ids
    obtain ⟨hc, held⟩ := own c List.mem_cons_self
    refine clearHeld l (law.removeHeld hc held nofun) ids fun d hd => ?_
    obtain ⟨hds, dheld⟩ := own d (List.mem_cons_of_mem c hd)
    refine ⟨removeHeld_keeps law hc held hds (after d hd).ne' (.inl fun head => ?_), dheld⟩
    have waits := (law.spare (spared := fun _ => False).of_queued hds (List.mem_of_head? head)).2
    simp [dheld] at waits

theorem ClaimLaw.clearWaiting (law : ClaimLaw s) (k : Kiosk) :
    ClaimLaw (forEach (claimsOf s k false) (fun c => Machine.removeWaiting c false) s) := by
  refine (forEach_keeps (P := fun u => ClaimLaw u ∧ u.claims ⊆ s.claims) (fun c hc u hu => ?_)
    ⟨law, List.Subset.refl _⟩).1
  obtain ⟨lu, sub⟩ := hu
  obtain ⟨hc, fits⟩ := List.mem_filter.mp hc
  refine ⟨lu.removeWaiting false fun d hd hid => ?_, fun d hd => sub (mem_dropClaim.mp hd).1⟩
  rw [claim_unique law.1.1 (sub hd) hc hid]
  simpa using ((Bool.and_eq_true ..).mp fits).2

theorem ClaimLaw.clearClaims (law : ClaimLaw s) (k : Kiosk) : ClaimLaw (clearClaims k s) := by
  have cleared := law.clearWaiting k
  refine cleared.clearHeld _ (cleared.1.1.filter _) fun c hc => ?_
  obtain ⟨hc, fits⟩ := List.mem_filter.mp hc
  exact ⟨hc, by simpa using ((Bool.and_eq_true ..).mp fits).2⟩

/-! ### CLAIM and RENEW (R54, R57) -/

theorem insertClaim_perm (c : Claim) (l : List Claim) : (insertClaim c l).Perm (c :: l) := by
  induction l with
  | nil => exact .refl _
  | cons x xs ih =>
    unfold insertClaim
    split_ifs
    · exact .refl _
    · exact (ih.cons x).trans (.swap c x xs)

theorem ClaimsApart.symm {c d : Claim} (h : ClaimsApart c d) : ClaimsApart d c :=
  fun same => ⟨(h same.symm).1.symm, fun both => (h same.symm).2 both.symm⟩

/-- The id that a CLAIM draws (R51). -/
def drawnId (s : State) : Nat :=
  freshId (fun v => s.claims.any fun c => c.id = v) 255 (s.claims.length + 1) s.nextClaim

/-- The record that a CLAIM creates (R54, R55). -/
def newClaim (k : Kiosk) (x : Resource) (held : Bool) (lease wait : Nat) (s : State) : Claim :=
  { id := drawnId s, kiosk := k, resource := x, held := held, lease := lease, waitLimit := wait
    expiry := after s.hubTime (if held then lease else wait) }

theorem createClaim_eq (k : Kiosk) (x : Resource) (held : Bool) (lease wait : Nat) (s : State) :
    createClaim k x held lease wait s = (drawnId s, { s with
      claims := insertClaim (newClaim k x held lease wait s) s.claims
      nextClaim := nextId 255 (drawnId s)
      waits := if held then s.waits else s.waits ++ [drawnId s] }) := rfl

theorem drawnId_new (law : ClaimIdLaw s) (room : s.claims.length < 24) : ∀ c ∈ s.claims, c.id ≠ drawnId s :=
  (createClaim_id law room 0 (.scanner 0) true 0 0 (drawnId s) rfl).1

/-- The queues after a CLAIM: a claim that waits stands at the tail of its own (R52, R54). -/
theorem waitQueue_create (law : ClaimLaw s) (room : s.claims.length < 24) (k : Kiosk) (x y : Resource) (held : Bool)
    (lease wait : Nat) : waitQueue (createClaim k x held lease wait s).2 y =
      waitQueue s y ++ if held = false ∧ x = y then [drawnId s] else [] := by
  have found : claim? (createClaim k x held lease wait s).2 (drawnId s) = some (newClaim k x held lease wait s) :=
    (claim_eq_some (law.1.create room k x held lease wait).1).mpr ⟨mem_insertClaim.mpr (.inl rfl), rfl⟩
  have old {id : Nat} (h : id ∈ s.waits) : claim? (createClaim k x held lease wait s).2 id = claim? s id := by
    obtain ⟨c, hc, rfl, -⟩ := (law.2.2.2.1 id).mp h
    exact insertClaim_find s.claims (decide_eq_false (drawnId_new law.1 room c hc).symm)
  have waits : (createClaim k x held lease wait s).2.waits = if held then s.waits else s.waits ++ [drawnId s] := rfl
  have olds : s.waits.filter (fun id => (claim? (createClaim k x held lease wait s).2 id).any fun c => c.resource = y) =
      waitQueue s y := List.filter_congr fun id h => by rw [old h]
  unfold waitQueue at olds ⊢
  cases held with
  | true => simpa [waits] using olds
  | false => simp [waits, olds, List.filter_cons, found, newClaim]

theorem ClaimLaw.create (law : ClaimLaw s) (room : s.claims.length < 24) {k : Kiosk} {x : Resource} {held : Bool}
    (lease wait : Nat) (first : claimOf? s k x = none) (vacant : held = true → holder? s x = none)
    (behind : held = false → (holder? s x).isSome ∧ (waitQueue s x).length < 4) :
    ClaimLaw (createClaim k x held lease wait s).2 := by
  have queue := fun y => waitQueue_create law room k x y held lease wait
  have ids := law.1.create room k x held lease wait
  have new := drawnId_new law.1 room
  obtain ⟨-, apart, nodup, waiting, holders, queues⟩ := law
  rw [createClaim_eq] at queue ids ⊢
  refine ⟨ids, ?_, ?_, fun id => ?_, fun c hc free => ?_, fun y => ?_⟩
  · refine ((insertClaim_perm _ s.claims).pairwise_iff ClaimsApart.symm).mpr (List.pairwise_cons.mpr ⟨?_, apart⟩)
    intro d hd same
    exact ⟨(claimOf_eq_none.mp first d hd same.symm).symm,
      fun both => by simp [holder_eq_none.mp (vacant both.1) d hd same.symm] at both⟩
  · dsimp only
    split_ifs
    · exact nodup
    · refine nodup.append (List.nodup_singleton _) (List.disjoint_singleton.mpr fun h => ?_)
      obtain ⟨c, hc, hid, -⟩ := (waiting _).mp h
      exact new c hc hid
  · cases held <;> simp [waiting, newClaim, eq_comm (a := id), or_comm]
  · have holder : (holder? s c.resource).isSome := by
      obtain rfl | hc := mem_insertClaim.mp hc
      · exact (behind free).1
      · exact holders c hc free
    obtain ⟨h, hh, same⟩ := holder_isSome.mp holder
    exact holder_isSome.mpr ⟨h, mem_insertClaim.mpr (.inr hh), same⟩
  · rw [queue]
    split_ifs with here
    · obtain ⟨waits, rfl⟩ := here
      simpa using (behind waits).2
    · simpa using queues y

/-- The law survives a change of leases, wait limits and expiry times. -/
theorem ClaimLaw.map {f : Claim → Claim} (law : ClaimLaw s) (claims : t.claims = s.claims.map f)
    (waits : t.waits = s.waits) (next : t.nextClaim = s.nextClaim) (same : ∀ c, (f c).id = c.id ∧
      (f c).resource = c.resource ∧ (f c).kiosk = c.kiosk ∧ (f c).held = c.held) : ClaimLaw t := by
  obtain ⟨ids, apart, nodup, waiting, behind, queues⟩ := law
  have origin : ClaimsFrom s t := by
    intro c hc
    rw [claims] at hc
    obtain ⟨d, hd, rfl⟩ := List.mem_map.mp hc
    exact ⟨d, hd, (same d).1.symm, (same d).2.1.symm⟩
  refine ⟨ids.map claims next fun c => (same c).1, ?_, waits ▸ nodup, fun other => ?_, fun c hc free => ?_,
    fun x => (waitQueue_sublist ids.1 origin (waits ▸ .refl _) x).length_le.trans (queues x)⟩
  · exact claims ▸ List.pairwise_map.mpr (apart.imp fun {c d} h => by simpa only [ClaimsApart, same] using h)
  · simp only [waits, waiting, claims, List.mem_map, exists_exists_and_eq_and, same]
  · rw [claims] at hc
    obtain ⟨d, hd, rfl⟩ := List.mem_map.mp hc
    obtain ⟨h, hh, hx, held⟩ := holder_isSome.mp (behind d hd ((same d).2.2.2 ▸ free))
    refine holder_isSome.mpr ⟨f h, claims ▸ List.mem_map_of_mem hh, ?_⟩
    simp only [same, hx, held, and_self]

/-- A renewed lease changes no record but in its expiry time (R57). -/
theorem ClaimLaw.renewed (law : ClaimLaw s) (id : Nat) (expiry : Time) :
    ClaimLaw (modClaim id (fun c => { c with expiry := expiry }) s) :=
  law.map rfl rfl rfl fun c => by split_ifs <;> simp

end Sys2Proof.Machine
end

section
/-!
PROOFS. Every step keeps the law of the claims: the requests and events of the Claim Manager, the Zone Map and the Unit
Table that change the claims keep it, and every other command leaves the claims as they are.
-/

namespace Sys2Proof.Machine

variable {s : State}

/-! ### The requests and expiries of the claims -/

theorem ClaimLaw.claimBlock (law : ClaimLaw s) (kind number : Byte) (lease wait : Word) (k : Kiosk) :
    ClaimLaw (claimBlock kind number lease wait k s).1 := by
  unfold Machine.claimBlock
  dsimp only
  split
  · exact law
  · exact law
  · next x _ =>
    split
    · exact law
    · split
      · exact law
      · next first =>
        split
        · exact law
        · next room =>
          have room' : s.claims.length < 24 := by omega
          split
          · next vacant =>
            exact (law.create room' (held := true) _ _ first (fun _ => vacant) nofun).part (claimPart_ownerChange ..)
          · next holder =>
            split_ifs with _ queue
            · exact law
            · exact law
            · exact law.create room' (held := false) _ _ first nofun fun _ => ⟨by rw [holder]; rfl, by omega⟩

theorem ClaimLaw.renewBlock (law : ClaimLaw s) (id : Byte) (k : Kiosk) : ClaimLaw (renewBlock id k s).1 := by
  unfold Machine.renewBlock
  repeat' split
  · exact law
  · exact law
  · exact law
  · exact law.renewed _ _

/-- The end of a claim of the table, HELD or WAITING (R58 to R60, R62, R63, R66). -/
theorem ClaimLaw.remove (law : ClaimLaw s) {c : Claim} {id : Nat} (found : claim? s id = some c) :
    (∀ why, c.held = true → why ≠ .resourceGone → ClaimLaw (Machine.removeHeld c why s)) ∧
      ∀ lost, c.held = false → ClaimLaw (Machine.removeWaiting c lost s) := by
  have hc := List.mem_of_find?_eq_some found
  exact ⟨fun why held stays => law.removeHeld hc held stays,
    fun lost free => law.removeWaiting lost fun d hd hid => claim_unique law.1.1 hd hc hid ▸ free⟩

theorem ClaimLaw.releaseBlock (law : ClaimLaw s) (id : Byte) (k : Kiosk) : ClaimLaw (releaseBlock id k s).1 := by
  unfold Machine.releaseBlock
  split
  · exact law
  · next c found =>
    split_ifs with _ held
    · exact law
    · exact (law.remove found).1 .release held nofun
    · exact (law.remove found).2 false (by simpa using held)

theorem ClaimLaw.forceReleaseBlock (law : ClaimLaw s) (id : Byte) : ClaimLaw (forceReleaseBlock id s).1 := by
  unfold Machine.forceReleaseBlock
  split
  · exact law
  · next c found =>
    dsimp only
    split_ifs with held
    · exact (law.remove found).1 .lapse held nofun
    · exact (law.remove found).2 true (by simpa using held)

theorem ClaimLaw.expireLease (law : ClaimLaw s) (id : Byte) : ClaimLaw (expireLease id s) := by
  unfold Machine.expireLease
  split
  · exact law
  · next c found =>
    split_ifs with due
    · exact (law.remove found).1 .lapse ((Bool.and_eq_true ..).mp due).1 nofun
    · exact law

theorem ClaimLaw.expireWait (law : ClaimLaw s) (id : Byte) : ClaimLaw (expireWait id s) := by
  unfold Machine.expireWait
  split
  · exact law
  · next c found =>
    split_ifs with due
    · exact (law.remove found).2 true (by simpa using ((Bool.and_eq_true ..).mp due).1)
    · exact law

/-! ### Zones, CLEAR KIOSK, removed slots and resets -/

theorem ClaimLaw.applyRecord (law : ClaimLaw s) (q : ZoneRecord) : ClaimLaw (applyRecord q s) := by
  unfold Machine.applyRecord applyZone
  cases zoneOf q with
  | none => exact law
  | some p =>
    dsimp only [Option.elim_some]
    repeat' split
    · exact (changeZone_changed law _ _).lawful
    · exact law.part rfl
    · exact (changeZone_changed law _ _).lawful

theorem ClaimLaw.zoneSetBlock (law : ClaimLaw s) (records : List ZoneRecord) :
    ClaimLaw (zoneSetBlock records s).1 := by
  unfold Machine.zoneSetBlock
  split
  · exact law
  · exact forEach_keeps (P := ClaimLaw) (fun q _ _ lt => lt.applyRecord q) law

theorem ClaimLaw.clearZone (law : ClaimLaw s) (z : ZoneIx) : ClaimLaw (clearZone z s) := by
  unfold Machine.clearZone
  split_ifs
  · exact law
  · exact (changeZone_changed law z none).lawful

theorem ClaimLaw.zoneClearBlock (law : ClaimLaw s) (l : List Byte) : ClaimLaw (zoneClearBlock l s).1 := by
  unfold Machine.zoneClearBlock
  split
  · exact law
  · refine forEach_keeps (P := ClaimLaw) (fun b _ t lt => ?_) law
    cases index? 32 b.toNat with
    | none => exact lt
    | some z => exact lt.clearZone z

theorem ClaimLaw.clearKioskBlock (law : ClaimLaw s) (l : Link) (named : Option Byte) :
    ClaimLaw (clearKioskBlock l named s).1 := by
  unfold Machine.clearKioskBlock
  split
  · exact law
  · next k _ =>
    have muted : ClaimLaw (muteKiosk k (Machine.clearClaims k s)) :=
      (law.clearClaims k).part (claimPart_muteContacts ..)
    exact muted.part (by simp [clearAll])

theorem ClaimLaw.removeSlot (law : ClaimLaw s) (i : Slot) (k : UnitKind) : ClaimLaw (removeSlot i k s) := by
  have start : ClaimLaw (orphan i (withdraw i (modUnit i (fun u => { u with reprobe := none }) s))) :=
    law.part (claimPart_withdrawn ..)
  have torn : ClaimLaw (tearDownRemoved i k
      (orphan i (withdraw i (modUnit i (fun u => { u with reprobe := none }) s)))) := by
    unfold tearDownRemoved
    cases k with
    | printer => exact start.part (claimPart_printerRemoved ..)
    | scanner => exact (start.part (claimPart_scannerGone i _)).removeResource _
    | panel =>
      refine forEach_keeps (P := ClaimLaw) (fun z _ u lu => ?_) (start.part (claimPart_panelGone i _))
      unfold clearZoneOf
      split_ifs
      · exact lu.clearZone z
      · exact lu
  refine torn.part ?_
  simp only [Machine.removeSlot, claimPart_latchAll, claimPart_modAttn, claimPart_modUnit, claimPart_freshEngines]

theorem ClaimLaw.unitRemoveBlock (law : ClaimLaw s) (slot : Byte) : ClaimLaw (unitRemoveBlock slot s).1 := by
  unfold Machine.unitRemoveBlock
  repeat' split
  · exact law
  · exact law
  · exact law.removeSlot _ _

theorem claimLaw_reset : ClaimLaw State.reset := by
  simp [ClaimLaw, ClaimIdLaw, State.reset, waitQueue]

theorem claimLaw_fullReset (s : State) : ClaimLaw (fullReset s) := claimLaw_reset.part rfl

theorem ClaimLaw.resetBlock (law : ClaimLaw s) (kind : Byte) (r : ReqSlot) : ClaimLaw (resetBlock kind r s).1 := by
  unfold Machine.resetBlock
  split_ifs
  · exact claimLaw_fullReset s
  · exact claimLaw_reset.part rfl
  · exact law

/-! ### The requests -/

theorem claimPart_holdSlot (a : Arrival) (r : ReqSlot) (s : State) : claimPart (holdSlot a r s) = claimPart s := rfl

/-- A request changes the claims by its block alone, when it reaches it (R186, R187). -/
theorem arrive_cases (a : Arrival) (block : ReqSlot → State → State × BlockAnswer) (s : State) :
    claimPart (arrive a block s) = claimPart s ∨
      ∃ r, claimPart (arrive a block s) = claimPart (block r (holdSlot a r s)).1 := by
  unfold arrive dispatch
  split_ifs
  · exact .inl rfl
  · exact .inl rfl
  · split
    · exact .inl rfl
    · next r _ =>
      split
      · exact .inl (claimPart_queueReply ..)
      · refine .inr ⟨r, ?_⟩
        split
        · next answered => rw [answered, claimPart_queueReply]
        · next answered => rw [answered]

theorem ClaimLaw.arrive (law : ClaimLaw s) (a : Arrival) {block : ReqSlot → State → State × BlockAnswer}
    (hb : ∀ r t, ClaimLaw t → ClaimLaw (block r t).1) : ClaimLaw (arrive a block s) := by
  obtain same | ⟨r, same⟩ := arrive_cases a block s
  · exact law.part same
  · exact (hb r _ (law.part (claimPart_holdSlot a r s))).part same

theorem ClaimLaw.forKiosk {l : Link} {f : Kiosk → State → State × List Byte} (law : ClaimLaw s)
    (hf : ∀ k, ClaimLaw (f k s).1) : ClaimLaw (forKiosk l f s).1 := by
  unfold Machine.forKiosk
  split
  · exact hf _
  · exact law

theorem ClaimLaw.blockOf (law : ClaimLaw s) (kind : ReqKind) (l : Link) (p : List Byte) (r : ReqSlot) :
    ClaimLaw (blockOf kind l p r s).1 := by
  cases kind with
  | clearKiosk => exact law.clearKioskBlock l _
  | reset => exact law.resetBlock _ r
  | zoneSet => exact law.zoneSetBlock _
  | zoneClear => exact law.zoneClearBlock _
  | claim => exact law.forKiosk fun k => law.claimBlock _ _ _ _ k
  | renew => exact law.forKiosk fun k => law.renewBlock _ k
  | release => exact law.forKiosk fun k => law.releaseBlock _ k
  | forceRelease => exact law.forceReleaseBlock _
  | unitRemove => exact law.unitRemoveBlock _
  | _ => -- the blocks of the other kinds leave the claims alone
    exact law.part (by simp [Machine.blockOf])

/-! ### The commands -/

theorem ClaimLaw.event {t : State} (law : ClaimLaw t) : Answers ClaimLaw (.next (settle t)) := by
  rintro u ⟨⟩
  exact law.part (claimPart_settle t)

theorem ClaimLaw.request (law : ClaimLaw s) (a : Arrival) {block : ReqSlot → State → State × BlockAnswer}
    (hb : ∀ r t, ClaimLaw t → ClaimLaw (block r t).1) : Answers ClaimLaw (request a block s) :=
  (law.arrive a hb).event

/-- A request whose block leaves the claims alone. -/
theorem ClaimLaw.otherRequest (law : ClaimLaw s) (a : Arrival) {block : ReqSlot → State → State × BlockAnswer}
    (hb : ∀ r t, claimPart (block r t).1 = claimPart t) : Answers ClaimLaw (Machine.request a block s) :=
  law.request a fun r t lt => lt.part (hb r t)

/-- A request of the claims that a kiosk alone may send. -/
theorem ClaimLaw.kioskRequest {l : Link} {f : Kiosk → State → State × List Byte} (law : ClaimLaw s) (a : Arrival)
    (hf : ∀ k t, ClaimLaw t → ClaimLaw (f k t).1) :
    Answers ClaimLaw (Machine.request a (atOnce (Machine.forKiosk l f)) s) :=
  law.request a fun _ t lt => lt.forKiosk fun k => hf k t lt

theorem ClaimLaw.byteReceived (law : ClaimLaw s) (l : Link) (b : Byte) : ClaimLaw (byteReceived l b s) := by
  have arrived (code tag : Byte) (p : List Byte) {t : State} (lt : ClaimLaw t) :
      ClaimLaw (frameArrived l code tag p t) := by
    unfold frameArrived
    split
    · exact lt.arrive _ fun _ _ lu => lu
    · exact lt.arrive _ fun r _ lu => lu.blockOf _ l p r
  have moved (rc : Receiver) : ClaimLaw (setReceiver l rc s) := law.part rfl
  unfold Machine.byteReceived
  split_ifs
  · unfold receive
    repeat' split
    · exact moved _
    · exact law
    · exact law.part rfl
    · exact moved _
    · exact moved _
    · unfold frameEnded
      dsimp only
      split_ifs
      · exact arrived _ _ _ (moved _)
      · exact law.part rfl
  · exact law

theorem ClaimLaw.exec (law : ClaimLaw s) (i : Instr) : Answers ClaimLaw (exec i s) := by
  have same {t : State} (h : claimPart t = claimPart s) : Answers ClaimLaw (.next (settle t)) := (law.part h).event
  cases i with
  | powerOn => exact (claimLaw_reset.part rfl).event (t := powerUp s)
  | resetPinAssert => exact (claimLaw_reset.part rfl).event (t := assertReset s)
  | fullResetComplete => exact same (claimPart_finishFull s)
  | softResetComplete => exact same (claimPart_finishSoft s)
  | resetFull => exact law.request _ fun r _ lt => lt.resetBlock 2 r
  | resetSoft => exact law.request _ fun r _ lt => lt.resetBlock 1 r
  | linkByteReceived l b => exact (law.byteReceived l b).event
  | characterError l => exact same (claimPart_characterFault l s)
  | transmitEnd l => exact same (claimPart_frameSent l s)
  | clearKiosk l _ named => exact law.request _ fun _ _ lt => lt.clearKioskBlock l named
  | zoneSet _ _ records => exact law.request _ fun _ _ lt => lt.zoneSetBlock records
  | zoneClear _ _ list => exact law.request _ fun _ _ lt => lt.zoneClearBlock list
  | claim => exact law.kioskRequest _ fun k _ lt => lt.claimBlock _ _ _ _ k
  | renew _ _ id => exact law.kioskRequest _ fun k _ lt => lt.renewBlock id k
  | release _ _ id => exact law.kioskRequest _ fun k _ lt => lt.releaseBlock id k
  | forceRelease _ _ id => exact law.request _ fun _ _ lt => lt.forceReleaseBlock id
  | leaseExpiry id => exact (law.expireLease id).event
  | waitLimitExpiry id => exact (law.expireWait id).event
  | unitRemove _ _ slot => exact law.request _ fun _ _ lt => lt.unitRemoveBlock slot
  | fillStallExpiry id => exact same (claimPart_expireFill id s)
  | reprobeTimerExpiry i => exact same (claimPart_expireReprobe i s)
  | attnLineChange i high => exact same (claimPart_attentionChange i high s)
  | busRawComplete a => exact same (claimPart_completeRaw a s)
  | stallTimerExpiry sent received => exact same (claimPart_expireStall sent received s)
  | releaseSequenceEnd => exact same (claimPart_endRelease s)
  | releaseWaitTimeout => exact same (claimPart_giveUpRelease s)
  | markStartComplete | creditReadComplete | feedComplete | markEndComplete | pstateReadComplete | markAbortComplete
  | ssetComplete | sgoComplete | availReadComplete | pullComplete | sstateReadComplete | shaltComplete
  | pingComplete | restartComplete | identComplete | causePollComplete | contactsReadComplete =>
    exact same (claimPart_complete ..)
  | _ => -- the blocks of the other requests leave the claims alone
    exact law.otherRequest _ (by simp)

theorem ClaimLaw.tick (law : ClaimLaw s) : ClaimLaw (tick s) := by
  unfold Machine.tick
  split_ifs
  · exact law
  · exact law.part rfl
  · exact (law.part (claimPart_settle s)).part rfl

end Sys2Proof.Machine

open Sys2Proof Sys2Proof.Machine

/-- Settles O5: a claim is created apart from the others and behind a holder, and a removal of a HELD claim grants the
resource to the head of its queue or takes the waiters too. -/
theorem claimTableLawful : Obligations.ClaimTableLawful := by
  intro s t law hstep
  unfold step at hstep
  split at hstep
  · cases hstep
    exact law.tick
  · next c rest _ =>
    have front : ClaimLaw { s with pending := rest } := law.part rfl
    exact front.exec c t hstep

end

section
/-!
PROOFS. The search for an id (R51, R78): the numbers it tries, in their order, and that it stops at the first one
unused.
-/

namespace Sys2Proof.Machine

/-- Up to the last id the search tries the numbers in their order. -/
theorem triedId_ahead {last v j : Nat} (low : 1 ≤ v) (before : v + j ≤ last) : triedId last v j = v + j := by
  unfold triedId
  rw [Nat.mod_eq_of_lt (by omega)]
  omega

/-- After the last id it goes on from 1. -/
theorem triedId_wrapped {last v j : Nat} (low : 1 ≤ v) (beyond : last < v + j) (once : v + j ≤ 2 * last) :
    triedId last v j = v + j - last := by
  unfold triedId
  rw [Nat.mod_eq_sub_mod (by omega), Nat.mod_eq_of_lt (by omega)]
  omega

/-- The search ends at a number that it tries, and every number it tried before is used. -/
theorem freshId_tried {used : Nat → Bool} {last : Nat} (k : Nat) {v : Nat} (low : 1 ≤ v) (high : v ≤ last) :
    ∃ m ≤ k, freshId used last k v = triedId last v m ∧ ∀ j < m, used (triedId last v j) = true := by
  induction k generalizing v with
  | zero => exact ⟨0, le_rfl, (triedId_zero low high).symm, nofun⟩
  | succ k ih =>
    obtain ⟨low', high'⟩ := nextId_range low high
    rw [freshId_succ]
    split_ifs with taken
    · obtain ⟨m, few, found, tried⟩ := ih low' high'
      refine ⟨m + 1, by omega, by rw [found, triedId_next low], fun j hj => ?_⟩
      cases j with
      | zero => rwa [triedId_zero low high]
      | succ j => rw [← triedId_next low]; exact tried j (by omega)
    · exact ⟨0, by omega, (triedId_zero low high).symm, nofun⟩

/-- Every number from v on that the search passes over is used. -/
theorem freshId_first {used : Nat → Bool} {last k v id : Nat} (low : 1 ≤ v) (high : v ≤ last) (few : k ≤ last)
    (found : freshId used last k v = id) :
    (v ≤ id → ∀ x, v ≤ x → x < id → used x = true) ∧
      (id < v → (∀ x, v ≤ x → x ≤ last → used x = true) ∧ ∀ x, 1 ≤ x → x < id → used x = true) := by
  obtain ⟨-, highId⟩ := found ▸ freshId_range (used := used) k low high
  obtain ⟨m, most, here, tried⟩ := freshId_tried (used := used) k low high
  rw [found] at here
  have ahead {x : Nat} (above : v ≤ x) (below : x ≤ last) (before : x - v < m) : used x = true := by
    have number : triedId last v (x - v) = x := (triedId_ahead low (by omega)).trans (by omega)
    exact number ▸ tried _ before
  have stop (short : v + m ≤ last) : id = v + m := here.trans (triedId_ahead low short)
  have wrap (long : last < v + m) : id = v + m - last := here.trans (triedId_wrapped low long (by omega))
  refine ⟨fun _ x above before => ahead above (by omega) (by omega), fun passed =>
    ⟨fun x above below => ahead above below (by omega), fun x positive before => ?_⟩⟩
  have number : triedId last v (last - v + x) = x := (triedId_wrapped low (by omega) (by omega)).trans (by omega)
  exact number ▸ tried _ (by omega)

end Sys2Proof.Machine

open Sys2Proof Sys2Proof.Machine

/-- Settles O31: the search ends at the first unused number it tries, and one of the numbers it tries is unused. -/
theorem freshIds : Obligations.FreshIds := by
  intro ids last v room low high
  refine ⟨_, rfl, ?_⟩
  obtain ⟨lowId, highId⟩ := freshId_range (used := fun x => decide (x ∈ ids)) (ids.length + 1) low high
  obtain ⟨j, hj, unused⟩ := triedId_unused ids v room
  have free := freshId_unused (used := fun x => decide (x ∈ ids)) (ids.length + 1) low high
    ⟨j, hj, by simpa using unused⟩
  obtain ⟨upward, round⟩ := freshId_first (used := fun x => decide (x ∈ ids)) low high room rfl
  simp only [decide_eq_true_eq, decide_eq_false_iff_not] at free upward round
  exact ⟨free, lowId, highId, upward, round, nextId_range lowId highId⟩

end

section
/-!
PROOFS. The requests and expiries of the claims (R54 to R66): the outline of a kiosk's request, and each case of CLAIM,
RENEW, RELEASE, FORCE RELEASE and the two expiries as an equation of its block.
-/

namespace Sys2Proof.Machine

/-! ### The outline of a kiosk's request (R187) -/

section
variable {s t : State} {l : Link} {r : ReqSlot} {k : Kiosk} {q : ReqKind} {tag : Byte} {p : List Byte}
  {f : Kiosk → State → State × List Byte}

/-- A request of a fixed length that kiosks alone may send is DENIED on S (R187 check 2). -/
theorem kioskRequest_onService (free : Takes s serviceLink r) (kiosks : q.access = .kioskOnly)
    {block : ReqSlot → State → State × BlockAnswer} : request (fixed serviceLink tag q) block s =
      .next (answered serviceLink r (reply .denied [2]) (taken serviceLink r q tag s)) :=
  request_denied free (fixedLength_le ..) (by simp [deniedOn, kiosks])

/-- A request that maintenance holds back is DENIED to a kiosk in maintenance (R187 check 4). -/
theorem kioskRequest_inMaintenance (free : Takes s l r) (on : OnKiosk l k) (kiosks : q.access = .kioskOnly)
    (back : q.heldBack = true) (maintenance : (s.kiosks[k]).maintenance = true)
    {block : ReqSlot → State → State × BlockAnswer} : request (fixed l tag q) block s =
      .next (answered l r (reply .denied [4]) (taken l r q tag s)) := by
  have held : (inMaintenance s l && q.heldBack) = true := by
    rw [inMaintenance, on, Option.any_some, maintenance, back, Bool.and_self]
  exact request_maintenance free (fixedLength_le ..) (on.allowed (by simp [kiosks])) rfl held

/-- A kiosk's request that passes the checks is answered by its block (R187, R188). -/
theorem kioskRequest_answered (free : Takes s l r) (on : OnKiosk l k) (kiosks : q.access = .kioskOnly)
    (passes : (s.kiosks[k]).maintenance = false ∨ q.heldBack = false) (block : f k (taken l r q tag s) = (t, p)) :
    request (fixed l tag q) (atOnce (forKiosk l f)) s = .next (answered l r p t) := by
  have served : (inMaintenance s l && q.heldBack) = false := by
    rw [inMaintenance, on, Option.any_some]
    obtain normal | free := passes
    · rw [normal, Bool.false_and]
    · rw [free, Bool.and_false]
  exact request_now free (fixedLength_le ..) (on.allowed (by simp [kiosks])) rfl served
    (by rw [atOnce, forKiosk_on on, block])

end

/-! ### Resources (R49) -/

theorem scannerExists_iff (s : State) (i : Slot) : resourceExists s (.scanner i) = true ↔
    ∃ d, (s.units[i]).definition = some d ∧ d.kind = .scanner := by
  simp only [resourceExists, definedKind, decide_eq_true_eq, Option.map_eq_some_iff]

theorem zoneExists_iff (s : State) (z : ZoneIx) : resourceExists s (.zone z) = true ↔
    ∃ e, s.zones[z] = some e ∧ e.home = none := by
  simp only [resourceExists, claimableZone, Option.any_eq_true, Option.isNone_iff_eq_none]

theorem byte_of_index {n : Nat} {i : Fin n} (small : n ≤ 256) {b : Byte} :
    b = BitVec.ofNat 8 i.val ↔ b.toNat = i.val := by
  have fits : (BitVec.ofNat 8 i.val).toNat = i.val := by simp; omega
  rw [← BitVec.toNat_inj, fits]

/-- A kind and a number name the resource that has them as its code (11.3). -/
theorem resource_eq_some {kind number : Byte} {x : Resource} :
    resource? kind number = some (some x) ↔ x.code = [kind, number] := by
  unfold resource?
  cases x with
  | scanner i =>
    have code : (Resource.scanner i).code = [kind, number] ↔ kind = 1 ∧ number = BitVec.ofNat 8 i.val := by
      simp [Resource.code, u8, eq_comm]
    rw [code, byte_of_index (by decide)]
    split_ifs with h1 h2
    · simp [h1, index_eq_some]
    · exact iff_of_false (by simp) fun h => h1 h.1
    · exact iff_of_false nofun fun h => h1 h.1
  | zone z =>
    have code : (Resource.zone z).code = [kind, number] ↔ kind = 2 ∧ number = BitVec.ofNat 8 z.val := by
      simp [Resource.code, u8, eq_comm]
    rw [code, byte_of_index (by decide)]
    split_ifs with h1 h2
    · exact iff_of_false (by simp) fun h => absurd (h1.symm.trans h.1) (by decide)
    · simp [h2, index_eq_some]
    · exact iff_of_false nofun fun h => h2 h.1

theorem resource_eq_none {kind number : Byte} : resource? kind number = none ↔ kind ≠ 1 ∧ kind ≠ 2 := by
  unfold resource?
  split_ifs <;> simp_all

/-! ### CLAIM (R54) -/

section
variable {s : State} {k : Kiosk} {kind number : Byte} {lease wait : Word}

theorem claimBlock_badArg (h : kind ≠ 1 ∧ kind ≠ 2) :
    claimBlock kind number lease wait k s = (s, reply .badArg []) := by
  simp only [claimBlock, resource_eq_none.mpr h]

theorem claimBlock_noSuch (known : kind = 1 ∨ kind = 2)
    (absent : ∀ x : Resource, x.code = [kind, number] → resourceExists s x = false) :
    claimBlock kind number lease wait k s = (s, reply .noSuch []) := by
  cases h : resource? kind number with
  | none => exact absurd known (by simpa [not_or] using resource_eq_none.mp h)
  | some named =>
    cases named with
    | none => simp only [claimBlock, h]
    | some x => simp only [claimBlock, h, absent x (resource_eq_some.mp h), Bool.not_false, if_true]

variable {x : Resource} (code : x.code = [kind, number]) (present : resourceExists s x = true)
include code present

theorem claimBlock_badState {c : Claim} (own : claimOf? s k x = some c) :
    claimBlock kind number lease wait k s = (s, reply .badState (u8 c.id ++ u8 (if c.held then 2 else 1))) := by
  simp only [claimBlock, resource_eq_some.mpr code, present, own, Claim.stateCode, Bool.not_true, Bool.false_eq_true,
    if_false]

variable (first : claimOf? s k x = none)
include first

theorem claimBlock_tableFull (full : 24 ≤ s.claims.length) :
    claimBlock kind number lease wait k s = (s, reply .full [1]) := by
  simp only [claimBlock, resource_eq_some.mpr code, present, first, full, Bool.not_true, Bool.false_eq_true, if_false,
    if_true]
  rfl

variable (room : s.claims.length < 24)
include room

theorem claimBlock_held (vacant : holder? s x = none) : claimBlock kind number lease wait k s =
    (ownerChange x true (createClaim k x true (clampLease lease) (clampWait wait) s).2,
      reply .ok (u8 (drawnId s) ++ u32n (clampLease lease))) := by
  simp only [claimBlock, resource_eq_some.mpr code, present, first, vacant, createClaim_eq, Nat.not_le.mpr room,
    Bool.not_true, Bool.false_eq_true, if_false, if_true]

variable (behind : holder? s x ≠ none)
include behind

/-- Behind a holder a CLAIM is refused or waits (R54). -/
theorem claimBlock_behind : claimBlock kind number lease wait k s =
    if clampWait wait = 0 then (s, reply .busy [0])
    else if 4 ≤ (waitQueue s x).length then (s, reply .full [2])
    else ((createClaim k x false (clampLease lease) (clampWait wait) s).2,
      reply .queued (u8 (drawnId s) ++ u32n (clampLease lease) ++ u16n (clampWait wait) ++
        u8 (waitQueue (createClaim k x false (clampLease lease) (clampWait wait) s).2 x).length)) := by
  obtain ⟨h, holder⟩ := Option.ne_none_iff_exists'.mp behind
  simp only [claimBlock, resource_eq_some.mpr code, present, first, holder, Nat.not_le.mpr room, Bool.not_true,
    Bool.false_eq_true, if_false]
  rfl

end

theorem clampWait_eq_zero {w : Word} : clampWait w = 0 ↔ w = 0 := by
  rw [show w = 0 ↔ w.toNat = 0 from BitVec.toNat_inj.symm, clampWait]
  omega

end Sys2Proof.Machine

open Sys2Proof Sys2Proof.Machine

/-- Settles O40: CLAIM on S and in maintenance is stopped by the checks of a request; every other case is one of its
block. -/
theorem claimCases : Obligations.ClaimCases := by
  refine ⟨fun s r tag kind number lease wait free => kioskRequest_onService free rfl,
    fun s => ⟨scannerExists_iff s, zoneExists_iff s⟩, fun s l r k tag kind number lease wait free on => ?_⟩
  refine ⟨fun maintenance => kioskRequest_inMaintenance free on rfl rfl maintenance, fun normal => ?_⟩
  have answer {t : State} {p : List Byte}
      (block : claimBlock kind number lease wait k (taken l r .claim tag s) = (t, p)) :
      exec (.claim l tag kind number lease wait) s = .next (answered l r p t) :=
    kioskRequest_answered free on rfl (.inl normal) block
  refine ⟨fun h => answer (claimBlock_badArg h), fun known absent => answer (claimBlock_noSuch known absent),
    fun x code exists_ => ?_⟩
  have present : resourceExists (taken l r .claim tag s) x = true := exists_
  refine ⟨fun c own => answer (claimBlock_badState code present own),
    fun first full => answer (claimBlock_tableFull code present first full), ?_⟩
  rintro first room id rfl
  have behind := claimBlock_behind (lease := lease) (wait := wait) code present first room
  refine ⟨fun vacant => answer (claimBlock_held code present first room vacant), fun holder zero => ?_,
    fun holder waits full => ?_, fun holder waits short law => ?_⟩
  · exact answer ((behind holder).trans (if_pos (clampWait_eq_zero.mpr zero)))
  · exact answer ((behind holder).trans ((if_neg (clampWait_eq_zero.not.mpr waits)).trans (if_pos full)))
  · have law' : ClaimLaw (taken l r .claim tag s) := law.part rfl
    have queue := waitQueue_create law' room k x x false (clampLease lease) (clampWait wait)
    rw [if_pos ⟨rfl, rfl⟩] at queue
    have block := (behind holder).trans
      ((if_neg (clampWait_eq_zero.not.mpr waits)).trans (if_neg (Nat.not_le.mpr short)))
    rw [queue, List.length_append] at block
    exact answer block

end

section
/-!
PROOFS. RENEW, RELEASE, FORCE RELEASE and the two expiries (R57 to R59, R62, R63, R66), each case as an equation of its
block.
-/

namespace Sys2Proof.Machine

section
variable {s : State} {id : Byte} {k : Kiosk}

/-! ### An id that names no claim -/

section
variable (absent : claim? s id.toNat = none)
include absent

theorem renewBlock_noSuch : renewBlock id k s = (s, reply .noSuch []) := by
  simp only [renewBlock, absent]

theorem releaseBlock_noSuch : releaseBlock id k s = (s, reply .noSuch []) := by
  simp only [releaseBlock, absent]

theorem forceReleaseBlock_noSuch : forceReleaseBlock id s = (s, reply .noSuch []) := by
  simp only [forceReleaseBlock, absent]

end

/-! ### A claim of the table -/

variable {c : Claim} (found : claim? s id.toNat = some c)
include found

theorem renewBlock_notYours (other : c.kiosk ≠ k) : renewBlock id k s = (s, reply .notYours []) := by
  simp only [renewBlock, found, if_pos other]

theorem releaseBlock_notYours (other : c.kiosk ≠ k) : releaseBlock id k s = (s, reply .notYours []) := by
  simp only [releaseBlock, found, if_pos other]

theorem renewBlock_held (own : c.kiosk = k) (held : c.held = true) : renewBlock id k s =
    (modClaim c.id (fun c' => { c' with expiry := after s.hubTime c.lease }) s,
      reply .ok (u32 (after s.hubTime c.lease))) := by
  simp only [renewBlock, found, own, held, ne_eq, not_true_eq_false, Bool.not_true, Bool.false_eq_true, if_false]

theorem renewBlock_waiting (own : c.kiosk = k) (waits : c.held = false) :
    renewBlock id k s = (s, reply .badState [1]) := by
  simp only [renewBlock, found, own, waits, Claim.stateCode, ne_eq, not_true_eq_false, Bool.not_false,
    Bool.false_eq_true, if_false, if_true]
  rfl

theorem releaseBlock_held (own : c.kiosk = k) (held : c.held = true) :
    releaseBlock id k s = (removeHeld c .release s, reply .ok []) := by
  simp only [releaseBlock, found, own, held, ne_eq, not_true_eq_false, if_false, if_true]

theorem releaseBlock_waiting (own : c.kiosk = k) (waits : c.held = false) :
    releaseBlock id k s = (dropClaim c.id s, reply .ok []) := by
  simp only [releaseBlock, found, own, waits, ne_eq, not_true_eq_false, Bool.false_eq_true, if_false]
  rfl

theorem forceReleaseBlock_held (held : c.held = true) :
    forceReleaseBlock id s = (removeHeld c .lapse s, reply .ok (u8 c.kiosk.val ++ [2])) := by
  simp only [forceReleaseBlock, found, held, Claim.stateCode, if_true]
  rfl

theorem forceReleaseBlock_waiting (waits : c.held = false) :
    forceReleaseBlock id s = (removeWaiting c true s, reply .ok (u8 c.kiosk.val ++ [1])) := by
  simp only [forceReleaseBlock, found, waits, Claim.stateCode, Bool.false_eq_true, if_false]
  rfl

/-- A lease that has expired lapses (R62). -/
theorem expireLease_found : expireLease id s =
    if c.held && reached s.hubTime c.expiry then removeHeld c .lapse s else s := by
  simp only [expireLease, found]

/-- A wait limit that has expired lapses (R63). -/
theorem expireWait_found : expireWait id s =
    if !c.held && reached s.hubTime c.expiry then removeWaiting c true s else s := by
  simp only [expireWait, found]

end

/-- An expiry that is not due changes nothing (notes/assumptions/4.md). -/
theorem expiries_idle {s : State} {id : Byte}
    (idle : claim? s id.toNat = none ∨ ∃ c, claim? s id.toNat = some c ∧ reached s.hubTime c.expiry = false) :
    expireLease id s = s ∧ expireWait id s = s := by
  obtain absent | ⟨c, found, early⟩ := idle
  · simp only [expireLease, expireWait, absent, and_self]
  · rw [expireLease_found found, expireWait_found found, early, Bool.and_false, Bool.and_false]
    exact ⟨rfl, rfl⟩

/-- A WAITING claim that lapses leaves its queue with CLAIM_LOST (R63). -/
theorem removeWaiting_lost (c : Claim) (s : State) : removeWaiting c true s =
    { s with
      claims := s.claims.filter fun d => d.id ≠ c.id
      waits := s.waits.filter fun x => x ≠ c.id
      notices := upd s.notices c.kiosk fun n => { n with pending := n.pending ||| 0x004#12 } } := rfl

end Sys2Proof.Machine

open Sys2Proof Sys2Proof.Machine

/-- Settles O41: each request is answered by its block, and an expiry is the end of its event. -/
theorem claimCommands : Obligations.ClaimCommands := by
  refine ⟨fun s l r k tag id free on => ?_, fun s r tag id free => ?_,
    fun s id => ⟨fun c found due => ?_, fun idle => ?_⟩⟩
  case refine_1 =>
    have renew {t : State} {p : List Byte} (block : renewBlock id k (taken l r .renew tag s) = (t, p)) :
        exec (.renew l tag id) s = .next (answered l r p t) := kioskRequest_answered free on rfl (.inr rfl) block
    have release {t : State} {p : List Byte} (block : releaseBlock id k (taken l r .release tag s) = (t, p)) :
        exec (.release l tag id) s = .next (answered l r p t) := kioskRequest_answered free on rfl (.inr rfl) block
    refine ⟨fun absent => ⟨renew (renewBlock_noSuch absent), release (releaseBlock_noSuch absent)⟩, fun c found =>
      ⟨fun other => ⟨renew (renewBlock_notYours found other), release (releaseBlock_notYours found other)⟩,
        fun own held => ⟨renew (renewBlock_held found own held), release (releaseBlock_held found own held)⟩,
        fun own waits => ⟨renew (renewBlock_waiting found own waits), release (releaseBlock_waiting found own waits)⟩⟩⟩
  case refine_2 =>
    have force {t : State} {p : List Byte}
        (block : forceReleaseBlock id (taken serviceLink r .forceRelease tag s) = (t, p)) :
        exec (.forceRelease serviceLink tag id) s = .next (answered serviceLink r p t) :=
      request_now free (fixedLength_le ..) rfl rfl rfl (by rw [atOnce, block])
    exact ⟨fun absent => force (forceReleaseBlock_noSuch absent), fun c found =>
      ⟨fun held => force (forceReleaseBlock_held found held),
        fun waits => force (forceReleaseBlock_waiting found waits)⟩⟩
  case refine_3 =>
    have ends {i : Instr} {t u : State} (h : exec i s = .next (settle t)) (same : t = u) :
        exec i s = .next (settle u) := same ▸ h
    have lease := expireLease_found found
    have wait := expireWait_found found
    rw [due, Bool.and_true] at lease wait
    refine ⟨fun held => ⟨ends rfl (lease.trans (if_pos held)), ends rfl (wait.trans (by simp [held]))⟩,
      fun waits => ⟨ends rfl (lease.trans (by simp [waits])),
        ends rfl (wait.trans (by simp [waits, removeWaiting_lost]))⟩⟩
  case refine_4 =>
    obtain ⟨lease, wait⟩ := expiries_idle idle
    exact ⟨congrArg (fun t => Host.Outcome.next (settle t)) lease,
      congrArg (fun t => Host.Outcome.next (settle t)) wait⟩

end

section
/-!
PROOFS. What a HELD claim leaves when it ends (R60, R130): the record of the scan whose owner claim it was, and the
notices before its resource is granted again.
-/

namespace Sys2Proof.Machine

variable {s : State} {c : Claim}

/-! ### The end of a scan's owner claim (R130) -/

/-- The scan fails when its owner claim lapses: it is active, or it is halting as cancelled (R130). -/
def ScanRecord.failsAtLapse (r : ScanRecord) : Bool :=
  r.state.active || decide (r.state = .halting) && decide (r.haltOutcome = some .cancelled)

/-- The record of a scan once its owner claim has ended, by a lapse or otherwise (R130). -/
def ScanRecord.ownerEnded (lapse : Bool) (r : ScanRecord) : ScanRecord :=
  if r.state.active then
    { r with ownerClaim := none, state := .halting, haltOwed := true
             haltOutcome := some (if lapse then .lapsed else .cancelled) }
  else if lapse && r.failsAtLapse then { r with ownerClaim := none, haltOutcome := some .lapsed }
  else { r with ownerClaim := none }

section
variable {r : ScanRecord} {lapse : Bool}

theorem ScanRecord.ownerEnded_active (active : r.state.active = true) : r.ownerEnded lapse =
    { r with ownerClaim := none, state := .halting, haltOwed := true
             haltOutcome := some (if lapse then .lapsed else .cancelled) } := if_pos active

theorem ScanRecord.ownerEnded_failing (idle : ¬r.state.active = true) (fails : (lapse && r.failsAtLapse) = true) :
    r.ownerEnded lapse = { r with ownerClaim := none, haltOutcome := some .lapsed } :=
  (if_neg idle).trans (if_pos fails)

theorem ScanRecord.ownerEnded_other (idle : ¬r.state.active = true) (fine : ¬(lapse && r.failsAtLapse) = true) :
    r.ownerEnded lapse = { r with ownerClaim := none } := (if_neg idle).trans (if_neg fine)

theorem ScanRecord.failsAtLapse_active (active : r.state.active = true) : r.failsAtLapse = true := by
  rw [failsAtLapse, active, Bool.true_or]

theorem ScanRecord.failsAtLapse_idle (idle : ¬r.state.active = true) : r.failsAtLapse =
    (decide (r.state = .halting) && decide (r.haltOutcome = some .cancelled)) := by
  rw [failsAtLapse, Bool.eq_false_of_not_eq_true idle, Bool.false_or]

end

theorem modScan_modScan (i : Slot) (f g : ScanRecord → ScanRecord) (s : State) :
    modScan i g (modScan i f s) = modScan i (fun r => g (f r)) s := by
  simp only [modScan, upd_upd]

theorem modScan_congr {i : Slot} {f g : ScanRecord → ScanRecord} (h : f s.scans[i] = g s.scans[i]) :
    modScan i f s = modScan i g s := by
  unfold modScan upd
  rw [h]

theorem scanClaimEnd_eq (i : Slot) (lapse : Bool) (s : State) : scanClaimEnd i lapse s =
    latch? (if lapse && (s.scans[i]).failsAtLapse then (s.scans[i]).kiosk else none) .scanFailed
      (modScan i (ScanRecord.ownerEnded lapse) s) := by
  unfold scanClaimEnd
  by_cases active : (s.scans[i]).state.active = true
  · rw [ScanRecord.failsAtLapse_active active, Bool.and_true, modScan_congr (f := ScanRecord.ownerEnded lapse)
      (g := fun r => { r with ownerClaim := none, state := .halting, haltOwed := true
                              haltOutcome := some (if lapse then .lapsed else .cancelled) })
      (ScanRecord.ownerEnded_active active)]
    cases lapse <;> simp only [active, haltScan, modScan_modScan, if_true, Bool.false_eq_true, if_false]
    rfl
  · dsimp only
    rw [if_neg active, Bool.and_assoc, ← ScanRecord.failsAtLapse_idle active]
    split_ifs with fails
    · rw [modScan_modScan, modScan_congr (f := ScanRecord.ownerEnded lapse)
        (g := fun r => { r with ownerClaim := none, haltOutcome := some .lapsed })
        (ScanRecord.ownerEnded_failing active fails)]
    · rw [modScan_congr (f := ScanRecord.ownerEnded lapse) (g := fun r => { r with ownerClaim := none })
        (ScanRecord.ownerEnded_other active fails)]
      rfl

theorem tellScan_zone {z : ZoneIx} (hz : c.resource = .zone z) (lapse : Bool) (s : State) : tellScan c lapse s = s := by
  simp only [tellScan, hz]

theorem tellScan_other {i : Slot} (hi : c.resource = .scanner i) (other : (s.scans[i]).ownerClaim ≠ some c.id)
    (lapse : Bool) : tellScan c lapse s = s := by
  simp only [tellScan, hi, if_neg other]

theorem tellScan_owner {i : Slot} (hi : c.resource = .scanner i) (owner : (s.scans[i]).ownerClaim = some c.id)
    (lapse : Bool) : tellScan c lapse s =
      latch? (if lapse && (s.scans[i]).failsAtLapse then (s.scans[i]).kiosk else none) .scanFailed
        (modScan i (ScanRecord.ownerEnded lapse) s) := by
  simp only [tellScan, hi, if_pos owner, scanClaimEnd_eq]

theorem latchOpt_eq (k : Option Kiosk) (n : NoticeClass) (s : State) :
    ∃ notices, latch? k n s = { s with notices := notices } := by
  cases k with
  | none => exact ⟨s.notices, rfl⟩
  | some k => exact ⟨_, rfl⟩

/-- Telling the scan changes scan records and notices alone. -/
theorem tellScan_eq (c : Claim) (lapse : Bool) (s : State) :
    ∃ scans notices, tellScan c lapse s = { s with scans := scans, notices := notices } := by
  cases hx : c.resource with
  | zone z => exact ⟨s.scans, s.notices, tellScan_zone hx lapse s⟩
  | scanner i =>
    by_cases owner : (s.scans[i]).ownerClaim = some c.id
    · obtain ⟨notices, h⟩ := latchOpt_eq (if lapse && (s.scans[i]).failsAtLapse then (s.scans[i]).kiosk else none)
        .scanFailed (modScan i (ScanRecord.ownerEnded lapse) s)
      exact ⟨_, notices, (tellScan_owner hx owner lapse).trans h⟩
    · exact ⟨s.scans, s.notices, tellScan_other hx owner lapse⟩

/-- The kiosk k has a scan that fails when the claim lapses (R130). -/
def FailsScanOf (c : Claim) (s : State) (k : Kiosk) : Prop :=
  ∃ i, c.resource = .scanner i ∧ (s.scans[i]).ownerClaim = some c.id ∧ (s.scans[i]).kiosk = some k ∧
    (s.scans[i]).failsAtLapse = true

theorem tellScan_bit (c : Claim) (lapse : Bool) (s : State) (k : Kiosk) (n : Nat) :
    ((tellScan c lapse s).notices[k]).pending.getLsbD n = true ↔
      (s.notices[k]).pending.getLsbD n = true ∨ n = 8 ∧ lapse = true ∧ FailsScanOf c s k := by
  have number : NoticeClass.scanFailed.number = 8 := rfl
  cases hx : c.resource with
  | zone z => simp [tellScan_zone hx, FailsScanOf, hx]
  | scanner i =>
    by_cases owner : (s.scans[i]).ownerClaim = some c.id
    · rw [tellScan_owner hx owner, latchOpt_bit, number]
      simp only [FailsScanOf, hx, Resource.scanner.injEq, exists_eq_left', owner, true_and, modScan_notices,
        Bool.or_eq_true, Bool.and_eq_true, decide_eq_true_eq]
      split_ifs with fails <;> simp_all
    · have no : ¬FailsScanOf c s k := by
        rintro ⟨j, hj, own, -⟩
        cases hx.symm.trans hj
        exact owner own
      simp [tellScan_other hx owner, no]

/-! ### What else a HELD claim leaves (R60) -/

theorem ownerChange_eq (x : Resource) (cancel : Bool) (s : State) :
    ∃ contacts kiosks, ownerChange x cancel s = { s with contacts := contacts, kiosks := kiosks } := by
  cases x with
  | scanner i => exact ⟨s.contacts, s.kiosks, rfl⟩
  | zone z => exact muteZone_eq z cancel s

theorem told_bit (c : Claim) (why : Removal) (s : State) (k : Kiosk) (n : Nat) :
    ((told c why s).notices[k]).pending.getLsbD n = true ↔
      (s.notices[k]).pending.getLsbD n = true ∨ n = 8 ∧ why = .lapse ∧ FailsScanOf c s k := by
  obtain ⟨contacts, kiosks, muted⟩ := ownerChange_eq c.resource (decide (why ≠ .clearKiosk)) (dropClaim c.id s)
  unfold told
  rw [tellScan_bit, muted, decide_eq_true_eq]
  rfl

theorem released_bit (c : Claim) (why : Removal) (s : State) (k : Kiosk) (n : Nat) :
    ((released c why s).notices[k]).pending.getLsbD n = true ↔ (s.notices[k]).pending.getLsbD n = true ∨
      n = 8 ∧ why = .lapse ∧ FailsScanOf c s k ∨ n = 2 ∧ (why = .lapse ∨ why = .resourceGone) ∧ c.kiosk = k := by
  have number : NoticeClass.claimLost.number = 2 := rfl
  unfold released
  split_ifs with lost
  · simp only [latch_bit, Bool.or_eq_true, told_bit, number, Bool.and_eq_true, decide_eq_true_eq, lost, true_and,
      or_assoc]
  · simp only [told_bit, lost, false_and, and_false, or_false]

end Sys2Proof.Machine
end

section
/-!
PROOFS. The removal of a HELD claim, clause by clause: the record and the queue (R60, R61), the contacts of the zone
(R41), the scan (R130) and the notices.
-/

namespace Sys2Proof.Machine

variable {s : State} {c : Claim}

/-! ### The claim table and the queue (R60, R61) -/

theorem claim_granted (id other : Nat) (s : State) : claim? (granted id s) other = (claim? s other).map fun c =>
    if c.id = id then { c with held := true, expiry := after s.hubTime c.lease } else c := by
  have same : (fun c : Claim => decide (c.id = other)) ∘ (fun c : Claim =>
      if c.id = id then { c with held := true, expiry := after s.hubTime c.lease } else c) =
      fun c => decide (c.id = other) := by
    funext c
    simp only [Function.comp_apply]
    split_ifs <;> rfl
  unfold claim? granted modClaim
  rw [List.find?_map, same]

/-- The granted claim has left its queue (R61). -/
theorem waitQueue_granted (id : Nat) (s : State) (x : Resource) :
    waitQueue (granted id s) x = (waitQueue s x).filter fun other => other ≠ id := by
  have waits : (granted id s).waits = s.waits.filter fun other => other ≠ id := rfl
  unfold waitQueue
  rw [waits, List.filter_filter, List.filter_filter]
  refine List.filter_congr fun other _ => ?_
  rw [claim_granted, Option.any_map, Bool.and_comm]
  cases claim? s other with
  | none => rfl
  | some d =>
    simp only [Option.any_some]
    split_ifs <;> rfl

theorem released_hubTime (c : Claim) (why : Removal) (s : State) : (released c why s).hubTime = s.hubTime := by
  obtain ⟨notices, h⟩ := released_told c why s
  obtain ⟨contacts, kiosks, muted⟩ := ownerChange_eq c.resource (decide (why ≠ .clearKiosk)) (dropClaim c.id s)
  obtain ⟨scans, notices', same⟩ := tellScan_eq c (decide (why = .lapse))
    { dropClaim c.id s with contacts := contacts, kiosks := kiosks }
  rw [h, told, muted, same]
  rfl

section
variable (law : ClaimLaw s) (hc : c ∈ s.claims) (held : c.held = true)
include law hc held

theorem removeHeld_gone (why : Removal) : claim? (removeHeld c why s) c.id = none := by
  have dropped : claim? (released c why s) c.id = none := by
    rw [claim_congr (claims_of_part (claimPart_released c why s)), claim_dropClaim, if_pos rfl]
  obtain ⟨-, same⟩ | ⟨-, id, rest, d, -, -, -, same⟩ := removeHeld_cases law why hc held
  · rwa [same]
  · rw [same]
    exact (claim_granted id c.id _).trans (by rw [dropped, Option.map_none])

/-- The head waiter is granted the resource (R61). -/
theorem removeHeld_grants {why : Removal} (stays : why ≠ .resourceGone) {id : Nat} {rest : List Nat}
    (queue : waitQueue s c.resource = id :: rest) : ∃ d, claim? s id = some d ∧
      claim? (removeHeld c why s) id =
        some { d with held := true, expiry := s.hubTime + BitVec.ofNat 32 d.lease } ∧
      waitQueue (removeHeld c why s) c.resource = rest := by
  have same := claimPart_released c why s
  obtain ⟨gone | empty, -⟩ | ⟨-, _, _, d, queue', found, -, eq⟩ := removeHeld_cases law why hc held
  · exact absurd gone stays
  · simp [queue] at empty
  obtain ⟨rfl, rfl⟩ : id = _ ∧ rest = _ := by simpa using queue.symm.trans queue'
  have hid : d.id = id := by simpa using List.find?_some found
  have distinct : (id :: rest).Nodup := queue ▸ law.2.2.1.filter _
  refine ⟨d, found, ?_, ?_⟩
  · have other : id ≠ c.id := by
      rintro rfl
      have waits := (law.spare (spared := fun _ => False).of_queued hc (queue ▸ List.mem_cons_self)).2
      simp [held] at waits
    have left : claim? (released c why s) id = some d := by
      rw [claim_congr (claims_of_part same), claim_dropClaim, if_neg other, found]
    rw [eq]
    refine (claim_granted id id _).trans ?_
    rw [left, Option.map_some, if_pos hid, released_hubTime]
    rfl
  · rw [eq]
    refine (waitQueue_granted id _ _).trans ?_
    rw [waitQueue_congr (claims_of_part same) (waits_of_part same), waitQueue_dropHolder law hc held, queue]
    obtain ⟨notIn, -⟩ := List.nodup_cons.mp distinct
    simpa using fun other ho (e : other = id) => notIn (e ▸ ho)

/-- With no waiter the resource has no holder (R60). -/
theorem removeHeld_vacant (why : Removal) (empty : waitQueue s c.resource = []) :
    holder? (removeHeld c why s) c.resource = none := by
  obtain ⟨-, same⟩ | ⟨-, id, rest, d, queue, -⟩ := removeHeld_cases law why hc held
  · rw [same, holder_congr (claims_of_part (claimPart_released c why s))]
    exact dropClaim_vacant law hc held
  · simp [empty] at queue

end

/-! ### The contacts of a zone (R16, R41) -/

theorem muteZone_silent (z : ZoneIx) (s : State) : (muteZone z false s).kiosks = s.kiosks := by
  refine forEach_keeps (P := fun u => u.kiosks = s.kiosks) (fun n _ u hu => ?_) rfl
  unfold muteEntry
  split
  · exact hu
  · simp only [Bool.false_eq_true, if_false]
    split_ifs
    · exact hu
    · exact hu

theorem told_zone {z : ZoneIx} (hz : c.resource = .zone z) (why : Removal) (s : State) :
    told c why s = muteZone z (decide (why ≠ .clearKiosk)) (dropClaim c.id s) := by
  rw [told, tellScan_zone hz, hz]
  rfl

theorem muteZone_scans (z : ZoneIx) (cancel : Bool) (s : State) : (muteZone z cancel s).scans = s.scans := by
  obtain ⟨contacts, kiosks, h⟩ := muteZone_eq z cancel s
  rw [h]

theorem told_scanner {i : Slot} (hi : c.resource = .scanner i) (why : Removal) (s : State) :
    told c why s = tellScan c (decide (why = .lapse)) (dropClaim c.id s) := by
  rw [told, hi]
  rfl

/-- The scans once a claim on a scanner has ended: the one whose owner claim it is, is told (R130). -/
theorem told_scans {i : Slot} (hi : c.resource = .scanner i) (why : Removal) (s : State) : (told c why s).scans =
    if (s.scans[i]).ownerClaim = some c.id then upd s.scans i (ScanRecord.ownerEnded (decide (why = .lapse)))
    else s.scans := by
  rw [told_scanner hi]
  split_ifs with owner
  · rw [tellScan_owner (s := dropClaim c.id s) hi owner]
    exact (congrArg State.scans (latchOpt_frame State.reset ..) :)
  · rw [tellScan_other (s := dropClaim c.id s) hi owner]
    rfl

/-! ### The notices -/

/-- The notice class n is latched for kiosk k by the removal of a HELD claim: CLAIM_GRANTED for the kiosk of the waiter
that is granted the resource, CLAIM_LOST for that of a claim that lapses or whose resource goes, SCAN_FAILED for that of
a scan that a lapse makes fail (R60, R61, R130). -/
def RemovalLatches (c : Claim) (why : Removal) (s : State) (k : Kiosk) (n : Nat) : Prop :=
  n = 8 ∧ why = .lapse ∧ FailsScanOf c s k ∨ n = 2 ∧ (why = .lapse ∨ why = .resourceGone) ∧ c.kiosk = k ∨
    n = 1 ∧ why ≠ .resourceGone ∧ ∃ d ∈ s.claims, (waitQueue s c.resource).head? = some d.id ∧ d.kiosk = k

theorem removalLatches_granted {why : Removal} {k : Kiosk} : RemovalLatches c why s k 1 ↔
    why ≠ .resourceGone ∧ ∃ d ∈ s.claims, (waitQueue s c.resource).head? = some d.id ∧ d.kiosk = k := by
  simp [RemovalLatches]

theorem removalLatches_lost {why : Removal} {k : Kiosk} :
    RemovalLatches c why s k 2 ↔ (why = .lapse ∨ why = .resourceGone) ∧ c.kiosk = k := by
  simp [RemovalLatches]

theorem removalLatches_scanFailed {why : Removal} {k : Kiosk} :
    RemovalLatches c why s k 8 ↔ why = .lapse ∧ FailsScanOf c s k := by
  simp [RemovalLatches]

theorem failsScanOf_iff {i : Slot} (hi : c.resource = .scanner i) {k : Kiosk} : FailsScanOf c s k ↔
    (s.scans[i]).ownerClaim = some c.id ∧ (s.scans[i]).kiosk = some k ∧ (s.scans[i]).failsAtLapse = true := by
  simp only [FailsScanOf, hi, Resource.scanner.injEq, exists_eq_left']

section
variable (law : ClaimLaw s) (hc : c ∈ s.claims) (held : c.held = true)
include law hc held

theorem removeHeld_latches (why : Removal) (k : Kiosk) (n : Nat) :
    ((removeHeld c why s).notices[k]).pending.getLsbD n = true ↔
      (s.notices[k]).pending.getLsbD n = true ∨ RemovalLatches c why s k n := by
  have number : NoticeClass.claimGranted.number = 1 := rfl
  obtain ⟨none, same⟩ | ⟨stays, id, rest, d, queue, found, -, same⟩ := removeHeld_cases law why hc held
  · have no : ¬(why ≠ .resourceGone ∧ ∃ d ∈ s.claims, (waitQueue s c.resource).head? = some d.id ∧ d.kiosk = k) := by
      rintro ⟨stays, d, -, head, -⟩
      simp [none.resolve_left stays] at head
    rw [same, released_bit, RemovalLatches]
    simp only [no, and_false, or_false]
  · obtain ⟨hd, hid⟩ := (claim_eq_some law.1.1).mp found
    have granted : (∃ d ∈ s.claims, (waitQueue s c.resource).head? = some d.id ∧ d.kiosk = k) ↔ d.kiosk = k := by
      rw [queue, List.head?_cons]
      refine ⟨fun ⟨e, he, head, own⟩ => ?_, fun own => ⟨d, hd, congrArg some hid.symm, own⟩⟩
      rwa [claim_unique law.1.1 hd he (hid.trans (Option.some.inj head))]
    have before : ((Machine.granted id (released c why s)).notices[k]).pending.getLsbD n =
      ((released c why s).notices[k]).pending.getLsbD n := rfl
    rw [same, latch_bit, before, Bool.or_eq_true, released_bit, RemovalLatches, granted, number]
    simp only [stays, ne_eq, not_false_eq_true, true_and, Bool.and_eq_true, decide_eq_true_eq, or_assoc]

theorem removeHeld_unlatched {why : Removal} {k : Kiosk} {n : Nat} (no : ¬RemovalLatches c why s k n) :
    ((removeHeld c why s).notices[k]).pending.getLsbD n = (s.notices[k]).pending.getLsbD n := by
  rw [Bool.eq_iff_iff, removeHeld_latches law hc held, or_iff_left no]

/-- The removal leaves the contacts, the touch queues and the scans as the zone and the scan were told (R60, R61). -/
theorem removeHeld_outside (why : Removal) : (removeHeld c why s).contacts = (told c why s).contacts ∧
    (removeHeld c why s).kiosks = (told c why s).kiosks ∧ (removeHeld c why s).scans = (told c why s).scans := by
  obtain ⟨notices, h⟩ := released_told c why s
  obtain ⟨-, same⟩ | ⟨-, id, rest, d, -, -, -, same⟩ := removeHeld_cases law why hc held
  · rw [same, h]
    exact ⟨rfl, rfl, rfl⟩
  · rw [same, h]
    exact ⟨rfl, rfl, rfl⟩

/-- What the end of a claim on a zone leaves of the contacts, the touch queues and the scans (R41). -/
theorem removeHeld_zone {z : ZoneIx} (hz : c.resource = .zone z) (why : Removal) :
    (removeHeld c why s).scans = s.scans ∧
      (why ≠ .clearKiosk → Cancelled (inZone z) s (removeHeld c why s)) ∧
      (why = .clearKiosk → (removeHeld c why s).kiosks = s.kiosks ∧ ∀ n : ContactNo,
        (removeHeld c why s).contacts[n] =
          (s.contacts[n]).map fun x => if x.zone = some z then { x with live := false } else x) := by
  obtain ⟨contacts, kiosks, scans⟩ := removeHeld_outside law hc held why
  rw [told_zone hz] at contacts kiosks scans
  refine ⟨scans.trans (muteZone_scans ..), fun sent => ?_, ?_⟩
  · rw [decide_eq_true sent] at contacts kiosks
    exact Cancelled.congr (s := s) (muteZone_cancelled z (dropClaim c.id s)) contacts kiosks
  · rintro rfl
    refine ⟨kiosks.trans (muteZone_silent ..), fun n => ?_⟩
    rw [contacts]
    refine (muteContacts_contact ..).trans ?_
    simp only [decide_eq_true_eq]
    rfl

/-- No contact in the zone of a claim that ended is LIVE (R41). -/
theorem removeHeld_muted {z : ZoneIx} (hz : c.resource = .zone z) (why : Removal) :
    ZoneQuiet z (removeHeld c why s) := by
  obtain ⟨contacts, -, -⟩ := removeHeld_outside law hc held why
  rw [told_zone hz] at contacts
  exact fun n x hx => muteZone_quiet z _ _ n x (contacts ▸ hx)

/-- What the end of a claim on a scanner leaves of the contacts and the touch queues. -/
theorem removeHeld_scanner {i : Slot} (hi : c.resource = .scanner i) (why : Removal) :
    (removeHeld c why s).contacts = s.contacts ∧ (removeHeld c why s).kiosks = s.kiosks := by
  obtain ⟨contacts, kiosks, -⟩ := removeHeld_outside law hc held why
  obtain ⟨scans, notices, h⟩ := tellScan_eq c (decide (why = .lapse)) (dropClaim c.id s)
  rw [told_scanner hi, h] at contacts kiosks
  exact ⟨contacts, kiosks⟩

/-- The scan whose owner claim ends, and the other scans (R130). -/
theorem removeHeld_scan {i : Slot} (hi : c.resource = .scanner i) (owner : (s.scans[i]).ownerClaim = some c.id)
    (why : Removal) : (removeHeld c why s).scans[i] = (s.scans[i]).ownerEnded (decide (why = .lapse)) ∧
      ∀ j : Slot, j ≠ i → (removeHeld c why s).scans[j] = s.scans[j] := by
  obtain ⟨-, -, scans⟩ := removeHeld_outside law hc held why
  rw [told_scans hi, if_pos owner] at scans
  rw [scans]
  exact ⟨upd_get_self .., fun j ne => upd_get_ne _ _ _ _ ne.symm⟩

end

theorem ScanRecord.ownerEnded_ownerClaim (lapse : Bool) (r : ScanRecord) : (r.ownerEnded lapse).ownerClaim = none := by
  unfold ownerEnded
  split_ifs <;> rfl

/-- A scan that no lapse makes fail keeps its record but for its owner claim (R130). -/
theorem ScanRecord.ownerEnded_quiet {r : ScanRecord} {lapse : Prop} [Decidable lapse] (h : r.state = .idle ∨
    r.state = .halting ∧ (¬lapse ∨ r.haltOutcome ≠ some .cancelled)) :
    r.ownerEnded (decide lapse) = { r with ownerClaim := none } ∧ ¬(lapse ∧ r.failsAtLapse = true) := by
  have idle : ¬r.state.active = true := by
    obtain h | ⟨h, -⟩ := h <;> rw [h] <;> decide
  have fine : ¬(lapse ∧ r.failsAtLapse = true) := by
    rw [failsAtLapse_idle idle]
    rintro ⟨lapses, fails⟩
    obtain h | ⟨-, h | h⟩ := h
    · simp [h] at fails
    · exact h lapses
    · simp [h] at fails
  exact ⟨ownerEnded_other idle (by simpa using fine), fine⟩

end Sys2Proof.Machine

open Sys2Proof Sys2Proof.Machine

/-- Settles O42: the removal is an equation of its causes and its queue, read clause by clause. -/
theorem releaseEffects : Obligations.ReleaseEffects := by
  rintro s t c why law hc held rfl
  have latches := removeHeld_latches law hc held why
  have same {k : Kiosk} {n : Nat} := removeHeld_unlatched law hc held (why := why) (k := k) (n := n)
  have failing {i : Slot} (hi : c.resource = .scanner i) {k : Kiosk} (no : ¬((s.scans[i]).ownerClaim = some c.id ∧
      (s.scans[i]).kiosk = some k)) : ¬RemovalLatches c why s k 8 := fun fails => by
    obtain ⟨owner, own, -⟩ := (failsScanOf_iff hi).mp (removalLatches_scanFailed.mp fails).2
    exact no ⟨owner, own⟩
  refine ⟨removeHeld_gone law hc held why, fun d hd => removeHeld_keeps law hc held hd, fun stays id rest queue => ?_,
    removeHeld_vacant law hc held why, fun lost => (latches _ _).mpr (.inr (removalLatches_lost.mpr ⟨lost, rfl⟩)),
    fun kept k => same fun lost => ?_,
    fun z hz n x hx inz => removeHeld_muted law hc held hz why n x hx (decide_eq_true inz),
    fun z hz => removeHeld_zone law hc held hz why,
    fun i hi => ⟨(removeHeld_scanner law hc held hi why).1, (removeHeld_scanner law hc held hi why).2,
      fun other => ?_⟩,
    fun kept k => same fun fails => kept (removalLatches_scanFailed.mp fails).1,
    ⟨fun z hz k => same fun fails => ?_, fun i hi k other => same (failing hi (by tauto))⟩,
    fun k other => same fun lost => other (removalLatches_lost.mp lost).2.symm,
    fun k other => same fun granted => ?_, fun k n n1 n2 n8 => same fun h => ?_, fun i hi owner => ?_⟩
  case refine_1 =>
    obtain ⟨d, found, granted, waits⟩ := removeHeld_grants law hc held stays queue
    obtain ⟨hd, hid⟩ := (claim_eq_some law.1.1).mp found
    refine ⟨d, found, granted, waits, (latches _ _).mpr (.inr (removalLatches_granted.mpr ⟨stays, d, hd, ?_, rfl⟩))⟩
    rw [queue, hid, List.head?_cons]
  case refine_2 =>
    obtain ⟨rfl | rfl, -⟩ := removalLatches_lost.mp lost <;> simp at kept
  case refine_3 =>
    obtain ⟨-, -, scans⟩ := removeHeld_outside law hc held why
    rw [scans, told_scans hi, if_neg other]
  case refine_4 =>
    obtain ⟨-, i, hi, -⟩ := removalLatches_scanFailed.mp fails
    simp [hz] at hi
  case refine_5 =>
    obtain ⟨stays, d, hd, head, own⟩ := removalLatches_granted.mp granted
    exact other.elim (fun none => none d hd head own) stays
  case refine_6 =>
    obtain ⟨rfl, -⟩ | ⟨rfl, -⟩ | ⟨rfl, -⟩ := h
    · exact n8 rfl
    · exact n2 rfl
    · exact n1 rfl
  case refine_7 =>
    obtain ⟨here, others⟩ := removeHeld_scan law hc held hi owner why
    have fails {k : Kiosk} (lapse : why = .lapse) (own : (s.scans[i]).kiosk = some k)
        (failing : (s.scans[i]).failsAtLapse = true) :
        ((removeHeld c why s).notices[k]).pending.getLsbD 8 = true :=
      (latches k 8).mpr (.inr (removalLatches_scanFailed.mpr ⟨lapse, (failsScanOf_iff hi).mpr ⟨owner, own, failing⟩⟩))
    rw [here]
    refine ⟨ScanRecord.ownerEnded_ownerClaim .., others, fun active => ?_, fun halting lapse cancelled => ?_,
      fun quiet => ?_⟩
    · rw [ScanRecord.ownerEnded_active active]
      exact ⟨rfl, rfl, by simp only [decide_eq_true_eq],
        fun lapse k own => fails lapse own (ScanRecord.failsAtLapse_active active)⟩
    · have idle : ¬(s.scans[i]).state.active = true := by
        rw [halting]
        decide
      have failing : (s.scans[i]).failsAtLapse = true := by
        rw [ScanRecord.failsAtLapse_idle idle, halting, cancelled]
        rfl
      refine ⟨ScanRecord.ownerEnded_failing idle ?_, fun k own => fails lapse own failing⟩
      rw [decide_eq_true lapse, failing, Bool.and_self]
    · obtain ⟨record, fine⟩ := ScanRecord.ownerEnded_quiet quiet
      refine ⟨record, fun k => same fun latched => fine ?_⟩
      obtain ⟨lapse, failing⟩ := removalLatches_scanFailed.mp latched
      exact ⟨lapse, ((failsScanOf_iff hi).mp failing).2.2⟩

end

section
/-!
PROOFS. The laws of the Spooler and of the Feed Engines against the step: the part of the state they are about, and the
operations that leave it as it is.
-/

namespace Sys2Proof.Machine

/-! ### The part of the state the laws of the Spooler are about -/

/-- Where an engine stands in its job, and nothing else of it. -/
def FeedEngine.place (e : FeedEngine) : FeedEngine := { FeedEngine.reset with step := e.step, job := e.job }

/-- The kind a slot is defined with, and nothing else of it. -/
def UnitSlot.kindAlone (u : UnitSlot) : UnitSlot :=
  { UnitSlot.reset with definition := u.definition.map fun d => { address := 0, kind := d.kind, state := .probing } }

/-- The state with every field at its reset value but the Spooler's, the steps and jobs of the Feed Engines, and the kinds
of the slots. -/
def spoolPart (s : State) : State :=
  { State.reset with
    spool := s.spool, free := s.free, jobs := s.jobs, terminal := s.terminal, printQueue := s.printQueue
    nextJob := s.nextJob, kioskSpool := s.kioskSpool, fillLimit := s.fillLimit
    feeds := mapAll s.feeds FeedEngine.place, units := mapAll s.units UnitSlot.kindAlone }

/-- An operation that can change only what a mask blanks leaves this part alone, when the mask does. -/
theorem spoolPart_of_frame (mask : State → State → State) {s t : State} (h : ∀ base, mask base t = mask base s)
    (blind : ∀ base u, spoolPart (mask base u) = spoolPart u := by exact fun _ _ => rfl) : spoolPart t = spoolPart s :=
  frame_of (blind s) (h s)

theorem spoolPart_congr {s t : State} (spool : t.spool = s.spool) (free : t.free = s.free) (jobs : t.jobs = s.jobs)
    (terminal : t.terminal = s.terminal) (queues : t.printQueue = s.printQueue) (next : t.nextJob = s.nextJob)
    (quotas : t.kioskSpool = s.kioskSpool) (limit : t.fillLimit = s.fillLimit)
    (places : mapAll t.feeds FeedEngine.place = mapAll s.feeds FeedEngine.place)
    (kinds : mapAll t.units UnitSlot.kindAlone = mapAll s.units UnitSlot.kindAlone) : spoolPart t = spoolPart s := by
  unfold spoolPart
  rw [spool, free, jobs, terminal, queues, next, quotas, limit, places, kinds]

theorem mapAll_upd {α β : Type} {n : Nat} (v : Vector α n) (i : Fin n) {f : α → α} {g : α → β} {h : β → β}
    (commutes : ∀ a, g (f a) = h (g a)) : mapAll (upd v i f) g = upd (mapAll v g) i h := by
  ext j hj
  have after := mapAll_get_val (upd v i f) g ⟨j, hj⟩
  have before := upd_get_val (mapAll v g) i ⟨j, hj⟩ h
  rw [upd_get_val] at after
  rw [mapAll_get_val] at before
  exact after.trans (Eq.trans (by split_ifs <;> simp [commutes]) before.symm)

theorem mapAll_upd_same {α β : Type} {n : Nat} (v : Vector α n) (i : Fin n) {f : α → α} {g : α → β}
    (h : ∀ a, g (f a) = g a) : mapAll (upd v i f) g = mapAll v g :=
  (mapAll_upd v i (h := id) h).trans (upd_same _ _ _ rfl)

theorem kindAlone_eq {u v : UnitSlot} (h : u.definition.map UnitDef.kind = v.definition.map UnitDef.kind) :
    u.kindAlone = v.kindAlone := by
  unfold UnitSlot.kindAlone
  cases hu : u.definition <;> cases hv : v.definition <;> simp_all

theorem kindAlone_kind (u : UnitSlot) : u.kindAlone.definition.map UnitDef.kind = u.definition.map UnitDef.kind := by
  simp [UnitSlot.kindAlone, Function.comp_def]

theorem definedKind_spoolPart (s : State) (i : Slot) : definedKind (spoolPart s) i = definedKind s i := by
  simp [definedKind, spoolPart, kindAlone_kind]

theorem definedKind_of_part {s t : State} (same : spoolPart t = spoolPart s) (i : Slot) :
    definedKind t i = definedKind s i := by
  rw [← definedKind_spoolPart t, same, definedKind_spoolPart]

/-! ### Operations that leave this part as it is -/

/-- A change of a slot that keeps its kind. -/
theorem spoolPart_modUnit (i : Slot) {f : UnitSlot → UnitSlot} (s : State)
    (kind : ∀ u, (f u).definition.map UnitDef.kind = u.definition.map UnitDef.kind := by exact fun _ => rfl) :
    spoolPart (modUnit i f s) = spoolPart s := by
  unfold spoolPart
  rw [modUnit_units, mapAll_upd_same _ _ fun u => kindAlone_eq (kind u)]
  rfl

theorem setUnitState_kind (st : UnitState) (u : UnitSlot) :
    (setUnitState st u).definition.map UnitDef.kind = u.definition.map UnitDef.kind := by
  simp [setUnitState, Function.comp_def]

@[simp] theorem spoolPart_modAttn (i : Slot) (f : Attention → Attention) (s : State) :
    spoolPart (modAttn i f s) = spoolPart s := rfl

@[simp] theorem spoolPart_modPanel (i : Slot) (f : PanelEngine → PanelEngine) (s : State) :
    spoolPart (modPanel i f s) = spoolPart s := rfl

@[simp] theorem spoolPart_modScan (i : Slot) (f : ScanRecord → ScanRecord) (s : State) :
    spoolPart (modScan i f s) = spoolPart s := rfl

@[simp] theorem spoolPart_modClaim (id : Nat) (f : Claim → Claim) (s : State) :
    spoolPart (modClaim id f s) = spoolPart s := rfl

@[simp] theorem spoolPart_place (i : Slot) (p : Posting) (s : State) : spoolPart (place i p s) = spoolPart s := rfl

@[simp] theorem spoolPart_postProbe (i : Slot) (p : ProbeStep) (s : State) :
    spoolPart (postProbe i p s) = spoolPart s := rfl

@[simp] theorem spoolPart_latch (k : Kiosk) (c : NoticeClass) (s : State) : spoolPart (latch k c s) = spoolPart s := rfl

@[simp] theorem spoolPart_latchOpt (k : Option Kiosk) (c : NoticeClass) (s : State) :
    spoolPart (latch? k c s) = spoolPart s := spoolPart_of_frame offNotices (fun b => latchOpt_frame b k c s)

@[simp] theorem spoolPart_latchAll (c : NoticeClass) (s : State) : spoolPart (latchAll c s) = spoolPart s :=
  spoolPart_of_frame offNotices (fun b => latchAll_frame b c s)

@[simp] theorem spoolPart_queueReply (l : Link) (r : ReqSlot) (p : List Byte) (s : State) :
    spoolPart (queueReply l r p s) = spoolPart s := spoolPart_of_frame offLinks (fun b => queueReply_frame b l r p s)

@[simp] theorem spoolPart_transmit (l : Link) (s : State) : spoolPart (transmit l s) = spoolPart s :=
  spoolPart_of_frame offLinks (fun b => transmit_frame b l s)

@[simp] theorem spoolPart_levelRule (i : Slot) (s : State) : spoolPart (levelRule i s) = spoolPart s :=
  spoolPart_of_frame offAttn (fun b => levelRule_frame b i s)

@[simp] theorem spoolPart_levelRules (s : State) : spoolPart (levelRules s) = spoolPart s :=
  spoolPart_of_frame offAttn (fun b => levelRules_frame b s)

@[simp] theorem spoolPart_grant (s : State) : spoolPart (grant s) = spoolPart s :=
  spoolPart_of_frame offGrant (fun b => grant_frame b s)

@[simp] theorem spoolPart_muteContacts (fits : Contact → Bool) (cancel : Bool) (s : State) :
    spoolPart (muteContacts fits cancel s) = spoolPart s :=
  spoolPart_of_frame offMuted (fun b => muteContacts_frame b fits cancel s)

@[simp] theorem spoolPart_ownerChange (x : Resource) (cancel : Bool) (s : State) :
    spoolPart (ownerChange x cancel s) = spoolPart s :=
  spoolPart_of_frame offMuted (fun b => ownerChange_frame b x cancel s)

@[simp] theorem spoolPart_panelGone (i : Slot) (s : State) : spoolPart (panelGone i s) = spoolPart s :=
  spoolPart_of_frame offTouch (fun b => panelGone_frame b i s)

@[simp] theorem spoolPart_panelAct (i : Slot) (o : BusOutcome) (d : List Byte) (s : State) :
    spoolPart (panelAct i o d s) = spoolPart s := spoolPart_of_frame offTouch (fun b => panelAct_frame b i o d s)

@[simp] theorem spoolPart_panelCause (i : Slot) (b : Byte) (t : Time) (s : State) :
    spoolPart (panelCause i b t s) = spoolPart s := spoolPart_of_frame offTouch (fun base => panelCause_frame base i b t s)

@[simp] theorem spoolPart_scannerGone (i : Slot) (s : State) : spoolPart (scannerGone i s) = spoolPart s :=
  spoolPart_of_frame offScan (fun b => scannerGone_frame b i s)

@[simp] theorem spoolPart_scanAct (i : Slot) (w : TxnName) (o : BusOutcome) (d : List Byte) (s : State) :
    spoolPart (scanAct i w o d s) = spoolPart s := spoolPart_of_frame offScan (fun b => scanAct_frame b i w o d s)

@[simp] theorem spoolPart_scannerCause (i : Slot) (b : Byte) (s : State) :
    spoolPart (scannerCause i b s) = spoolPart s :=
  spoolPart_of_frame offScan (fun base => scannerCause_frame base i b s)

@[simp] theorem spoolPart_removeHeld (c : Claim) (why : Removal) (s : State) :
    spoolPart (removeHeld c why s) = spoolPart s := spoolPart_of_frame offClaims (fun b => removeHeld_frame b c why s)

@[simp] theorem spoolPart_removeWaiting (c : Claim) (lost : Bool) (s : State) :
    spoolPart (removeWaiting c lost s) = spoolPart s :=
  spoolPart_of_frame offClaims (fun b => removeWaiting_frame b c lost s)

@[simp] theorem spoolPart_removeResource (x : Resource) (s : State) : spoolPart (removeResource x s) = spoolPart s :=
  spoolPart_of_frame offClaims (fun b => removeResource_frame b x s)

@[simp] theorem spoolPart_clearClaims (k : Kiosk) (s : State) : spoolPart (clearClaims k s) = spoolPart s :=
  spoolPart_of_frame offClaims (fun b => clearClaims_frame b k s)

@[simp] theorem spoolPart_applyRecord (q : ZoneRecord) (s : State) : spoolPart (applyRecord q s) = spoolPart s :=
  spoolPart_of_frame offZones (fun b => applyRecord_frame b q s)

@[simp] theorem spoolPart_clearZone (z : ZoneIx) (s : State) : spoolPart (clearZone z s) = spoolPart s :=
  spoolPart_of_frame offZones (fun b => clearZone_frame b z s)

@[simp] theorem spoolPart_clearPanelZones (i : Slot) (s : State) : spoolPart (clearPanelZones i s) = spoolPart s :=
  spoolPart_of_frame offZones (fun b => clearPanelZones_frame b i s)

@[simp] theorem spoolPart_clearLink (k : Kiosk) (s : State) : spoolPart (clearLink k s) = spoolPart s := rfl

@[simp] theorem spoolPart_clearNotices (k : Kiosk) (s : State) : spoolPart (clearNotices k s) = spoolPart s := rfl

@[simp] theorem spoolPart_createClaim (k : Kiosk) (x : Resource) (held : Bool) (lease wait : Nat) (s : State) :
    spoolPart (createClaim k x held lease wait s).2 = spoolPart s := rfl

/-! ### The Unit Table -/

@[simp] theorem spoolPart_setLost (i : Slot) (s : State) : spoolPart (setLost i s) = spoolPart s :=
  spoolPart_modUnit i s (setUnitState_kind .lost)

@[simp] theorem spoolPart_becomeReady (i : Slot) (s : State) : spoolPart (becomeReady i s) = spoolPart s := by
  rw [becomeReady, spoolPart_modPanel, spoolPart_latchAll, spoolPart_levelRule, spoolPart_modAttn]
  exact spoolPart_modUnit i s (setUnitState_kind .ready)

@[simp] theorem spoolPart_probeAct (i : Slot) (w : TxnName) (o : BusOutcome) (d : List Byte) (s : State) :
    spoolPart (probeAct i w o d s) = spoolPart s := by
  have identified : spoolPart (modUnit i (fun u => { u with ident := some (identOf d), probe := none }) s) =
    spoolPart s := spoolPart_modUnit i s
  unfold probeAct
  split
  · split
    · exact spoolPart_modUnit i s
    · exact spoolPart_modUnit i s
    · unfold Machine.identified
      dsimp only
      split_ifs
      · exact identified
      · exact (spoolPart_becomeReady ..).trans identified
      · exact Eq.trans (spoolPart_modUnit i _ (setUnitState_kind .mismatch)) identified
  · exact spoolPart_setLost i s

@[simp] theorem spoolPart_rawAct (t : Txn) (o : BusOutcome) (s : State) : spoolPart (rawAct t o s) = spoolPart s := by
  unfold rawAct
  cases s.busRaw with
  | none => rfl
  | some r => exact (spoolPart_queueReply ..).trans rfl

/-! ### Blocks that leave this part as it is -/

@[simp] theorem spoolPart_forKiosk {l : Link} {f : Kiosk → State → State × List Byte}
    (h : ∀ k s, spoolPart (f k s).1 = spoolPart s) (s : State) : spoolPart (forKiosk l f s).1 = spoolPart s := by
  unfold forKiosk
  split
  · exact h _ s
  · rfl

@[simp] theorem spoolPart_onScan {slot : Byte} {k : Kiosk} {s : State} {f : Slot → State × List Byte}
    (h : ∀ i, spoolPart (f i).1 = spoolPart s) : spoolPart (onScan slot k s f).1 = spoolPart s := by
  unfold onScan
  split
  · rfl
  · split_ifs
    · rfl
    · rfl
    · rfl
    · exact h _

@[simp] theorem spoolPart_linkStatusBlock (l : Link) (named : Option Byte) (s : State) :
    spoolPart (linkStatusBlock l named s).1 = spoolPart s := by
  unfold linkStatusBlock
  split <;> rfl

@[simp] theorem spoolPart_maintainBlock (kiosk : Byte) (on : Bool) (s : State) :
    spoolPart (maintainBlock kiosk on s).1 = spoolPart s := by
  unfold maintainBlock
  split <;> rfl

@[simp] theorem spoolPart_maintainAny (p : List Byte) (s : State) : spoolPart (maintainAny p s).1 = spoolPart s := by
  unfold maintainAny
  split_ifs <;> simp

@[simp] theorem spoolPart_zoneSetBlock (records : List ZoneRecord) (s : State) :
    spoolPart (zoneSetBlock records s).1 = spoolPart s := by
  unfold zoneSetBlock
  split
  · rfl
  · exact forEach_frame spoolPart spoolPart_applyRecord records s

@[simp] theorem spoolPart_zoneClearBlock (l : List Byte) (s : State) :
    spoolPart (zoneClearBlock l s).1 = spoolPart s := by
  unfold zoneClearBlock
  split
  · rfl
  · refine forEach_frame spoolPart (fun b t => ?_) l s
    cases index? 32 b.toNat with
    | none => rfl
    | some z => exact spoolPart_clearZone z t

@[simp] theorem spoolPart_claimBlock (kind number : Byte) (lease wait : Word) (k : Kiosk) (s : State) :
    spoolPart (claimBlock kind number lease wait k s).1 = spoolPart s := by
  unfold claimBlock
  dsimp only
  split
  · rfl
  · rfl
  · split
    · rfl
    · split
      · rfl
      · split
        · rfl
        · split
          · exact (spoolPart_ownerChange ..).trans rfl
          · split_ifs <;> rfl

@[simp] theorem spoolPart_renewBlock (id : Byte) (k : Kiosk) (s : State) :
    spoolPart (renewBlock id k s).1 = spoolPart s := by
  unfold renewBlock
  split
  · rfl
  · split_ifs <;> simp

@[simp] theorem spoolPart_releaseBlock (id : Byte) (k : Kiosk) (s : State) :
    spoolPart (releaseBlock id k s).1 = spoolPart s := by
  unfold releaseBlock
  split
  · rfl
  · split_ifs <;> simp

@[simp] theorem spoolPart_forceReleaseBlock (id : Byte) (s : State) :
    spoolPart (forceReleaseBlock id s).1 = spoolPart s := by
  unfold forceReleaseBlock
  split
  · rfl
  · split_ifs <;> simp

@[simp] theorem spoolPart_scanStartBlock (slot : Byte) (g : ScanSettings) (k : Kiosk) (s : State) :
    spoolPart (scanStartBlock slot g k s).1 = spoolPart s := by
  unfold scanStartBlock
  split
  · rfl
  · split
    · rfl
    · split
      · rfl
      · split_ifs <;> rfl

@[simp] theorem spoolPart_scanCreditBlock (slot n : Byte) (k : Kiosk) (s : State) :
    spoolPart (scanCreditBlock slot n k s).1 = spoolPart s := spoolPart_onScan fun _ => rfl

@[simp] theorem spoolPart_scanStopBlock (slot : Byte) (k : Kiosk) (s : State) :
    spoolPart (scanStopBlock slot k s).1 = spoolPart s := spoolPart_onScan fun i => by split_ifs <;> rfl

@[simp] theorem spoolPart_attnSetBlock (slot mode enable : Byte) (s : State) :
    spoolPart (attnSetBlock slot mode enable s).1 = spoolPart s := by
  have set (i : Slot) (m : AttnMode) (b : Bool) : spoolPart (setAttention i m b s) = spoolPart s := by
    unfold setAttention
    dsimp only
    split_ifs
    · rw [spoolPart_levelRule, spoolPart_modAttn]
      exact spoolPart_modUnit i s
    · exact spoolPart_modUnit i s
  unfold attnSetBlock
  split
  · split_ifs
    · rfl
    · exact set ..
  · rfl

@[simp] theorem spoolPart_busRawBlock (kind : Option BusKind) (address command : Byte) (data : List Byte) (r : ReqSlot)
    (s : State) : spoolPart (busRawBlock kind address command data r s).1 = spoolPart s := by
  unfold busRawBlock
  split
  · rfl
  · split
    · rfl
    · split <;> rfl

@[simp] theorem spoolPart_changeEnabled (f : ClassSet → ClassSet → ClassSet) (classes : Half) (k : Kiosk) (s : State) :
    spoolPart (changeEnabled f classes k s).1 = spoolPart s := by
  unfold changeEnabled
  split <;> rfl

@[simp] theorem spoolPart_noticeArmBlock (classes : Half) (k : Kiosk) (s : State) :
    spoolPart (noticeArmBlock classes k s).1 = spoolPart s := spoolPart_changeEnabled ..

@[simp] theorem spoolPart_noticeDisarmBlock (classes : Half) (k : Kiosk) (s : State) :
    spoolPart (noticeDisarmBlock classes k s).1 = spoolPart s := spoolPart_changeEnabled ..

@[simp] theorem spoolPart_setHold (h : Bool) (k : Kiosk) (s : State) : spoolPart (setHold h k s).1 = spoolPart s := by
  unfold setHold
  rfl

@[simp] theorem spoolPart_noticeTakeBlock (k : Kiosk) (s : State) :
    spoolPart (noticeTakeBlock k s).1 = spoolPart s := by
  unfold noticeTakeBlock
  rfl

@[simp] theorem spoolPart_maintainMaskBlock (kiosk : Byte) (classes : Half) (s : State) :
    spoolPart (maintainMaskBlock kiosk classes s).1 = spoolPart s := by
  unfold maintainMaskBlock
  split <;> rfl

@[simp] theorem spoolPart_forceNoticeBlock (kiosk : Byte) (classes word : Half) (s : State) :
    spoolPart (forceNoticeBlock kiosk classes word s).1 = spoolPart s := by
  unfold forceNoticeBlock
  split
  · split_ifs <;> rfl
  · rfl

/-! ### Events that leave this part as it is -/

@[simp] theorem spoolPart_expireLease (id : Byte) (s : State) : spoolPart (expireLease id s) = spoolPart s := by
  unfold expireLease
  split
  · rfl
  · split_ifs <;> simp

@[simp] theorem spoolPart_expireWait (id : Byte) (s : State) : spoolPart (expireWait id s) = spoolPart s := by
  unfold expireWait
  split
  · rfl
  · split_ifs <;> simp

@[simp] theorem spoolPart_expireReprobe (i : Slot) (s : State) : spoolPart (expireReprobe i s) = spoolPart s := by
  unfold expireReprobe
  split
  · split_ifs
    · exact spoolPart_modUnit i s
    · rfl
  · rfl

@[simp] theorem spoolPart_attentionChange (i : Slot) (high : Bool) (s : State) :
    spoolPart (attentionChange i high s) = spoolPart s := by
  unfold attentionChange
  split_ifs
  · rfl
  · unfold lineChange
    dsimp only
    split
    · split_ifs <;> rfl
    · split_ifs <;> rfl
    · rfl

@[simp] theorem spoolPart_endRelease (s : State) : spoolPart (endRelease s) = spoolPart s := by
  unfold endRelease
  split <;> rfl

@[simp] theorem spoolPart_giveUpRelease (s : State) : spoolPart (giveUpRelease s) = spoolPart s := by
  unfold giveUpRelease
  split
  · split_ifs <;> rfl
  · rfl

@[simp] theorem spoolPart_frameSent (l : Link) (s : State) : spoolPart (frameSent l s) = spoolPart s := by
  unfold frameSent
  split <;> rfl

@[simp] theorem spoolPart_characterFault (l : Link) (s : State) : spoolPart (characterFault l s) = spoolPart s := by
  unfold characterFault
  split_ifs <;> rfl

@[simp] theorem spoolPart_finishFull (s : State) : spoolPart (finishFull s) = spoolPart s := by
  unfold finishFull
  split_ifs <;> rfl

@[simp] theorem spoolPart_finishSoft (s : State) : spoolPart (finishSoft s) = spoolPart s := by
  have first (i : Slot) (t : State) : spoolPart (postFirstPing i t) = spoolPart t := by
    unfold postFirstPing
    split_ifs <;> rfl
  unfold finishSoft
  cases softDone? s with
  | none => rfl
  | some r =>
    rw [Option.elim_some, forEach_frame spoolPart first, spoolPart_queueReply]
    rfl

@[simp] theorem spoolPart_orphan (i : Slot) (s : State) : spoolPart (orphan i s) = spoolPart s := by
  unfold orphan
  split
  · split_ifs <;> rfl
  · rfl

end Sys2Proof.Machine
end

section
/-!
PROOFS. A law of the Spooler and of the Feed Engines is kept by every step when their operations keep it: the walk through
the outcomes of the unit bus, the requests, the end of an event and the commands.
-/

namespace Sys2Proof.Machine

/-- A slot that is defined with a kind or not at all, and nothing else of it. -/
def vacantSlot (kind : Option UnitKind) : UnitSlot :=
  { UnitSlot.reset with definition := kind.map fun k => { address := 0, kind := k, state := .probing } }

/-- A slot whose engine is at its reset values and whose printer queue is empty, defined with a kind or not at all: what a
UNIT DEFINE and a UNIT REMOVE leave of it (R98, R80, R137, R142). -/
def vacated (i : Slot) (kind : Option UnitKind) (s : State) : State :=
  { s with
    feeds := upd s.feeds i fun _ => .reset, printQueue := upd s.printQueue i fun _ => []
    units := upd s.units i fun _ => vacantSlot kind }

/-- Fresh engines and a changed definition vacate a slot, as far as this part goes. -/
theorem spoolPart_vacated {i : Slot} {kind : Option UnitKind} {s t : State} (same : spoolPart t = spoolPart s)
    {f : UnitSlot → UnitSlot} (now : ∀ u, (f u).definition.map UnitDef.kind = kind) :
    spoolPart (modUnit i f (freshEngines i t)) = spoolPart (vacated i kind s) := by
  have places : mapAll t.feeds FeedEngine.place = mapAll s.feeds FeedEngine.place := congrArg State.feeds same
  have kinds : mapAll t.units UnitSlot.kindAlone = mapAll s.units UnitSlot.kindAlone := congrArg State.units same
  have queues : t.printQueue = s.printQueue := (congrArg State.printQueue same :)
  have kindNow (u : UnitSlot) : (f u).kindAlone = (vacantSlot kind).kindAlone :=
    kindAlone_eq ((now u).trans (by simp [vacantSlot, Function.comp_def]))
  refine spoolPart_congr (congrArg State.spool same :) (congrArg State.free same :) (congrArg State.jobs same :)
    (congrArg State.terminal same :) (congrArg (fun q => upd q i fun _ => []) queues) (congrArg State.nextJob same :)
    (congrArg State.kioskSpool same :) (congrArg State.fillLimit same :) ?_ ?_
  · show mapAll (upd t.feeds i fun _ => .reset) FeedEngine.place = mapAll (upd s.feeds i fun _ => .reset) FeedEngine.place
    have fresh (v : Vector FeedEngine 12) := mapAll_upd v i (f := fun _ => .reset) (g := FeedEngine.place)
      (h := fun _ => .reset) fun _ => rfl
    rw [fresh, fresh, places]
  · show mapAll (upd t.units i f) UnitSlot.kindAlone = mapAll (upd s.units i fun _ => vacantSlot kind) UnitSlot.kindAlone
    have defined {g : UnitSlot → UnitSlot} (v : Vector UnitSlot 12)
        (hg : ∀ u, (g u).kindAlone = (vacantSlot kind).kindAlone) :=
      mapAll_upd v i hg (h := fun _ => (vacantSlot kind).kindAlone)
    rw [defined _ kindNow, defined _ fun _ => rfl, kinds]

theorem spoolPart_defineSlot (i : Slot) (address : Nat) (k : UnitKind) (m : AttnMode) (enable : Bool) (s : State) :
    spoolPart (defineSlot i address k m enable s) = spoolPart (vacated i (some k) s) := by
  let defined (_ : UnitSlot) : UnitSlot :=
    { definition := some { address := address, kind := k, state := .probing }, mode := m, enable := enable
      failures := 0, probe := some .ping, reprobe := none, ident := none }
  have parts : defineSlot i address k m enable s =
    postProbe i .ping (modAttn i (fun a => { a with pending := false }) (modUnit i defined (freshEngines i s))) := rfl
  rw [parts, spoolPart_postProbe, spoolPart_modAttn]
  exact spoolPart_vacated rfl fun _ => rfl

theorem fullReset_free (s : State) : (fullReset s).free = State.reset.free := by simp only [fullReset]

theorem spoolPart_fullReset (s : State) : spoolPart (fullReset s) = spoolPart State.reset :=
  spoolPart_congr rfl (fullReset_free s) rfl rfl rfl rfl rfl rfl rfl rfl

theorem spoolPart_powerUp (s : State) : spoolPart (powerUp s) = spoolPart (fullReset s) := by
  unfold powerUp
  generalize fullReset s = t
  rfl

theorem spoolPart_assertReset (s : State) : spoolPart (assertReset s) = spoolPart (fullReset s) := by
  unfold assertReset
  generalize fullReset s = t
  rfl

/-- What a soft reset leaves of the Spooler: the quotas, the fill limit and the definitions (R97). -/
def softSpooler (s : State) : State :=
  { State.reset with
    kioskSpool := mapAll s.kioskSpool KioskSpool.softReset, fillLimit := s.fillLimit, units := s.units }

theorem softSpooler_free (s : State) : (softSpooler s).free = State.reset.free := by simp only [softSpooler]

theorem softReset_kind (u : UnitSlot) : u.softReset.definition.map UnitDef.kind = u.definition.map UnitDef.kind := by
  unfold UnitSlot.softReset
  split
  · rfl
  · next used => simp [used]

theorem spoolPart_softReset (r : ReqSlot) (s : State) : spoolPart (softReset r s) = spoolPart (softSpooler s) := by
  have free : (softReset r s).free = (softSpooler s).free := by simp only [softReset, softSpooler]
  refine spoolPart_congr rfl free rfl rfl rfl rfl rfl rfl rfl ?_
  show mapAll (mapAll s.units UnitSlot.softReset) UnitSlot.kindAlone = mapAll s.units UnitSlot.kindAlone
  ext j hj
  have soft := mapAll_get_val (mapAll s.units UnitSlot.softReset) UnitSlot.kindAlone ⟨j, hj⟩
  have slot := congrArg UnitSlot.kindAlone (mapAll_get_val s.units UnitSlot.softReset ⟨j, hj⟩)
  have same := mapAll_get_val s.units UnitSlot.kindAlone ⟨j, hj⟩
  exact soft.trans (slot.trans ((kindAlone_eq (softReset_kind _)).trans same.symm))

@[simp] theorem spoolPart_chooseScan (i : Slot) (s : State) : spoolPart (chooseScan i s) = spoolPart s := by
  unfold chooseScan
  split
  · rfl
  · cases scanWork s.scans[i] <;> rfl

@[simp] theorem spoolPart_choosePanel (i : Slot) (s : State) : spoolPart (choosePanel i s) = spoolPart s := by
  unfold choosePanel
  split <;> rfl

section
variable {P : State → Prop} (part : ∀ {s t}, spoolPart t = spoolPart s → P s → P t)
  (choose : ∀ {s} i, P s → P (chooseFeed i s)) {s : State}
include part choose

/-- Of what fills a slot's place only the choice of a Feed Engine is about the Spooler (R162). -/
theorem fillPlace_keeps (i : Slot) (h : P s) : P (Machine.fillPlace i s) := by
  unfold Machine.fillPlace
  split
  · exact h
  · next d _ =>
    split_ifs
    · exact part (s := s) rfl h
    · unfold chooseWork
      cases d.kind with
      | printer => exact choose i h
      | scanner => exact part (spoolPart_chooseScan i s) h
      | panel => exact part (spoolPart_choosePanel i s) h
    · exact h

theorem settle_keeps (h : P s) : P (Machine.settle s) := by
  unfold Machine.settle
  split
  · exact h
  · exact part (spoolPart_levelRules s) h
  · refine part (forEach_frame spoolPart spoolPart_transmit _ _) ?_
    have filled {t : State} (ht : P t) : P (forEach (indices 12) Machine.fillPlace t) :=
      forEach_keeps (fun i _ _ => fillPlace_keeps part choose i) ht
    exact filled (part (spoolPart_grant _) (filled (part (spoolPart_levelRules s) h)))

end

/-- What a law of the Spooler and of the Feed Engines has to survive to be kept by every step. -/
structure SpoolKept (P : State → Prop) : Prop where
  /-- It is about the Spooler, the steps and jobs of the engines and the kinds of the slots alone. -/
  part : ∀ {s t}, spoolPart t = spoolPart s → P s → P t
  /-- A full reset (R96, R117). -/
  full : P State.reset
  /-- A soft reset (R97). -/
  soft : ∀ {s}, P s → P (softSpooler s)
  /-- The outcome of an engine's transaction (R101). -/
  feedAct : ∀ {s} i w o d, P s → P (feedAct i w o d s)
  /-- A printer's cause flags (R111). -/
  cause : ∀ {s} i b, P s → P (printerCause i b s)
  /-- A printer lost (R114). -/
  lost : ∀ {s} i, P s → P (printerLost i s)
  /-- The choice of an engine's work (R100). -/
  choose : ∀ {s} i, P s → P (chooseFeed i s)
  /-- A removed printer slot (R115). -/
  removed : ∀ {s} i, P s → P (vacated i none (printerRemoved i s))
  /-- Another slot removed, or an UNDEFINED one defined. -/
  changed : ∀ {s} i kind, definedKind s i ≠ some .printer → P s → P (vacated i kind s)
  /-- The jobs of a kiosk at CLEAR KIOSK (R95). -/
  clearJobs : ∀ {s} k, P s → P (clearJobs k s)
  /-- PRINT OPEN (R82). -/
  opened : ∀ {s} target k, P s → P (printOpenBlock target k s).1
  /-- PRINT DATA (R83). -/
  data : ∀ {s} id l k, P s → P (printDataBlock id l k s).1
  /-- PRINT CLOSE (R85). -/
  close : ∀ {s} id k, P s → P (printCloseBlock id k s).1
  /-- PRINT CANCEL (R86, R87). -/
  cancel : ∀ {s} id k, P s → P (printCancelBlock id k s).1
  /-- JOB STATUS, which may remove a record (R91). -/
  collect : ∀ {s} l id b, P s → P (jobStatusBlock l id b s).1
  /-- QUOTA SET (R93). -/
  quota : ∀ {s} b n, P s → P (quotaSetBlock b n s).1
  /-- FILL LIMIT SET (R94). -/
  limit : ∀ {s} n, P s → P (fillLimitBlock n s).1
  /-- A fill stall (R88). -/
  stall : ∀ {s} id, P s → P (expireFill id s)

namespace SpoolKept

variable {P : State → Prop} (kept : SpoolKept P) {s : State}
include kept

/-! ### The end of an event -/

theorem fillPlace (i : Slot) (h : P s) : P (Machine.fillPlace i s) := fillPlace_keeps kept.part kept.choose i h

theorem settle (h : P s) : P (Machine.settle s) := settle_keeps kept.part kept.choose h

/-! ### Outcomes of the unit bus (R141, R162) -/

theorem engineAct (i : Slot) (w : TxnName) (o : BusOutcome) (d : List Byte) (h : P s) :
    P (Machine.engineAct i w o d s) := by
  unfold Machine.engineAct
  split
  · exact kept.feedAct i w o d h
  · exact kept.part (spoolPart_scanAct ..) h
  · exact kept.part (spoolPart_panelAct ..) h
  · exact h

theorem causeAct (i : Slot) (o : BusOutcome) (d : List Byte) (capture : Time) (h : P s) :
    P (Machine.causeAct i o d capture s) := by
  unfold Machine.causeAct
  refine kept.part (spoolPart_levelRule ..) ?_
  split_ifs
  · unfold causeToEngine
    split
    · exact kept.cause i _ h
    · exact kept.part (spoolPart_scannerCause ..) h
    · exact kept.part (spoolPart_panelCause ..) h
    · exact h
  · exact kept.part (spoolPart_modAttn ..) h

theorem slotLost (i : Slot) (h : P s) : P (Machine.slotLost i s) := by
  have lost : P (withdraw i (setLost i s)) := kept.part ((Eq.refl _).trans (spoolPart_setLost i s)) h
  unfold Machine.slotLost
  refine kept.part (spoolPart_latchAll ..) ?_
  generalize withdraw i (setLost i s) = t at lost
  unfold tearDown
  split
  · exact kept.lost i lost
  · exact kept.part (spoolPart_scannerGone ..) lost
  · exact kept.part (spoolPart_panelGone ..) lost
  · exact lost

theorem countFailure (i : Slot) (o : BusOutcome) (h : P s) : P (Machine.countFailure i o s) := by
  have raised : P (raiseFailures i s) := by
    unfold raiseFailures
    dsimp only
    have more : P (modUnit i (fun u => { u with failures := min 3 (u.failures + 1) }) s) :=
      kept.part (spoolPart_modUnit i s) h
    split_ifs
    · exact kept.slotLost i more
    · exact more
  unfold Machine.countFailure
  split_ifs
  · split
    · exact kept.part (spoolPart_modUnit i s) h
    · exact h
    · exact h
    · exact raised
  · exact h

theorem handOn (t : Txn) (o : BusOutcome) (h : P s) : P (Machine.handOn t o s) := by
  unfold Machine.handOn
  split_ifs
  · exact h
  · split
    · exact kept.countFailure _ o (kept.fillPlace _ (kept.causeAct _ o _ _ h))
    · exact kept.countFailure _ o (kept.fillPlace _ (kept.engineAct _ _ o _ h))
    · exact kept.part (spoolPart_probeAct ..) h
    · exact kept.part (spoolPart_rawAct ..) h
    · exact h

theorem endTransaction (t : Txn) (o : BusOutcome) (h : P s) : P (Machine.endTransaction t o s) :=
  kept.handOn t o (kept.part (s := s) rfl h)

theorem complete (w : TxnName) (a : UnitAnswer) (h : P s) : P (Machine.complete w a s) := by
  unfold Machine.complete
  split
  · split_ifs
    · exact kept.endTransaction _ _ h
    · exact h
  · exact h

theorem completeRaw (a : UnitAnswer) (h : P s) : P (Machine.completeRaw a s) := by
  unfold Machine.completeRaw
  split
  · split_ifs
    · exact kept.endTransaction _ _ h
    · exact h
  · exact h

theorem expireStall (sent : Nat) (received : List Byte) (h : P s) : P (Machine.expireStall sent received s) := by
  unfold Machine.expireStall
  split
  · split_ifs
    · exact kept.endTransaction _ _ h
    · exact h
  · exact h

theorem busAbortBlock (h : P s) : P (Machine.busAbortBlock s).1 := by
  unfold Machine.busAbortBlock
  split
  · exact kept.endTransaction _ _ (kept.part (s := s) rfl h)
  · exact h

/-! ### The blocks of the requests -/

theorem clearKioskBlock (l : Link) (named : Option Byte) (h : P s) : P (Machine.clearKioskBlock l named s).1 := by
  unfold Machine.clearKioskBlock
  split
  · exact h
  · next k _ =>
    have muted : P (muteKiosk k (clearClaims k s)) :=
      kept.part ((spoolPart_muteContacts ..).trans (spoolPart_clearClaims k s)) h
    exact kept.part (by simp [clearAll]) (kept.clearJobs k muted)

theorem removeSlot (i : Slot) {k : UnitKind} (kind : definedKind s i = some k) (h : P s) :
    P (Machine.removeSlot i k s) := by
  unfold Machine.removeSlot
  dsimp only
  refine kept.part ((spoolPart_latchAll ..).trans (spoolPart_modAttn ..)) ?_
  have start : spoolPart (orphan i (withdraw i (modUnit i (fun u => { u with reprobe := none }) s))) = spoolPart s :=
    (spoolPart_orphan ..).trans (spoolPart_modUnit i s)
  generalize orphan i (withdraw i (modUnit i (fun u => { u with reprobe := none }) s)) = t at start
  have other {u : State} (same : spoolPart u = spoolPart t) (no : k ≠ .printer) :
      P (modUnit i (fun u => { u with definition := none, ident := none, failures := 0, probe := none, enable := false })
        (freshEngines i u)) :=
    kept.part (spoolPart_vacated (same.trans start) fun _ => rfl) (kept.changed i none (by simp [kind, no]) h)
  cases k with
  | panel => exact other ((spoolPart_clearPanelZones ..).trans (spoolPart_panelGone ..)) nofun
  | printer => exact kept.part (spoolPart_vacated rfl fun _ => rfl) (kept.removed i (kept.part start h))
  | scanner => exact other ((spoolPart_removeResource ..).trans (spoolPart_scannerGone ..)) nofun

theorem unitRemoveBlock (slot : Byte) (h : P s) : P (Machine.unitRemoveBlock slot s).1 := by
  unfold Machine.unitRemoveBlock
  split
  · exact h
  · split
    · exact h
    · next kind => exact kept.removeSlot _ kind h

theorem unitDefineBlock (slot address kind mode enable : Byte) (h : P s) :
    P (Machine.unitDefineBlock slot address kind mode enable s).1 := by
  unfold Machine.unitDefineBlock
  split
  · exact h
  · next i _ =>
    split_ifs with defined
    · exact h
    · exact h
    · split
      · exact h
      · split
        · exact h
        · exact h
        · next k m _ _ =>
          have undefined : definedKind s i = none := by
            simpa [unitState, definedKind] using defined
          exact kept.part (spoolPart_defineSlot ..) (kept.changed i (some k) (by simp [undefined]) h)

theorem fullReset (s : State) : P (Machine.fullReset s) := kept.part (spoolPart_fullReset s) kept.full

theorem resetBlock (kind : Byte) (r : ReqSlot) (h : P s) : P (Machine.resetBlock kind r s).1 := by
  unfold Machine.resetBlock
  split_ifs
  · exact kept.fullReset s
  · exact kept.part (spoolPart_softReset r s) (kept.soft h)
  · exact h

/-- The block of every request kind keeps the law. -/
theorem blockOf (kind : ReqKind) (l : Link) (p : List Byte) (r : ReqSlot) (h : P s) :
    P (Machine.blockOf kind l p r s).1 := by
  have forKiosk {f : Kiosk → State → State × List Byte} (hf : ∀ k, P (f k s).1) : P (Machine.forKiosk l f s).1 := by
    unfold Machine.forKiosk
    split
    · exact hf _
    · exact h
  cases kind with
  | clearKiosk => exact kept.clearKioskBlock l _ h
  | reset => exact kept.resetBlock _ r h
  | unitDefine => exact kept.unitDefineBlock _ _ _ _ _ h
  | unitRemove => exact kept.unitRemoveBlock _ h
  | busAbort => exact kept.busAbortBlock h
  | printOpen => exact forKiosk fun k => kept.opened _ k h
  | printData => exact forKiosk fun k => kept.data _ _ k h
  | printClose => exact forKiosk fun k => kept.close _ k h
  | printCancel => exact forKiosk fun k => kept.cancel _ k h
  | jobStatus => exact kept.collect l _ _ h
  | quotaSet => exact kept.quota _ _ h
  | fillLimitSet => exact kept.limit _ h
  | _ => -- the blocks of the other kinds leave the Spooler and the engines alone
    exact kept.part (by simp [Machine.blockOf]) h

/-! ### The commands -/

theorem arrive (a : Arrival) {block : ReqSlot → State → State × BlockAnswer}
    (hb : ∀ r t, P t → P (block r t).1) (h : P s) : P (Machine.arrive a block s) := by
  unfold Machine.arrive
  split_ifs
  · exact h
  · exact kept.part (s := s) rfl h
  · split
    · exact kept.part (s := s) rfl h
    · next r _ =>
      have holds : P (holdSlot a r s) := kept.part (s := s) rfl h
      unfold dispatch
      split
      · exact kept.part (spoolPart_queueReply ..) holds
      · have acted := hb r _ holds
        split
        · next answered =>
          rw [answered] at acted
          exact kept.part (spoolPart_queueReply ..) acted
        · next answered => rwa [answered] at acted

theorem event {t : State} (h : P t) : Answers P (.next (Machine.settle t)) := by
  rintro u ⟨⟩
  exact kept.settle h

theorem request (a : Arrival) {block : ReqSlot → State → State × BlockAnswer}
    (hb : ∀ r t, P t → P (block r t).1) (h : P s) : Answers P (Machine.request a block s) :=
  kept.event (kept.arrive a hb h)

/-- A request whose block leaves the Spooler and the engines alone. -/
theorem otherRequest (a : Arrival) {block : ReqSlot → State → State × BlockAnswer}
    (hb : ∀ r t, spoolPart (block r t).1 = spoolPart t) (h : P s) : Answers P (Machine.request a block s) :=
  kept.request a (fun r t => kept.part (hb r t)) h

theorem kioskRequest (a : Arrival) {l : Link} {f : Kiosk → State → State × List Byte}
    (hf : ∀ k t, P t → P (f k t).1) (h : P s) : Answers P (Machine.request a (atOnce (forKiosk l f)) s) := by
  refine kept.request a (fun r t ht => ?_) h
  rw [atOnce_state]
  unfold forKiosk
  split
  · exact hf _ t ht
  · exact ht

theorem frameArrived (l : Link) (code tag : Byte) (p : List Byte) (h : P s) :
    P (Machine.frameArrived l code tag p s) := by
  unfold Machine.frameArrived
  split
  · exact kept.arrive _ (fun _ _ ht => ht) h
  · exact kept.arrive _ (fun r _ => kept.blockOf _ l p r) h

theorem byteReceived (l : Link) (b : Byte) (h : P s) : P (Machine.byteReceived l b s) := by
  have moved (r : Receiver) : P (setReceiver l r s) := kept.part (s := s) rfl h
  unfold Machine.byteReceived
  split_ifs
  · unfold receive
    split
    · split_ifs
      · exact moved _
      · exact h
    · split_ifs
      · exact kept.part (s := s) rfl h
      · exact moved _
    · split_ifs
      · exact moved _
      · unfold frameEnded
        dsimp only
        split_ifs
        · exact kept.frameArrived l _ _ _ (moved _)
        · exact kept.part (s := s) rfl h
  · exact h

theorem exec (i : Instr) (h : P s) : Answers P (Machine.exec i s) := by
  have same {t : State} (ht : spoolPart t = spoolPart s) : Answers P (.next (Machine.settle t)) :=
    kept.event (kept.part ht h)
  cases i with
  | powerOn => exact kept.event (kept.part (spoolPart_powerUp s) (kept.fullReset s))
  | resetPinAssert => exact kept.event (kept.part (spoolPart_assertReset s) (kept.fullReset s))
  | fullResetComplete => exact same (spoolPart_finishFull s)
  | softResetComplete => exact same (spoolPart_finishSoft s)
  | resetFull => exact kept.request _ (fun r _ => kept.resetBlock 2 r) h
  | resetSoft => exact kept.request _ (fun r _ => kept.resetBlock 1 r) h
  | linkByteReceived l b => exact kept.event (kept.byteReceived l b h)
  | characterError l => exact same (spoolPart_characterFault l s)
  | transmitEnd l => exact same (spoolPart_frameSent l s)
  | clearKiosk l _ named => exact kept.request _ (fun _ _ => kept.clearKioskBlock l named) h
  | printOpen _ _ target => exact kept.kioskRequest _ (fun k _ => kept.opened target k) h
  | printData _ _ id data => exact kept.kioskRequest _ (fun k _ => kept.data id data k) h
  | printClose _ _ id => exact kept.kioskRequest _ (fun k _ => kept.close id k) h
  | printCancel _ _ id => exact kept.kioskRequest _ (fun k _ => kept.cancel id k) h
  | fillStallExpiry id => exact kept.event (kept.stall id h)
  | jobStatus l _ id collect => exact kept.request _ (fun _ _ => kept.collect l id collect) h
  | quotaSet _ _ kiosk quota => exact kept.request _ (fun _ _ => kept.quota kiosk quota) h
  | fillLimitSet _ _ limit => exact kept.request _ (fun _ _ => kept.limit limit) h
  | leaseExpiry id => exact same (spoolPart_expireLease id s)
  | waitLimitExpiry id => exact same (spoolPart_expireWait id s)
  | unitDefine _ _ slot address kind mode enable =>
    exact kept.request _ (fun _ _ => kept.unitDefineBlock slot address kind mode enable) h
  | unitRemove _ _ slot => exact kept.request _ (fun _ _ => kept.unitRemoveBlock slot) h
  | reprobeTimerExpiry i => exact same (spoolPart_expireReprobe i s)
  | attnLineChange i high => exact same (spoolPart_attentionChange i high s)
  | busRawComplete a => exact kept.event (kept.completeRaw a h)
  | busAbort => exact kept.request _ (fun _ _ => kept.busAbortBlock) h
  | stallTimerExpiry sent received => exact kept.event (kept.expireStall sent received h)
  | releaseSequenceEnd => exact same (spoolPart_endRelease s)
  | releaseWaitTimeout => exact same (spoolPart_giveUpRelease s)
  | markStartComplete | creditReadComplete | feedComplete | markEndComplete | pstateReadComplete | markAbortComplete
  | ssetComplete | sgoComplete | availReadComplete | pullComplete | sstateReadComplete | shaltComplete
  | pingComplete | restartComplete | identComplete | causePollComplete | contactsReadComplete =>
    exact kept.event (kept.complete _ _ h)
  | _ => -- the blocks of the other requests leave the Spooler and the engines alone
    exact kept.otherRequest _ (by simp) h

theorem tick (h : P s) : P (Machine.tick s) := by
  unfold Machine.tick
  split_ifs
  · exact h
  · exact kept.part (s := s) rfl h
  · exact kept.part (s := Machine.settle s) rfl (kept.settle h)

/-- Every step keeps the law. -/
theorem keptByStep : KeptByStep P := by
  intro s t h hstep
  unfold step at hstep
  split at hstep
  · cases hstep
    exact kept.tick h
  · next c rest _ =>
    have front : P { s with pending := rest } := kept.part (s := s) rfl h
    exact kept.exec c front t hstep

end SpoolKept

end Sys2Proof.Machine
end

section
/-!
PROOFS. The job table and what the Spooler's operations make of it: lookups, changed, inserted and removed records, the
want-room tests, and the ending of a job field by field.
-/

namespace Sys2Proof.Machine

/-! ### Lookups (R75, R78) -/

section
variable {s t : State} {id : Nat} {j : Job}

theorem job_id (h : job? s id = some j) : j.id = id := by
  simpa using List.find?_some h

theorem job_mem (h : job? s id = some j) : j ∈ s.jobs := List.mem_of_find?_eq_some h

theorem job_self (h : job? s id = some j) : job? s j.id = some j := by rwa [job_id h]

theorem job_congr (jobs : t.jobs = s.jobs) (id : Nat) : job? t id = job? s id := by
  unfold job?
  rw [jobs]

theorem headJob_congr (jobs : t.jobs = s.jobs) (queues : t.printQueue = s.printQueue) (i : Slot) :
    headJob? t i = headJob? s i := by
  unfold headJob?
  rw [queues, funext (job_congr jobs)]

theorem headJob_eq_some {i : Slot} : headJob? s i = some j ↔
    (s.printQueue[i]).head? = some j.id ∧ job? s j.id = some j := by
  constructor
  · intro h
    obtain ⟨id, first, found⟩ := Option.bind_eq_some_iff.mp h
    rw [job_id found]
    exact ⟨first, found⟩
  · rintro ⟨first, found⟩
    exact Option.bind_eq_some_iff.mpr ⟨_, first, found⟩

theorem job_unique {l : List Job} (ids : l.Pairwise fun j k => j.id < k.id) {j k : Job} (hj : j ∈ l) (hk : k ∈ l)
    (same : j.id = k.id) : j = k :=
  List.inj_on_of_nodup_map (List.pairwise_map.mpr (ids.imp Nat.ne_of_lt)) hj hk same

theorem job_eq_some (ids : s.jobs.Pairwise fun j k => j.id < k.id) : job? s id = some j ↔ j ∈ s.jobs ∧ j.id = id := by
  refine ⟨fun h => ⟨job_mem h, job_id h⟩, ?_⟩
  rintro ⟨mem, rfl⟩
  obtain ⟨k, hk⟩ : ∃ k, job? s j.id = some k :=
    Option.isSome_iff_exists.mp (List.find?_isSome.mpr ⟨j, mem, by simp⟩)
  rw [hk, job_unique ids (job_mem hk) mem (job_id hk)]

theorem job_eq_none : job? s id = none ↔ ∀ j ∈ s.jobs, j.id ≠ id := by simp [job?]

end

/-! ### A changed record -/

section
variable {s : State} {id : Nat} {f : Job → Job} (ids : ∀ j, (f j).id = j.id)
include ids

theorem job_modJob (x : Nat) : job? (modJob id f s) x = if x = id then (job? s x).map f else job? s x := by
  have sameId (j : Job) : (if j.id = id then f j else j).id = j.id := by split_ifs <;> simp [ids]
  have mapped : job? (modJob id f s) x = (job? s x).map fun j => if j.id = id then f j else j := by
    simp only [job?, modJob, List.find?_map, Function.comp_def, sameId]
  rw [mapped]
  cases found : job? s x with
  | none => simp
  | some j =>
    rw [Option.map_some, job_id found]
    split_ifs <;> rfl

theorem job_modJob_self {j : Job} (found : job? s id = some j) : job? (modJob id f s) id = some (f j) := by
  rw [job_modJob ids, if_pos rfl, found, Option.map_some]

/-- Every lookup when the record of a job has changed. -/
theorem job_modJob_found {j : Job} (found : job? s j.id = some j) (x : Nat) :
    job? (modJob j.id f s) x = if x = j.id then some (f j) else job? s x := by
  rw [job_modJob ids]
  split_ifs with same
  · rw [same, found, Option.map_some]
  · rfl

theorem job_modJob_ne {x : Nat} (other : x ≠ id) : job? (modJob id f s) x = job? s x := by
  rw [job_modJob ids, if_neg other]

end

/-! ### A record's place in the table -/

/-- The record with an id, with those before and after it. -/
theorem jobs_split {s : State} {id : Nat} {j : Job} (ids : s.jobs.Pairwise fun j k => j.id < k.id)
    (found : job? s id = some j) : ∃ a b, s.jobs = a ++ j :: b ∧ ∀ x ∈ a ++ b, x.id ≠ id := by
  obtain ⟨a, b, parts⟩ := List.append_of_mem (job_mem found)
  refine ⟨a, b, parts, fun x hx => ?_⟩
  rw [parts, List.pairwise_append, List.pairwise_cons] at ids
  obtain ⟨-, ⟨after, -⟩, before⟩ := ids
  rw [← job_id found]
  obtain hx | hx := List.mem_append.mp hx
  · exact Nat.ne_of_lt (before x hx j List.mem_cons_self)
  · exact (Nat.ne_of_lt (after x hx)).symm

theorem modJob_split {s : State} {j : Job} {a b : List Job} (f : Job → Job) (parts : s.jobs = a ++ j :: b)
    (others : ∀ x ∈ a ++ b, x.id ≠ j.id) : (modJob j.id f s).jobs = a ++ f j :: b := by
  have same (l : List Job) (h : ∀ x ∈ l, x.id ≠ j.id) : (l.map fun x => if x.id = j.id then f x else x) = l :=
    (List.map_congr_left fun x hx => if_neg (h x hx)).trans (List.map_id l)
  simp only [modJob, parts, List.map_append, List.map_cons, if_pos]
  rw [same a fun x hx => others x (List.mem_append_left b hx), same b fun x hx => others x (List.mem_append_right a hx)]

/-! ### Want-room tests (R74) -/

/-- Whether a kiosk wants room and its held count is below its quota (R74). -/
def KioskSpool.roomMade (q : KioskSpool) : Bool := q.wantRoom && decide (q.held < q.quota)

/-- A kiosk's figures after its want-room test. -/
def KioskSpool.tested (q : KioskSpool) : KioskSpool := if q.roomMade then { q with wantRoom := false } else q

theorem KioskSpool.tested_held (q : KioskSpool) : q.tested.held = q.held := by unfold tested; split_ifs <;> rfl

theorem KioskSpool.tested_quota (q : KioskSpool) : q.tested.quota = q.quota := by unfold tested; split_ifs <;> rfl

theorem wantRoomTest_eq (k : Kiosk) (s : State) : wantRoomTest k s =
    if (s.kioskSpool[k]).roomMade then
      latch k .spoolRoom (modQuota k (fun q => { q with wantRoom := false }) s) else s := rfl

/-- The state with what a want-room test may change taken from a fixed one. -/
def offWant (base s : State) : State := { s with kioskSpool := base.kioskSpool, notices := base.notices }

/-- Every kiosk's want-room test (R74). -/
def roomTests (s : State) : State := forEach (indices 8) wantRoomTest s

theorem roomTests_frame (base s : State) : offWant base (roomTests s) = offWant base s :=
  forEach_frame (offWant base) (fun k t => by rw [wantRoomTest_eq]; split_ifs <;> rfl) _ s

theorem wantRoomTest_kioskSpool (k m : Kiosk) (s : State) : (wantRoomTest k s).kioskSpool[m] =
    if k = m then (s.kioskSpool[m]).tested else s.kioskSpool[m] := by
  rw [wantRoomTest_eq]
  by_cases room : (s.kioskSpool[k]).roomMade
  · rw [if_pos room]
    show (upd s.kioskSpool k _)[m] = _
    rw [upd_get]
    split_ifs with same
    · subst same
      rw [KioskSpool.tested, if_pos room]
    · rfl
  · rw [if_neg room]
    split_ifs with same
    · subst same
      rw [KioskSpool.tested, if_neg room]
    · rfl

theorem wantRoomTest_notices (k m : Kiosk) (s : State) : (wantRoomTest k s).notices[m] =
    if k = m ∧ (s.kioskSpool[m]).roomMade = true then
      { s.notices[m] with pending := (s.notices[m]).pending ||| NoticeClass.spoolRoom.set } else s.notices[m] := by
  rw [wantRoomTest_eq]
  by_cases room : (s.kioskSpool[k]).roomMade
  · rw [if_pos room]
    show (upd s.notices k _)[m] = _
    rw [upd_get]
    by_cases same : k = m
    · subst same
      rw [if_pos rfl, if_pos ⟨rfl, room⟩]
    · rw [if_neg same, if_neg fun h => same h.1]
  · rw [if_neg room, if_neg]
    rintro ⟨rfl, made⟩
    exact room made

/-- A loop of want-room tests of distinct kiosks tests each once. -/
theorem wantRoomTests (l : List Kiosk) (once : l.Nodup) (m : Kiosk) (s : State) :
    (forEach l wantRoomTest s).kioskSpool[m] = (if m ∈ l then (s.kioskSpool[m]).tested else s.kioskSpool[m]) ∧
    (forEach l wantRoomTest s).notices[m] = if m ∈ l ∧ (s.kioskSpool[m]).roomMade = true then
      { s.notices[m] with pending := (s.notices[m]).pending ||| NoticeClass.spoolRoom.set } else s.notices[m] := by
  induction l generalizing s with
  | nil => simp
  | cons k l ih =>
    obtain ⟨new, once⟩ := List.nodup_cons.mp once
    obtain ⟨figures, notices⟩ := ih once (wantRoomTest k s)
    rw [forEach_cons, figures, notices, wantRoomTest_kioskSpool, wantRoomTest_notices]
    by_cases same : k = m
    · subst same
      simp [new]
    · simp [same, Ne.symm same, List.mem_cons]

theorem roomTests_kioskSpool (m : Kiosk) (s : State) :
    (roomTests s).kioskSpool[m] = (s.kioskSpool[m]).tested := by
  have all := (wantRoomTests (indices 8) (List.nodup_finRange 8) m s).1
  rwa [if_pos (mem_indices m)] at all

theorem roomTests_notices (m : Kiosk) (s : State) : (roomTests s).notices[m] =
    if (s.kioskSpool[m]).roomMade = true then
      { s.notices[m] with pending := (s.notices[m]).pending ||| NoticeClass.spoolRoom.set } else s.notices[m] := by
  have all := (wantRoomTests (indices 8) (List.nodup_finRange 8) m s).2
  simpa [roomTests] using all

/-! ### Freed blocks (R72, R73) -/

section
variable (k : Kiosk) (l : List Nat) (s : State)

/-- Blocks freed, before the want-room tests. -/
def blocksFreed : State := modQuota k (fun q => { q with held := q.held - l.length }) { s with free := s.free ++ l }

theorem freeBlocks_eq : freeBlocks k l s = roomTests (blocksFreed k l s) := rfl

/-- A field that the want-room tests leave alone is as when the blocks were freed. -/
theorem freeBlocks_field {α : Type} (field : State → α)
    (blind : ∀ base u, field (offWant base u) = field u := by exact fun _ _ => rfl) :
    field (freeBlocks k l s) = field (blocksFreed k l s) := by
  rw [freeBlocks_eq, ← blind s, roomTests_frame s, blind]

@[simp] theorem freeBlocks_free : (freeBlocks k l s).free = s.free ++ l := freeBlocks_field k l s State.free
@[simp] theorem freeBlocks_jobs : (freeBlocks k l s).jobs = s.jobs := freeBlocks_field k l s State.jobs
@[simp] theorem freeBlocks_terminal : (freeBlocks k l s).terminal = s.terminal := freeBlocks_field k l s State.terminal
@[simp] theorem freeBlocks_printQueue : (freeBlocks k l s).printQueue = s.printQueue :=
  freeBlocks_field k l s State.printQueue
@[simp] theorem freeBlocks_nextJob : (freeBlocks k l s).nextJob = s.nextJob := freeBlocks_field k l s State.nextJob
@[simp] theorem freeBlocks_spool : (freeBlocks k l s).spool = s.spool := freeBlocks_field k l s State.spool
@[simp] theorem freeBlocks_fillLimit : (freeBlocks k l s).fillLimit = s.fillLimit :=
  freeBlocks_field k l s State.fillLimit
@[simp] theorem freeBlocks_units : (freeBlocks k l s).units = s.units := freeBlocks_field k l s State.units
@[simp] theorem freeBlocks_feeds : (freeBlocks k l s).feeds = s.feeds := freeBlocks_field k l s State.feeds

theorem freeBlocks_kioskSpool (m : Kiosk) : (freeBlocks k l s).kioskSpool[m] =
    (if k = m then { s.kioskSpool[m] with held := (s.kioskSpool[m]).held - l.length }
      else s.kioskSpool[m] : KioskSpool).tested := by
  rw [freeBlocks_eq, roomTests_kioskSpool]
  exact congrArg KioskSpool.tested (upd_get ..)

theorem freeBlocks_held (m : Kiosk) : ((freeBlocks k l s).kioskSpool[m]).held =
    if k = m then (s.kioskSpool[m]).held - l.length else (s.kioskSpool[m]).held := by
  rw [freeBlocks_kioskSpool, KioskSpool.tested_held]
  split_ifs <;> rfl

theorem freeBlocks_quota (m : Kiosk) : ((freeBlocks k l s).kioskSpool[m]).quota = (s.kioskSpool[m]).quota := by
  rw [freeBlocks_kioskSpool, KioskSpool.tested_quota]
  split_ifs <;> rfl

end

/-! ### The ending of a job (R77) -/

/-- A job's record when the job has ended. -/
def Job.ended (st : JobState) (pages : Option Half) (cause : Option JobCause) (j : Job) : Job :=
  { j with
    state := st, isOpen := false, chain := [], fill := 0, stallEnd := false, pages := pages, cause := cause }

/-- A job off its queue, its record ended. -/
def jobTaken (j : Job) (st : JobState) (pages : Option Half) (cause : Option JobCause) (s : State) : State :=
  { modJob j.id (Job.ended st pages cause) s with
    printQueue := upd s.printQueue j.slot fun q => q.filter fun x => x ≠ j.id }

/-- A job's blocks freed, its id on the terminal list. -/
def jobFreed (j : Job) (s : State) : State :=
  { freeBlocks j.kiosk j.chain s with terminal := s.terminal ++ [j.id] }

section
variable (j : Job) (s : State)

@[simp] theorem jobFreed_jobs : (jobFreed j s).jobs = s.jobs := by simp [jobFreed]
@[simp] theorem jobFreed_printQueue : (jobFreed j s).printQueue = s.printQueue := by simp [jobFreed]
@[simp] theorem jobFreed_nextJob : (jobFreed j s).nextJob = s.nextJob := by simp [jobFreed]
@[simp] theorem jobFreed_spool : (jobFreed j s).spool = s.spool := by simp [jobFreed]
@[simp] theorem jobFreed_fillLimit : (jobFreed j s).fillLimit = s.fillLimit := by simp [jobFreed]
@[simp] theorem jobFreed_units : (jobFreed j s).units = s.units := by simp [jobFreed]
@[simp] theorem jobFreed_feeds : (jobFreed j s).feeds = s.feeds := by simp [jobFreed]
@[simp] theorem jobFreed_free : (jobFreed j s).free = s.free ++ j.chain := by simp [jobFreed]
theorem jobFreed_kioskSpool (m : Kiosk) : (jobFreed j s).kioskSpool[m] =
    (if j.kiosk = m then { s.kioskSpool[m] with held := (s.kioskSpool[m]).held - j.chain.length }
      else s.kioskSpool[m] : KioskSpool).tested := by
  simp only [jobFreed]
  exact freeBlocks_kioskSpool j.kiosk j.chain s m

end

/-- The notice of a job's ending (R77 step 4). -/
def tellEnd (k : Kiosk) (st : JobState) (s : State) : State :=
  match st with
  | .done => latch k .jobDone s
  | .failed => latch k .jobFailed s
  | _ => s

theorem tellEnd_frame (base : State) (k : Kiosk) (st : JobState) (s : State) :
    offNotices base (tellEnd k st s) = offNotices base s := by
  unfold tellEnd
  split <;> rfl

section
variable {s : State} {j : Job} (found : job? s j.id = some j) (st : JobState) (pages : Option Half)
  (cause : Option JobCause)
include found

/-- A job that ends leaves its queue and frees its chain, joins the terminal list, and its kiosk is told. -/
theorem endJob_eq : endJob j.id st pages cause s = tellEnd j.kiosk st (jobFreed j (jobTaken j st pages cause s)) := by
  have terminal : (freeBlocks j.kiosk j.chain (jobTaken j st pages cause s)).terminal = s.terminal :=
    freeBlocks_terminal ..
  have taken : modJob j.id (fun x => { x with
      state := st, isOpen := false, chain := [], fill := 0, stallEnd := false, pages := pages, cause := cause }) s =
    modJob j.id (Job.ended st pages cause) s := rfl
  unfold endJob jobFreed
  simp only [found, taken]
  show tellEnd j.kiosk st
    { freeBlocks j.kiosk j.chain (jobTaken j st pages cause s) with
      terminal := (freeBlocks j.kiosk j.chain (jobTaken j st pages cause s)).terminal ++ [j.id] } = _
  rw [terminal]
  generalize freeBlocks j.kiosk j.chain (jobTaken j st pages cause s) = t
  rfl

/-- A field that latching leaves alone, at the ending of a job. -/
theorem endJob_field {α : Type} (field : State → α)
    (blind : ∀ base u, field (offNotices base u) = field u := by exact fun _ _ => rfl) :
    field (endJob j.id st pages cause s) = field (jobFreed j (jobTaken j st pages cause s)) := by
  rw [endJob_eq found, ← blind s, tellEnd_frame s, blind]

theorem endJob_jobs : (endJob j.id st pages cause s).jobs = (modJob j.id (Job.ended st pages cause) s).jobs :=
  (endJob_field found st pages cause State.jobs).trans (jobFreed_jobs ..)

theorem endJob_printQueue : (endJob j.id st pages cause s).printQueue =
    upd s.printQueue j.slot fun q => q.filter fun x => x ≠ j.id :=
  (endJob_field found st pages cause State.printQueue).trans (jobFreed_printQueue ..)

theorem endJob_free : (endJob j.id st pages cause s).free = s.free ++ j.chain :=
  (endJob_field found st pages cause State.free).trans (jobFreed_free ..)

theorem endJob_terminal : (endJob j.id st pages cause s).terminal = s.terminal ++ [j.id] :=
  endJob_field found st pages cause State.terminal

theorem endJob_nextJob : (endJob j.id st pages cause s).nextJob = s.nextJob :=
  (endJob_field found st pages cause State.nextJob).trans (jobFreed_nextJob ..)

theorem endJob_spool : (endJob j.id st pages cause s).spool = s.spool :=
  (endJob_field found st pages cause State.spool).trans (jobFreed_spool ..)

theorem endJob_fillLimit : (endJob j.id st pages cause s).fillLimit = s.fillLimit :=
  (endJob_field found st pages cause State.fillLimit).trans (jobFreed_fillLimit ..)

theorem endJob_units : (endJob j.id st pages cause s).units = s.units :=
  (endJob_field found st pages cause State.units).trans (jobFreed_units ..)

theorem endJob_feeds : (endJob j.id st pages cause s).feeds = s.feeds :=
  (endJob_field found st pages cause State.feeds).trans (jobFreed_feeds ..)

theorem endJob_kioskSpool (m : Kiosk) : (endJob j.id st pages cause s).kioskSpool[m] =
    (if j.kiosk = m then { s.kioskSpool[m] with held := (s.kioskSpool[m]).held - j.chain.length }
      else s.kioskSpool[m] : KioskSpool).tested :=
  (endJob_field found st pages cause fun u => u.kioskSpool[m]).trans (jobFreed_kioskSpool ..)

/-- The ended job's record, and every other. -/
theorem job_endJob (x : Nat) : job? (endJob j.id st pages cause s) x =
    if x = j.id then some (j.ended st pages cause) else job? s x := by
  rw [job_congr (endJob_jobs found st pages cause), job_modJob (f := Job.ended st pages cause) fun _ => rfl]
  split_ifs with same
  · rw [same, found, Option.map_some]
  · rfl

end

end Sys2Proof.Machine
end

section
/-!
PROOFS. A law of the job table is kept by every step when it survives the few changes the Spooler makes to records: the walk
through the reports of the Feed Engines (R90), the outcomes and causes of a printer, and the requests of chapter 4.
-/

namespace Sys2Proof.Machine

/-! ### A new record (R82) -/

/-- The id PRINT OPEN draws (R78). -/
def drawnJob (s : State) : Nat :=
  freshId (fun v => s.jobs.any fun j => j.id = v) 65535 (s.jobs.length + 1) s.nextJob

/-- The record PRINT OPEN makes (R82). -/
def newJob (k : Kiosk) (any : Bool) (i : Slot) (s : State) : Job :=
  { id := drawnJob s, kiosk := k, anyTarget := any, slot := i, state := .filling, isOpen := true, chain := [], spooled := 0,
    fed := 0, fill := 0, lastData := s.hubTime, stallEnd := false, pages := none, cause := none }

/-- The new record in the table and at the tail of its slot's queue. -/
def jobCreated (k : Kiosk) (any : Bool) (i : Slot) (s : State) : State :=
  { s with
    jobs := insertJob (newJob k any i s) s.jobs, nextJob := nextId 65535 (drawnJob s)
    printQueue := upd s.printQueue i fun q => q ++ [drawnJob s] }

theorem createJob_eq (k : Kiosk) (any : Bool) (i : Slot) (s : State) :
    createJob k any i s = (drawnJob (reclaim s), jobCreated k any i (reclaim s)) := rfl

theorem reclaim_cases (s : State) : s.jobs.length < 24 ∧ reclaim s = s ∨
    24 ≤ s.jobs.length ∧ s.terminal = [] ∧ reclaim s = s ∨
    24 ≤ s.jobs.length ∧ ∃ id rest, s.terminal = id :: rest ∧ reclaim s = removeRecord id s := by
  unfold reclaim
  split_ifs with room
  · exact .inl ⟨room, rfl⟩
  · cases list : s.terminal with
    | nil => exact .inr (.inl ⟨by omega, rfl, rfl⟩)
    | cons id rest => exact .inr (.inr ⟨by omega, id, rest, rfl, rfl⟩)

theorem anyPrinter_candidate {s : State} {excluded : Option Slot} {i : Slot} (h : anyPrinter s excluded = some i) :
    printerCandidate s excluded i = true := by
  have member : ∀ l : List Slot, ∀ i, leastLoaded (queueLoad s) l = some i → i ∈ l := by
    intro l
    induction l with
    | nil => simp [leastLoaded]
    | cons a l ih =>
      intro i hi
      unfold leastLoaded at hi
      split at hi
      · obtain rfl : a = i := by simpa using hi
        exact List.mem_cons_self
      · next j rest =>
        split_ifs at hi
        · obtain rfl : a = i := by simpa using hi
          exact List.mem_cons_self
        · obtain rfl : j = i := by simpa using hi
          exact List.mem_cons_of_mem a (ih j rest)
  exact (List.mem_filter.mp (member _ i h)).2

theorem printerCandidate_iff {s : State} {excluded : Option Slot} {i : Slot} : printerCandidate s excluded i = true ↔
    definedKind s i = some .printer ∧ isReady s i = true ∧ (s.printQueue[i]).length < 8 ∧ excluded ≠ some i := by
  simp [printerCandidate, and_assoc]

/-! ### The jobs of a kiosk at CLEAR KIOSK (R95) -/

section
variable {s : State}

theorem job_cancelJob {j : Job} (found : job? s j.id = some j) {x : Nat} (other : x ≠ j.id) :
    job? (cancelJob j s) x = job? s x := by
  have cancelled (f : Job → Job) (hf : ∀ j, (f j).id = j.id) : job? (modJob j.id f s) x = job? s x :=
    job_modJob_ne hf other
  unfold cancelJob
  split
  · rw [job_endJob found, if_neg other]
  · rw [job_endJob found, if_neg other]
  · exact cancelled _ fun _ => rfl
  · exact cancelled _ fun _ => rfl
  · rfl

theorem cancelAll_keeps {P : State → Prop}
    (cancel : ∀ {s} {j : Job}, job? s j.id = some j → P s → P (cancelJob j s)) (l : List Job)
    (ids : l.Pairwise fun j k => j.id < k.id) (found : ∀ j ∈ l, job? s j.id = some j) (h : P s) :
    P (forEach l cancelJob s) := by
  induction l generalizing s with
  | nil => exact h
  | cons j l ih =>
    obtain ⟨after, ids⟩ := List.pairwise_cons.mp ids
    have first := found j List.mem_cons_self
    refine ih ids (fun k hk => ?_) (cancel first h)
    rw [job_cancelJob first (Nat.ne_of_gt (after k hk))]
    exact found k (List.mem_cons_of_mem j hk)

/-- CLEAR KIOSK ends or cancels each job of the kiosk, its record as it was when the command began. -/
theorem clearJobs_keeps {P : State → Prop} (law : ∀ {s}, P s → JobLaw s)
    (cancel : ∀ {s} {j : Job}, job? s j.id = some j → P s → P (cancelJob j s)) {k : Kiosk}
    (start : P (modQuota k (fun q => { q with wantRoom := false }) s)) : P (clearJobs k s) := by
  obtain ⟨ids, -⟩ := law start
  exact cancelAll_keeps cancel _ (ids.filter _) (fun j hj => (job_eq_some ids).mpr ⟨(List.mem_filter.mp hj).1, rfl⟩) start

end

/-! ### The requests of chapter 4, one change at a time -/

section
variable {P : State → Prop} {s : State} (h : P s)
include h

theorem onJob_keeps {id : Half} {k : Kiosk} {f : Job → State × List Byte}
    (hf : ∀ j, job? s j.id = some j → P (f j).1) : P (onJob id k s f).1 := by
  unfold onJob
  split
  · exact h
  · next j found =>
    split_ifs
    · exact h
    · exact hf j (job_self found)

/-- PRINT OPEN refuses or makes one record (R82). -/
theorem printOpenBlock_keeps {target : Byte} {k : Kiosk} (created : ∀ {i : Slot} (any : Bool),
      definedKind s i = some .printer → (s.printQueue[i]).length < 8 → tableFull s = false → P (createJob k any i s).2) :
    P (printOpenBlock target k s).1 := by
  have opens {any : Bool} {i : Slot} (kind : definedKind s i = some .printer) (room : (s.printQueue[i]).length < 8) :
      P (openOn k any i s).1 := by
    unfold openOn
    split_ifs with full
    · exact h
    · exact created any kind room (by simpa using full)
  unfold printOpenBlock
  split_ifs
  · split
    · exact h
    · next i chosen =>
      obtain ⟨kind, -, room, -⟩ := printerCandidate_iff.mp (anyPrinter_candidate chosen)
      exact opens kind room
  · split
    · exact h
    · split_ifs with kind room
      · exact h
      · exact h
      · exact opens (not_not.mp kind) (Nat.lt_of_not_le room)

/-- PRINT CANCEL refuses or cancels the job (R86, R87). -/
theorem printCancelBlock_keeps {id : Half} {k : Kiosk} (cancel : ∀ {j : Job}, job? s j.id = some j → P (cancelJob j s)) :
    P (printCancelBlock id k s).1 := by
  refine onJob_keeps h fun j found => ?_
  split
  · exact cancel found
  · exact cancel found
  · exact cancel found
  · exact cancel found
  · exact h

/-- JOB STATUS removes a terminal record at most (R91). -/
theorem jobStatusBlock_keeps {l : Link} {id : Half} {collect : Byte} (collected : ∀ {j : Job}, job? s j.id = some j →
      j.state.isTerminal = true → P (removeRecord j.id s)) : P (jobStatusBlock l id collect s).1 := by
  unfold jobStatusBlock
  split
  · exact h
  · next j found =>
    dsimp only
    split_ifs with _ goes
    · exact h
    · exact collected (job_self found) ((Bool.and_eq_true _ _).mp goes).2
    · exact h

end

theorem JobLaw.listed_of_terminal {s : State} {j : Job} (law : JobLaw s) (found : job? s j.id = some j)
    (ended : j.state.isTerminal = true) : j.id ∈ s.terminal := by
  obtain ⟨-, -, -, -, -, listed⟩ := law
  exact (listed j.id).mpr ⟨j, job_mem found, rfl, ended⟩

/-! ### What a law of the job table has to survive -/

/-- A change of a record's state or of whether it is open: the job stays where it is, it ends by no such change, no closed
job opens, and only a head job begins to print. -/
structure Reshaped (s : State) (j j' : Job) : Prop where
  same : j' = { j with state := j'.state, isOpen := j'.isOpen, stallEnd := j'.stallEnd }
  terminal : j'.state.isTerminal = j.state.isTerminal
  closed : j.isOpen = false → j'.isOpen = false
  prints : j'.state = .filling ∨ j'.state = .queued ∨ (∃ i : Slot, (s.printQueue[i]).head? = some j.id) ∨
    j.state ≠ .filling ∧ j.state ≠ .queued

/-- What a law of the job table has to survive. -/
structure JobsKept (P : State → Prop) : Prop where
  /-- It is about the Spooler and the kinds of the slots. -/
  part : ∀ {s t}, spoolPart t = spoolPart s → P s → P t
  /-- It is not about the engines. -/
  engine : ∀ {s} i f, P s → P (modFeed i f s)
  /-- A full reset (R96). -/
  full : P State.reset
  /-- A soft reset (R97). -/
  soft : ∀ {s}, P s → P (softSpooler s)
  /-- The ending of a job (R77). -/
  ended : ∀ {s} {j : Job} {st} pages cause, job? s j.id = some j → j.state.isTerminal = false → st.isTerminal = true →
    P s → P (endJob j.id st pages cause s)
  /-- A change of a record that leaves its chain. -/
  reshaped : ∀ {s} {j : Job} {f : Job → Job}, job? s j.id = some j → Reshaped s j (f j) → (∀ x, (f x).id = x.id) → P s →
    P (modJob j.id f s)
  /-- A block fed (R90). -/
  fed : ∀ {s} i, P s → P (reportFed i s)
  /-- Data accepted (R83). -/
  accepted : ∀ {s} {j : Job} data, job? s j.id = some j → j.isOpen = true → P s → P (acceptData j data s)
  /-- A new record (R82). -/
  created : ∀ {s} {i : Slot} k any, definedKind s i = some .printer → (s.printQueue[i]).length < 8 →
    tableFull s = false → P s → P (createJob k any i s).2
  /-- A terminal record removed (R79, R91). -/
  collected : ∀ {s} id, (JobLaw s → id ∈ s.terminal) → P s → P (removeRecord id s)
  /-- A quota set or a want-room flag changed (R74, R93). -/
  figures : ∀ {s} (k : Kiosk) f, (∀ q : KioskSpool, (f q).held = q.held) →
    (∀ q : KioskSpool, q.quota ≤ 1024 → (f q).quota ≤ 1024) → P s → P (modQuota k f s)
  /-- A fill limit set (R94). -/
  limit : ∀ {s} n, 1000 ≤ n → n ≤ 120000 → P s → P { s with fillLimit := n }

namespace JobsKept

variable {P : State → Prop} (kept : JobsKept P) {s : State}
include kept

/-! ### Endings -/

theorem failJob {j : Job} (cause : JobCause) (found : job? s j.id = some j) (lives : j.state.isTerminal = false)
    (h : P s) : P (Machine.failJob j.id cause s) := kept.ended _ _ found lives rfl h

theorem endCancelling {j : Job} (found : job? s j.id = some j) (lives : j.state.isTerminal = false) (h : P s) :
    P (Machine.endCancelling j s) := by
  unfold Machine.endCancelling
  split_ifs
  · exact kept.failJob _ found lives h
  · exact kept.ended _ _ found lives rfl h

theorem startCancelling {j : Job} (stall : Bool) (found : job? s j.id = some j)
    (printing : j.state = .feeding ∨ j.state = .draining) (h : P s) : P (Machine.startCancelling j stall s) := by
  refine kept.engine _ _ (kept.reshaped found ⟨rfl, ?_, fun _ => rfl, .inr (.inr (.inr ?_))⟩ (fun _ => rfl) h)
  · obtain st | st := printing <;> simp [st, JobState.isTerminal]
  · obtain st | st := printing <;> simp [st]

theorem cancelJob {j : Job} (found : job? s j.id = some j) (h : P s) : P (Machine.cancelJob j s) := by
  unfold Machine.cancelJob
  split
  · next st => exact kept.ended _ _ found (by rw [st]; rfl) rfl h
  · next st => exact kept.ended _ _ found (by rw [st]; rfl) rfl h
  · next st => exact kept.startCancelling _ found (.inl st) h
  · next st => exact kept.startCancelling _ found (.inr st) h
  · exact h

theorem stallJob {j : Job} (found : job? s j.id = some j) (h : P s) : P (Machine.stallJob j s) := by
  unfold Machine.stallJob
  split
  · next st => exact kept.failJob _ found (by rw [st]; rfl) h
  · next st => exact kept.startCancelling _ found (.inl st) h
  · exact h

theorem expireFill (id : Half) (h : P s) : P (Machine.expireFill id s) := by
  unfold Machine.expireFill
  split
  · exact h
  · next j found =>
    split_ifs
    · exact kept.stallJob (job_self found) h
    · exact h

/-! ### The reports of the Feed Engines (R90) -/

theorem reportStarted (i : Slot) (h : P s) : P (Machine.reportStarted i s) := by
  have start {j : Job} (head : headJob? s i = some j) (st : j.state = .filling ∨ j.state = .queued) :
      P (modJob j.id (fun j => { j with state := .feeding }) s) := by
    obtain ⟨first, found⟩ := headJob_eq_some.mp head
    refine kept.reshaped found ⟨rfl, ?_, id, .inr (.inr (.inl ⟨i, first⟩))⟩ (fun _ => rfl) h
    obtain st | st := st <;> simp [st, JobState.isTerminal]
  unfold Machine.reportStarted
  split
  · exact h
  · next j head =>
    split
    · next st => exact start head (.inl st)
    · next st => exact start head (.inr st)
    · exact h

theorem reportEndMark (i : Slot) (h : P s) : P (Machine.reportEndMark i s) := by
  unfold Machine.reportEndMark
  split
  · exact h
  · next j head =>
    split_ifs with printing
    · simp only [Bool.and_eq_true, decide_eq_true_eq] at printing
      obtain ⟨⟨st, -⟩, -⟩ := printing
      refine kept.reshaped (headJob_eq_some.mp head).2 ⟨rfl, ?_, id, .inr (.inr (.inr ?_))⟩ (fun _ => rfl) h
      · simp [st, JobState.isTerminal]
      · simp [st]
    · exact h

theorem reportJobEnd (i : Slot) (pages : Half) (h : P s) : P (Machine.reportJobEnd i pages s) := by
  unfold Machine.reportJobEnd
  split
  · exact h
  · next j head =>
    split_ifs with st
    · exact kept.ended _ _ (headJob_eq_some.mp head).2 (by rw [st]; rfl) rfl h
    · exact h

theorem reportAborted (i : Slot) (h : P s) : P (Machine.reportAborted i s) := by
  unfold Machine.reportAborted
  split
  · exact h
  · next j head =>
    have found := (headJob_eq_some.mp head).2
    split
    · next st => exact kept.failJob _ found (by rw [st]; rfl) h
    · next st => exact kept.failJob _ found (by rw [st]; rfl) h
    · exact h

theorem reportAbortEnded (i : Slot) (h : P s) : P (Machine.reportAbortEnded i s) := by
  unfold Machine.reportAbortEnded
  split
  · exact h
  · next j head =>
    split_ifs with st
    · exact kept.endCancelling (headJob_eq_some.mp head).2 (by rw [st]; rfl) h
    · exact h

theorem reportGone (i : Slot) (cause : JobCause) (h : P s) : P (Machine.reportGone i cause s) := by
  unfold Machine.reportGone
  split
  · exact h
  · next j head =>
    have found := (headJob_eq_some.mp head).2
    split
    · next st => exact kept.failJob _ found (by rw [st]; rfl) h
    · next st => exact kept.failJob _ found (by rw [st]; rfl) h
    · next st => exact kept.endCancelling found (by rw [st]; rfl) h
    · exact h

theorem reportLeft (id : Nat) (h : P s) : P (Machine.reportLeft id s) := by
  unfold Machine.reportLeft
  split
  · exact h
  · next j found =>
    obtain rfl := job_id found
    split
    · next st => exact kept.failJob _ found (by rw [st]; rfl) h
    · next st => exact kept.failJob _ found (by rw [st]; rfl) h
    · exact h

/-! ### Outcomes and causes (chapter 5) -/

theorem feedAct (i : Slot) (w : TxnName) (o : BusOutcome) (d : List Byte) (h : P s) : P (Machine.feedAct i w o d s) := by
  have ended : P (feedEnded i s) := kept.engine _ _ h
  unfold Machine.feedAct
  dsimp only
  generalize feedEnded i s = t at ended
  split
  · unfold actMarkStart
    split_ifs
    · split
      · exact kept.engine _ _ ended
      · exact kept.engine _ _ ended
      · exact ended
    · exact ended
  · unfold actCredit
    split_ifs
    · exact kept.engine _ _ ended
    · exact ended
  · unfold actFeed
    split
    · exact kept.engine _ _ (kept.fed i ended)
    · exact kept.engine _ _ ended
    · exact kept.engine _ _ ended
    · exact ended
  · unfold actMarkEnd
    split_ifs
    · split
      · exact kept.engine _ _ (kept.reportEndMark i ended)
      · exact kept.engine _ _ ended
      · exact ended
    · exact ended
  · unfold actPstate
    split_ifs
    · exact kept.engine _ _ (kept.reportJobEnd i _ ended)
    · exact ended
  · unfold actMarkAbort
    split_ifs
    · exact kept.engine _ _ (kept.reportAbortEnded i ended)
    · exact ended
  · exact ended

theorem printerCause (i : Slot) (b : Byte) (h : P s) : P (Machine.printerCause i b s) := by
  have choose {p : Bool} {f : State → State} {t : State} (hf : P t → P (f t)) (ht : P t) : P (if p then f t else t) := by
    split_ifs
    · exact hf ht
    · exact ht
  have aborted {t : State} (ht : P t) : P (causeAborted i t) := by
    unfold causeAborted
    split_ifs
    · exact kept.engine _ _ (kept.reportAborted i ht)
    · exact ht
  have jobEnd {t : State} (ht : P t) : P (causeJobEnd i t) := by
    unfold causeJobEnd
    split
    · exact kept.engine _ _ ht
    · exact kept.engine _ _ (kept.reportEndMark i ht)
    · exact ht
  have pause {c : PrinterCauses} {t : State} (ht : P t) : P (causePause i c t) := by
    unfold causePause
    split
    · exact ht
    · dsimp only
      split_ifs
      · exact kept.part (spoolPart_latchOpt ..) (kept.engine _ _ ht)
      · exact kept.engine _ _ ht
  have cleared {t : State} (ht : P t) : P (causeCleared i t) := by
    unfold causeCleared
    split_ifs
    · exact kept.part (spoolPart_latchOpt ..) (kept.engine _ _ ht)
    · exact kept.engine _ _ ht
    · exact ht
  exact choose cleared (pause (choose jobEnd (choose aborted (kept.engine _ _ h))))

theorem chooseFeed (i : Slot) (h : P s) : P (Machine.chooseFeed i s) := by
  unfold Machine.chooseFeed
  split_ifs
  · exact h
  · split
    · exact h
    · dsimp only
      refine kept.part (spoolPart_place ..) ?_
      split_ifs
      · exact kept.reportStarted i (kept.engine _ _ h)
      · exact kept.engine _ _ h

/-! ### The requests of chapter 4 -/

theorem printOpenBlock (target : Byte) (k : Kiosk) (h : P s) : P (Machine.printOpenBlock target k s).1 :=
  printOpenBlock_keeps h fun any kind room full => kept.created k any kind room full h

theorem printDataBlock (id : Half) (data : List Byte) (k : Kiosk) (h : P s) :
    P (Machine.printDataBlock id data k s).1 := by
  refine onJob_keeps h fun j found => ?_
  dsimp only
  split_ifs with closed
  · exact h
  · exact kept.accepted _ found (by simpa using closed) h
  · exact kept.figures _ _ (fun _ => rfl) (fun _ h => h) (kept.accepted _ found (by simpa using closed) h)

theorem printCloseBlock (id : Half) (k : Kiosk) (h : P s) : P (Machine.printCloseBlock id k s).1 := by
  refine onJob_keeps h fun j found => ?_
  split_ifs
  · exact h
  · refine kept.reshaped found ⟨rfl, ?_, fun _ => rfl, ?_⟩ (fun _ => rfl) h
    · show j.state.closed.isTerminal = j.state.isTerminal
      cases j.state <;> rfl
    · show j.state.closed = .filling ∨ j.state.closed = .queued ∨ _ ∨ _
      cases j.state <;> simp [JobState.closed]

theorem printCancelBlock (id : Half) (k : Kiosk) (h : P s) : P (Machine.printCancelBlock id k s).1 :=
  printCancelBlock_keeps h fun found => kept.cancelJob found h

theorem jobStatusBlock (l : Link) (id : Half) (collect : Byte) (h : P s) :
    P (Machine.jobStatusBlock l id collect s).1 :=
  jobStatusBlock_keeps h fun found ended => kept.collected _ (fun law => law.listed_of_terminal found ended) h

theorem wantRoomTest (k : Kiosk) (h : P s) : P (Machine.wantRoomTest k s) := by
  rw [wantRoomTest_eq]
  split_ifs
  · exact kept.part (spoolPart_latch ..) (kept.figures _ _ (fun _ => rfl) (fun _ h => h) h)
  · exact h

theorem quotaSetBlock (kiosk : Byte) (quota : Half) (h : P s) : P (Machine.quotaSetBlock kiosk quota s).1 := by
  unfold Machine.quotaSetBlock
  split
  · exact h
  · exact kept.wantRoomTest _ (kept.figures _ _ (fun _ => rfl) (fun _ _ => Nat.min_le_left ..) h)

theorem fillLimitBlock (limit : Word) (h : P s) : P (Machine.fillLimitBlock limit s).1 :=
  kept.limit _ (by omega) (by omega) h

/-! ### Printers that go -/

theorem moveAll_lost (moved : ∀ {s} (i : Slot), P s → P (forEach (s.printQueue[i]) (moveAnyJob i) s)) (i : Slot)
    (cause : JobCause) (h : P s) : P (printerGone i cause s) :=
  kept.engine _ _ (moved i (kept.reportGone i cause h))

/-- A law of the job table that survives what happens to a slot's queue, and CLEAR KIOSK, is kept by every step. -/
theorem spoolKept (moved : ∀ {s} (i : Slot), P s → P (forEach (s.printQueue[i]) (moveAnyJob i) s))
    (removed : ∀ {s} i, P s → P (printerRemoved i s) → P (vacated i none (printerRemoved i s)))
    (changed : ∀ {s} i kind, definedKind s i ≠ some .printer → P s → P (vacated i kind s))
    (clearJobs : ∀ {s} k, P s → P (clearJobs k s)) : SpoolKept P where
  part := kept.part
  full := kept.full
  soft := kept.soft
  feedAct := kept.feedAct
  cause := kept.printerCause
  lost i := kept.moveAll_lost moved i .unitLost
  choose := kept.chooseFeed
  removed i h := removed i h (forEach_keeps (fun id _ _ => kept.reportLeft id) (kept.moveAll_lost moved i .unitRemoved h))
  changed := changed
  clearJobs := clearJobs
  opened := kept.printOpenBlock
  data := kept.printDataBlock
  close := kept.printCloseBlock
  cancel := kept.printCancelBlock
  collect := kept.jobStatusBlock
  quota := kept.quotaSetBlock
  limit := kept.fillLimitBlock
  stall := kept.expireFill

/-- CLEAR KIOSK ends or cancels each job of the kiosk (R95). -/
theorem clearJobs (law : ∀ {s}, P s → JobLaw s) (k : Kiosk) (h : P s) : P (Machine.clearJobs k s) :=
  clearJobs_keeps law (fun found => kept.cancelJob found) (kept.figures _ _ (fun _ => rfl) (fun _ h => h) h)

end JobsKept

end Sys2Proof.Machine
end

section
/-!
PROOFS. The law of the job table and the terminal list (R75, R78, R79) under each change the Spooler makes.
-/

namespace Sys2Proof.Machine

variable {s t : State}

/-! ### Terminal records -/

/-- The terminal ids, by lookup. -/
theorem terminal_iff (ids : s.jobs.Pairwise fun j k => j.id < k.id) (id : Nat) :
    (∃ j ∈ s.jobs, j.id = id ∧ j.state.isTerminal = true) ↔ ∃ j, job? s id = some j ∧ j.state.isTerminal = true := by
  simp only [job_eq_some ids, and_assoc]

theorem JobLaw.listed (law : JobLaw s) {id : Nat} {j : Job} (found : job? s id = some j) :
    id ∈ s.terminal ↔ j.state.isTerminal = true := by
  obtain ⟨ids, -, -, -, -, listed⟩ := law
  rw [listed, terminal_iff ids, found]
  simp

theorem JobLaw.congr (law : JobLaw s) (jobs : t.jobs = s.jobs) (next : t.nextJob = s.nextJob)
    (terminal : t.terminal = s.terminal) : JobLaw t := by
  unfold JobLaw at law ⊢
  rwa [jobs, next, terminal]

theorem JobLaw.part (law : JobLaw s) (same : spoolPart t = spoolPart s) : JobLaw t :=
  law.congr (congrArg State.jobs same :) (congrArg State.nextJob same :) (congrArg State.terminal same :)

/-! ### A changed record -/

/-- One record changed, its id kept, with the terminal list to match. -/
theorem JobLaw.of_modJob (law : JobLaw s) {j : Job} (found : job? s j.id = some j) {f : Job → Job}
    (same : ∀ x, (f x).id = x.id) (jobs : t.jobs = (modJob j.id f s).jobs) (next : t.nextJob = s.nextJob)
    (once : t.terminal.Nodup)
    (listed : ∀ id, id ∈ t.terminal ↔ if id = j.id then (f j).state.isTerminal = true else id ∈ s.terminal) : JobLaw t := by
  have sameId (x : Job) : (if x.id = j.id then f x else x).id = x.id := by split_ifs <;> simp [same]
  have lawful := law
  obtain ⟨ids, range, few, range', -, -⟩ := law
  have ids' : (modJob j.id f s).jobs.Pairwise fun j k => j.id < k.id := by
    simpa only [modJob, List.pairwise_map, sameId] using ids
  refine ⟨jobs ▸ ids', ?_, ?_, next ▸ range', once, fun id => ?_⟩
  · simpa only [jobs, modJob, List.forall_mem_map, sameId] using range
  · simpa only [jobs, modJob, List.length_map] using few
  · rw [listed, jobs, terminal_iff ids', job_modJob same]
    split_ifs with h
    · rw [h, found]
      simp
    · cases other : job? s id with
      | none =>
        rw [lawful.2.2.2.2.2, terminal_iff ids, other]
      | some x => rw [lawful.listed other]; simp

theorem JobLaw.modJob (law : JobLaw s) {j : Job} (found : job? s j.id = some j) {f : Job → Job}
    (same : ∀ x, (f x).id = x.id) (lives : (f j).state.isTerminal = j.state.isTerminal) :
    JobLaw (Machine.modJob j.id f s) := by
  have listed := law.listed found
  refine law.of_modJob found same rfl rfl law.2.2.2.2.1 fun id => ?_
  show id ∈ s.terminal ↔ _
  split_ifs with h
  · rw [h, listed, lives]
  · rfl

theorem JobLaw.endJob (law : JobLaw s) {j : Job} (found : job? s j.id = some j) (lives : j.state.isTerminal = false)
    {st : JobState} (ends : st.isTerminal = true) (pages : Option Half) (cause : Option JobCause) :
    JobLaw (Machine.endJob j.id st pages cause s) := by
  have new : j.id ∉ s.terminal := by simp [law.listed found, lives]
  have once := law.2.2.2.2.1
  refine law.of_modJob found (f := Job.ended st pages cause) (fun _ => rfl) (endJob_jobs found ..) (endJob_nextJob found ..)
    ?_ fun id => ?_
  · rw [endJob_terminal found]
    exact once.append (List.nodup_singleton _) (by simpa using new)
  · rw [endJob_terminal found, List.mem_append, List.mem_singleton]
    split_ifs with h
    · simp [h, Job.ended, ends]
    · simp [h]

/-! ### A record inserted or removed (R79, R82, R91) -/

@[simp] theorem mem_insertJob {j k : Job} {l : List Job} : k ∈ insertJob j l ↔ k = j ∨ k ∈ l := by
  induction l with
  | nil => simp [insertJob]
  | cons x xs ih =>
    unfold insertJob
    split_ifs
    · simp
    · simp only [List.mem_cons, ih]
      tauto

theorem insertJob_perm (j : Job) (l : List Job) : (insertJob j l).Perm (j :: l) := by
  induction l with
  | nil => exact .refl _
  | cons x xs ih =>
    unfold insertJob
    split_ifs
    · exact .refl _
    · exact (ih.cons x).trans (.swap j x xs)

theorem insertJob_ascending {j : Job} {l : List Job} (ids : l.Pairwise fun a b => a.id < b.id)
    (new : ∀ k ∈ l, k.id ≠ j.id) : (insertJob j l).Pairwise fun a b => a.id < b.id := by
  induction l with
  | nil => simp [insertJob]
  | cons x xs ih =>
    obtain ⟨above, rest⟩ := List.pairwise_cons.mp ids
    have other := new x List.mem_cons_self
    unfold insertJob
    split_ifs with before
    · refine List.pairwise_cons.mpr ⟨fun k hk => ?_, ids⟩
      obtain rfl | hk := List.mem_cons.mp hk
      · exact before
      · exact before.trans (above k hk)
    · refine List.pairwise_cons.mpr ⟨fun k hk => ?_, ih rest fun k hk => new k (List.mem_cons_of_mem x hk)⟩
      obtain rfl | hk := mem_insertJob.mp hk
      · omega
      · exact above k hk

/-- The id PRINT OPEN draws is in range and no record's. -/
theorem drawnJob_new (law : JobLaw s) : (∀ j ∈ s.jobs, j.id ≠ drawnJob s) ∧ 1 ≤ drawnJob s ∧ drawnJob s ≤ 65535 := by
  obtain ⟨-, -, few, ⟨low, high⟩, -, -⟩ := law
  refine ⟨?_, freshId_range _ low high⟩
  obtain ⟨n, hn, unused⟩ := triedId_unused (s.jobs.map Job.id) (last := 65535) s.nextJob (by simp; omega)
  have free := freshId_unused (used := fun v => s.jobs.any fun j => j.id = v) (s.jobs.length + 1) low high
    ⟨n, by simpa using hn, by simpa using unused⟩
  simpa [drawnJob] using free

theorem JobLaw.created (law : JobLaw s) (room : s.jobs.length < 24) (k : Kiosk) (any : Bool) (i : Slot) :
    JobLaw (jobCreated k any i s) := by
  obtain ⟨new, low, high⟩ := drawnJob_new law
  obtain ⟨ids, range, -, -, once, listed⟩ := law
  refine ⟨insertJob_ascending ids new, ?_, ?_, nextId_range low high, once, fun id => ?_⟩
  · rintro j hj
    obtain rfl | hj := mem_insertJob.mp hj
    · exact ⟨low, high⟩
    · exact range j hj
  · have length := (insertJob_perm (newJob k any i s) s.jobs).length_eq
    rw [List.length_cons] at length
    exact length.trans_le room
  · refine (listed id).trans ⟨?_, ?_⟩
    · rintro ⟨j, hj, same, ended⟩
      exact ⟨j, mem_insertJob.mpr (.inr hj), same, ended⟩
    · rintro ⟨j, hj, same, ended⟩
      obtain rfl | hj := mem_insertJob.mp hj
      · cases ended
      · exact ⟨j, hj, same, ended⟩

/-- A terminal record of the table and those before and after it, when it is removed. -/
theorem removeRecord_jobs {j : Job} {a b : List Job} (parts : s.jobs = a ++ j :: b)
    (others : ∀ x ∈ a ++ b, x.id ≠ j.id) : (removeRecord j.id s).jobs = a ++ b := by
  have keep (l : List Job) (h : ∀ x ∈ l, x.id ≠ j.id) : (l.filter fun x => x.id ≠ j.id) = l :=
    List.filter_eq_self.mpr fun x hx => by simpa using h x hx
  show s.jobs.filter _ = _
  rw [parts, List.filter_append, List.filter_cons_of_neg (by simp),
    keep a fun x hx => others x (List.mem_append_left b hx), keep b fun x hx => others x (List.mem_append_right a hx)]

theorem JobLaw.collected (law : JobLaw s) (id : Nat) : JobLaw (removeRecord id s) := by
  obtain ⟨ids, range, few, next, once, listed⟩ := law
  refine ⟨ids.filter _, fun j hj => range j (List.mem_of_mem_filter hj), (List.length_filter_le ..).trans few, next,
    once.filter _, fun x => ?_⟩
  simp only [removeRecord, List.mem_filter, listed, ne_eq, decide_not, Bool.not_eq_true', decide_eq_false_iff_not]
  constructor
  · rintro ⟨⟨j, hj, rfl, ended⟩, other⟩
    exact ⟨j, ⟨hj, other⟩, rfl, ended⟩
  · rintro ⟨j, ⟨hj, other⟩, rfl, ended⟩
    exact ⟨⟨j, hj, rfl, ended⟩, other⟩

/-- A full table with a terminal record has room when the oldest has gone. -/
theorem JobLaw.reclaim_room (law : JobLaw s) (full : tableFull s = false) : (reclaim s).jobs.length < 24 := by
  obtain ⟨room, same⟩ | ⟨all, none, -⟩ | ⟨-, id, rest, list, same⟩ := reclaim_cases s
  · rwa [same]
  · simp [tableFull, all, none] at full
  · obtain ⟨ids, -, few, -, -, listed⟩ := law
    obtain ⟨j, mem, rfl, -⟩ := (listed id).mp (list ▸ List.mem_cons_self)
    obtain ⟨a, b, parts, others⟩ := jobs_split ids ((job_eq_some ids).mpr ⟨mem, rfl⟩)
    rw [same, removeRecord_jobs parts others]
    rw [parts] at few
    simp only [List.length_append, List.length_cons] at few ⊢
    omega

/-- What survives the removal of a terminal record survives the reclaiming of one (R79). -/
theorem reclaim_keeps {P : State → Prop} (collected : ∀ {s} id, id ∈ s.terminal → P s → P (removeRecord id s)) (h : P s) :
    P (reclaim s) := by
  obtain ⟨-, same⟩ | ⟨-, -, same⟩ | ⟨-, id, rest, list, same⟩ := reclaim_cases s
  · rwa [same]
  · rwa [same]
  · rw [same]
    exact collected id (list ▸ List.mem_cons_self) h

/-! ### Blocks fed and data accepted; moves -/

/-- A job's record with its first block, which held this many bytes, fed and the rest of its chain left (R90). -/
def Job.blockFed (held : Nat) (rest : List Nat) (x : Job) : Job :=
  { x with chain := rest, fed := x.fed + held, fill := if rest.isEmpty then 0 else x.fill }

theorem reportFed_eq {i : Slot} {j : Job} {block : Nat} {rest : List Nat} (head : headJob? s i = some j)
    (st : j.state = .feeding) (chain : j.chain = block :: rest) : reportFed i s =
    freeBlocks j.kiosk [block] (modJob j.id (Job.blockFed (if rest.isEmpty then j.fill else 48) rest) s) := by
  unfold reportFed
  rw [head]
  simp only [st, chain]
  rfl

/-- A block fed changes nothing, or it takes the first block of the head job's chain. -/
theorem reportFed_cases (i : Slot) (s : State) : reportFed i s = s ∨
    ∃ j block rest, headJob? s i = some j ∧ j.state = .feeding ∧ j.chain = block :: rest := by
  unfold reportFed
  split
  · exact .inl rfl
  · next j head =>
    split
    · next block rest st chain => exact .inr ⟨j, block, rest, head, st, chain⟩
    · exact .inl rfl

/-- A job's record with what was written accepted (R83). -/
def Job.filled (w : Writing) (n : Nat) (now : Time) (x : Job) : Job :=
  { x with chain := w.chain, fill := w.fill, spooled := x.spooled + n, lastData := now }

theorem acceptData_eq (j : Job) (data : List Byte) (s : State) : acceptData j data s =
    modJob j.id (Job.filled (writeBytes s j data) data.length s.hubTime)
      (modQuota j.kiosk (fun q => { q with held := q.held + ((writeBytes s j data).chain.length - j.chain.length) })
        { s with spool := (writeBytes s j data).spool, free := (writeBytes s j data).free }) := rfl

/-- A printer lost or removed leaves a job of its queue where it is, or moves it to a printer with room (R114). -/
theorem moveAnyJob_cases (i : Slot) (id : Nat) (s : State) : moveAnyJob i id s = s ∨
    ∃ j k, job? s id = some j ∧ (j.state = .filling ∨ j.state = .queued) ∧ anyPrinter s (some i) = some k ∧
      moveAnyJob i id s = moveJob id i k s := by
  unfold moveAnyJob
  split
  · exact .inl rfl
  · next j found =>
    split_ifs with waits
    · split
      · exact .inl rfl
      · next k chosen =>
        simp only [Bool.and_eq_true, Bool.or_eq_true, decide_eq_true_eq] at waits
        exact .inr ⟨j, k, found, waits.2, chosen, rfl⟩
    · exact .inl rfl

/-! ### The law under each change -/

theorem jobLaw_reset : JobLaw State.reset := by simp [JobLaw, State.reset]

theorem JobLaw.moveAnyJob (law : JobLaw s) (i : Slot) (id : Nat) : JobLaw (moveAnyJob i id s) := by
  obtain same | ⟨j, k, found, -, -, same⟩ := moveAnyJob_cases i id s
  · rwa [same]
  · obtain rfl := job_id found
    rw [same]
    exact (law.modJob (f := fun j => { j with slot := k }) found (fun _ => rfl) rfl).congr rfl rfl rfl

theorem jobLaw_kept : JobsKept JobLaw where
  part same law := law.part same
  engine _ _ law := law.congr rfl rfl rfl
  full := jobLaw_reset
  soft _ := jobLaw_reset.congr rfl rfl rfl
  ended pages cause found lives ends law := law.endJob found lives ends pages cause
  reshaped found shape ids law := law.modJob found ids shape.terminal
  fed {s} i law := by
    obtain same | ⟨j, block, rest, head, st, chain⟩ := reportFed_cases i s
    · rwa [same]
    · rw [reportFed_eq head st chain]
      exact (law.modJob (f := Job.blockFed _ rest) (headJob_eq_some.mp head).2 (fun _ => rfl) rfl).congr
        (freeBlocks_jobs ..) (freeBlocks_nextJob ..) (freeBlocks_terminal ..)
  accepted {s j} data found _ law :=
    (law.modJob (f := Job.filled (writeBytes s j data) data.length s.hubTime) found (fun _ => rfl) rfl).congr rfl rfl rfl
  created k any _ _ full law :=
    (reclaim_keeps (fun id _ law => law.collected id) law).created (law.reclaim_room full) k any _
  collected id _ law := law.collected id
  figures _ _ _ _ law := law.congr rfl rfl rfl
  limit _ _ _ law := law.congr rfl rfl rfl

theorem jobLaw_spoolKept : SpoolKept JobLaw :=
  jobLaw_kept.spoolKept (fun i law => forEach_keeps (fun id _ _ law => law.moveAnyJob i id) law)
    (fun _ _ law => law.congr rfl rfl rfl) (fun _ _ _ law => law.congr rfl rfl rfl)
    (fun k law => jobLaw_kept.clearJobs id k law)

end Sys2Proof.Machine

open Sys2Proof Sys2Proof.Machine

/-- Settles O8: a record ends once, when it joins the terminal list, and leaves both with its removal; a new one draws an id
no record has. -/
theorem jobTableLawful : Obligations.JobTableLawful := jobLaw_spoolKept.keptByStep

end

section
/-!
PROOFS. Each spool block stands in the free list or in one chain, exactly once (R72, R73, R76, R77), under each change the
Spooler makes.
-/

namespace Sys2Proof.Machine

variable {s t : State}

/-! ### Written bytes (R83) -/

/-- Writing takes blocks from the head of the free list to the tail of the chain, in order. -/
theorem writeByte_blocks (w : Writing) (b : Byte) :
    ∃ taken, (writeByte w b).chain = w.chain ++ taken ∧ w.free = taken ++ (writeByte w b).free := by
  unfold writeByte
  split
  · exact ⟨[], by simp, rfl⟩
  · split
    · exact ⟨[], by simp, by simp⟩
    · next block rest free => exact ⟨[block], rfl, free⟩

theorem foldl_writeByte_blocks (bytes : List Byte) (w : Writing) : ∃ taken,
    (bytes.foldl writeByte w).chain = w.chain ++ taken ∧ w.free = taken ++ (bytes.foldl writeByte w).free := by
  induction bytes generalizing w with
  | nil => exact ⟨[], by simp, rfl⟩
  | cons b bytes ih =>
    obtain ⟨first, chain, free⟩ := writeByte_blocks w b
    obtain ⟨rest, chain', free'⟩ := ih (writeByte w b)
    exact ⟨first ++ rest, by rw [List.foldl_cons, chain', chain, List.append_assoc],
      by rw [free, free', List.foldl_cons, List.append_assoc]⟩

theorem writeBytes_blocks (s : State) (j : Job) (data : List Byte) : ∃ taken,
    (writeBytes s j data).chain = j.chain ++ taken ∧ s.free = taken ++ (writeBytes s j data).free :=
  foldl_writeByte_blocks data _

/-! ### The blocks of the table -/

/-- The blocks in a kiosk's chains, by a record and the others. -/
theorem chainBlocks_length {k : Kiosk} {j : Job} {a b : List Job} (parts : s.jobs = a ++ j :: b) :
    (chainBlocks s k).length =
      (((a ++ b).filter fun x => x.kiosk = k).flatMap Job.chain).length + if j.kiosk = k then j.chain.length else 0 := by
  unfold chainBlocks
  rw [parts]
  by_cases own : j.kiosk = k
  · simp only [List.filter_append, List.filter_cons, own, decide_true, if_pos, List.flatMap_append, List.flatMap_cons,
      List.length_append]
    omega
  · simp [List.filter_append, own]

theorem BlockLaw.congr (law : BlockLaw s) (jobs : t.jobs = s.jobs) (next : t.nextJob = s.nextJob)
    (terminal : t.terminal = s.terminal) (free : t.free = s.free)
    (held : ∀ k : Kiosk, (t.kioskSpool[k]).held = (s.kioskSpool[k]).held) : BlockLaw t := by
  obtain ⟨jobLaw, blocks, counts, closed⟩ := law
  refine ⟨jobLaw.congr jobs next terminal, by rwa [jobs, free], fun k => ?_, by rwa [jobs]⟩
  rw [held, counts, chainBlocks, chainBlocks, jobs]

theorem BlockLaw.part (law : BlockLaw s) (same : spoolPart t = spoolPart s) : BlockLaw t :=
  law.congr (congrArg State.jobs same :) (congrArg State.nextJob same :) (congrArg State.terminal same :)
    (congrArg State.free same :) fun k => (congrArg (fun u => (u.kioskSpool[k]).held) same :)

/-- A kiosk holds at least the blocks of each of its jobs (R73). -/
theorem BlockLaw.chain_le_held (law : BlockLaw s) {j : Job} (found : job? s j.id = some j) :
    j.chain.length ≤ (s.kioskSpool[j.kiosk]).held := by
  obtain ⟨⟨ids, -⟩, -, counts, -⟩ := law
  obtain ⟨a, b, parts, -⟩ := jobs_split ids found
  rw [counts, chainBlocks_length parts, if_pos rfl]
  omega

/-- One record changed: what its chain gains the free list loses, and its kiosk's held count follows. -/
theorem BlockLaw.of_modJob (law : BlockLaw s) (jobLaw : JobLaw t) {j : Job} (found : job? s j.id = some j) {f : Job → Job}
    (jobs : t.jobs = (modJob j.id f s).jobs) (kiosk : (f j).kiosk = j.kiosk)
    (blocks : (t.free ++ (f j).chain).Perm (s.free ++ j.chain))
    (held : ∀ k : Kiosk, (t.kioskSpool[k]).held + (if j.kiosk = k then j.chain.length else 0) =
      (s.kioskSpool[k]).held + if j.kiosk = k then (f j).chain.length else 0)
    (closed : (f j).state.isTerminal = true → (f j).isOpen = false ∧ (f j).chain = []) : BlockLaw t := by
  obtain ⟨⟨ids, -⟩, all, counts, ended⟩ := law
  obtain ⟨a, b, parts, others⟩ := jobs_split ids found
  have parts' : t.jobs = a ++ f j :: b := jobs.trans (modJob_split f parts others)
  refine ⟨jobLaw, ?_, fun k => ?_, fun x hx => ?_⟩
  · refine List.Perm.trans (List.perm_iff_count.mpr fun x => ?_) all
    have moved := List.perm_iff_count.mp blocks x
    simp only [parts, parts', List.flatMap_append, List.flatMap_cons, List.count_append] at moved ⊢
    omega
  · have now := held k
    rw [counts, chainBlocks_length parts] at now
    rw [chainBlocks_length parts', kiosk]
    omega
  · rw [parts', List.mem_append, List.mem_cons] at hx
    obtain hx | rfl | hx := hx
    · exact ended x (parts ▸ List.mem_append_left _ hx)
    · exact closed
    · exact ended x (parts ▸ List.mem_append_right _ (List.mem_cons_of_mem j hx))

/-! ### The law under each change -/

theorem blockLaw_reset : BlockLaw State.reset :=
  ⟨jobLaw_reset, by simp [State.reset], fun k => by simp [State.reset, KioskSpool.reset, chainBlocks],
    by simp [State.reset]⟩

theorem BlockLaw.endJob (law : BlockLaw s) {j : Job} (found : job? s j.id = some j) (lives : j.state.isTerminal = false)
    {st : JobState} (ends : st.isTerminal = true) (pages : Option Half) (cause : Option JobCause) :
    BlockLaw (Machine.endJob j.id st pages cause s) := by
  refine law.of_modJob (law.1.endJob found lives ends pages cause) found (endJob_jobs found ..) rfl ?_ (fun k => ?_)
    fun _ => ⟨rfl, rfl⟩
  · rw [endJob_free found]
    simp [Job.ended]
  · rw [endJob_kioskSpool found, KioskSpool.tested_held]
    have enough := law.chain_le_held found
    split_ifs with own
    · subst own
      simp only [Job.ended, List.length_nil]
      omega
    · rfl

theorem BlockLaw.reportFed (law : BlockLaw s) (i : Slot) : BlockLaw (reportFed i s) := by
  have jobLaw := jobLaw_kept.fed i law.1
  obtain same | ⟨j, block, rest, head, st, chain⟩ := reportFed_cases i s
  · rwa [same]
  · have found := (headJob_eq_some.mp head).2
    have enough := law.chain_le_held found
    rw [reportFed_eq head st chain] at jobLaw ⊢
    generalize (if rest.isEmpty then j.fill else 48) = n at jobLaw ⊢
    refine law.of_modJob (f := Job.blockFed n rest) jobLaw found (freeBlocks_jobs ..)
      rfl ?_ (fun k => ?_) fun ended => ?_
    · rw [freeBlocks_free, chain, List.append_assoc]
      rfl
    · rw [freeBlocks_held, chain]
      rw [chain] at enough
      show (if j.kiosk = k then (s.kioskSpool[k]).held - 1 else (s.kioskSpool[k]).held) + _ = _
      split_ifs with own
      · subst own
        simp only [Job.blockFed, List.length_cons] at enough ⊢
        omega
      · rfl
    · have st' : (Job.blockFed n rest j).state = .feeding := st
      rw [st'] at ended
      cases ended

theorem BlockLaw.acceptData (law : BlockLaw s) {j : Job} (found : job? s j.id = some j) (isOpen : j.isOpen = true)
    (data : List Byte) : BlockLaw (acceptData j data s) := by
  obtain ⟨taken, chain, free⟩ := writeBytes_blocks s j data
  have notEnded : j.state.isTerminal = true → j.isOpen = false := fun ended =>
    (law.2.2.2 j (job_mem found) ended).1
  refine law.of_modJob (f := Job.filled (writeBytes s j data) data.length s.hubTime)
    (jobLaw_kept.accepted data found isOpen law.1) found rfl rfl ?_ (fun k => ?_) fun ended => ?_
  · show ((writeBytes s j data).free ++ (writeBytes s j data).chain).Perm _
    rw [chain, free]
    exact List.perm_iff_count.mpr fun x => by simp only [List.count_append]; omega
  · show ((upd s.kioskSpool j.kiosk _)[k]).held + _ = _
    rw [upd_get]
    split_ifs with own
    · subst own
      simp only [Job.filled, chain, List.length_append]
      omega
    · rfl
  · rw [notEnded ended] at isOpen
    cases isOpen

theorem BlockLaw.created (law : BlockLaw s) (room : s.jobs.length < 24) (k : Kiosk) (any : Bool) (i : Slot) :
    BlockLaw (jobCreated k any i s) := by
  obtain ⟨jobLaw, all, counts, closed⟩ := law
  have perm := insertJob_perm (newJob k any i s) s.jobs
  refine ⟨jobLaw.created room k any i, ?_, fun m => ?_, fun j hj ended => ?_⟩
  · exact ((perm.flatMap_right Job.chain).append_left s.free).trans all
  · refine (counts m).trans (((perm.filter fun j => j.kiosk = m).flatMap_right Job.chain).length_eq.trans ?_).symm
    rw [List.filter_cons]
    split_ifs <;> rfl
  · obtain rfl | hj := mem_insertJob.mp hj
    · cases ended
    · exact closed j hj ended

theorem BlockLaw.collected (law : BlockLaw s) {id : Nat} (listed : id ∈ s.terminal) : BlockLaw (removeRecord id s) := by
  obtain ⟨jobLaw, all, counts, closed⟩ := law
  obtain ⟨j, mem, rfl, ended⟩ := (jobLaw.2.2.2.2.2 id).mp listed
  obtain ⟨a, b, parts, others⟩ := jobs_split jobLaw.1 ((job_eq_some jobLaw.1).mpr ⟨mem, rfl⟩)
  have empty := (closed j mem ended).2
  have rest := removeRecord_jobs parts others
  refine ⟨jobLaw.collected j.id, ?_, fun k => (counts k).trans ?_, fun x hx => closed x (List.mem_of_mem_filter hx)⟩
  · have free : (removeRecord j.id s).free = s.free := rfl
    rw [rest, free]
    simpa [parts, empty] using all
  · rw [chainBlocks_length parts, empty, chainBlocks, rest]
    simp

theorem BlockLaw.moveAnyJob (law : BlockLaw s) (i : Slot) (id : Nat) : BlockLaw (moveAnyJob i id s) := by
  have jobLaw := law.1.moveAnyJob i id
  obtain same | ⟨j, k, found, -, -, same⟩ := moveAnyJob_cases i id s
  · rwa [same]
  · obtain rfl := job_id found
    rw [same] at jobLaw ⊢
    exact law.of_modJob (f := fun j => { j with slot := k }) jobLaw found rfl rfl (.refl _) (fun _ => rfl)
      fun ended => law.2.2.2 j (job_mem found) ended

theorem blockLaw_kept : JobsKept BlockLaw where
  part same law := law.part same
  engine _ _ law := law.congr rfl rfl rfl rfl fun _ => rfl
  full := blockLaw_reset
  soft {s} _ := blockLaw_reset.congr rfl rfl rfl (softSpooler_free s) fun k => by
    simp [softSpooler, State.reset, KioskSpool.softReset, KioskSpool.reset]
  ended pages cause found lives ends law := law.endJob found lives ends pages cause
  reshaped {s j f} found shape ids law := by
    have chain : (f j).chain = j.chain := by rw [shape.same]
    refine law.of_modJob (jobLaw_kept.reshaped found shape ids law.1) found rfl (by rw [shape.same]) (by rw [chain]; rfl)
      (fun _ => by rw [chain]; rfl) fun ended => ?_
    obtain ⟨closed, empty⟩ := law.2.2.2 j (job_mem found) (shape.terminal ▸ ended)
    exact ⟨shape.closed closed, chain.trans empty⟩
  fed i law := law.reportFed i
  accepted data found isOpen law := law.acceptData found isOpen data
  created k any _ _ full law :=
    (reclaim_keeps (fun _ listed law => law.collected listed) law).created (law.1.reclaim_room full) k any _
  collected id listed law := law.collected (listed law.1)
  figures {s} k f same _ law := law.congr rfl rfl rfl rfl fun m => by
    show ((upd s.kioskSpool k f)[m]).held = _
    rw [upd_get]
    split_ifs
    · exact same _
    · rfl
  limit _ _ _ law := law.congr rfl rfl rfl rfl fun _ => rfl

theorem blockLaw_spoolKept : SpoolKept BlockLaw :=
  blockLaw_kept.spoolKept (fun i law => forEach_keeps (fun id _ _ law => law.moveAnyJob i id) law)
    (fun _ _ law => law.congr rfl rfl rfl rfl fun _ => rfl) (fun _ _ _ law => law.congr rfl rfl rfl rfl fun _ => rfl)
    (fun k law => blockLaw_kept.clearJobs (·.1) k law)

end Sys2Proof.Machine

open Sys2Proof Sys2Proof.Machine

/-- Settles O9: what a chain loses the free list gains, and the held count of its kiosk follows, in every change of a
record. -/
theorem spoolBlocksConserved : Obligations.SpoolBlocksConserved := blockLaw_spoolKept.keptByStep

end

section
/-!
PROOFS. The law of the printer queues (R80) under each change the Spooler makes: every non-terminal job stands in the queue
of its slot, and only a head job is known to its printer.
-/

namespace Sys2Proof.Machine

variable {s t : State}

/-! ### The law by lookup -/

/-- A job that is not known to its printer: FILLING or QUEUED (R80). -/
def Job.waiting (j : Job) : Prop := j.state = .filling ∨ j.state = .queued

theorem Job.waiting.lives {j : Job} (h : j.waiting) : j.state.isTerminal = false := by
  obtain h | h := h <;> rw [h] <;> rfl

/-- The law of the printer queues, each record named by its id. -/
structure QueuesLawful (s : State) : Prop where
  jobs : JobLaw s
  short : ∀ i : Slot, (s.printQueue[i]).length ≤ 8
  once : ∀ i : Slot, (s.printQueue[i]).Nodup
  member : ∀ i : Slot, ∀ id ∈ s.printQueue[i], ∃ j, job? s id = some j ∧ j.slot = i ∧ j.state.isTerminal = false
  behind : ∀ i : Slot, ∀ id ∈ (s.printQueue[i]).tail, ∀ j, job? s id = some j → j.waiting
  queued : ∀ j, job? s j.id = some j → j.state.isTerminal = false → j.id ∈ s.printQueue[j.slot]
  printers : ∀ i : Slot, definedKind s i ≠ some .printer → s.printQueue[i] = []

theorem printQueueLaw_iff : PrintQueueLaw s ↔ QueuesLawful s := by
  constructor
  · rintro ⟨jobs, lists, queued, printers⟩
    have ids := jobs.1
    refine ⟨jobs, fun i => (lists i).1, fun i => (lists i).2.1, fun i id hid => ?_, fun i id hid j found => ?_,
      fun j found lives => queued j (job_mem found) lives, printers⟩
    · obtain ⟨j, mem, same, slot, lives⟩ := (lists i).2.2.1 id hid
      exact ⟨j, (job_eq_some ids).mpr ⟨mem, same⟩, slot, lives⟩
    · exact (lists i).2.2.2 id hid j (job_mem found) (job_id found)
  · intro law
    have ids := law.jobs.1
    refine ⟨law.jobs, fun i => ⟨law.short i, law.once i, fun id hid => ?_, fun id hid j mem same => ?_⟩,
      fun j mem lives => law.queued j ((job_eq_some ids).mpr ⟨mem, rfl⟩) lives, law.printers⟩
    · obtain ⟨j, found, slot, lives⟩ := law.member i id hid
      exact ⟨j, job_mem found, job_id found, slot, lives⟩
    · exact law.behind i id hid j ((job_eq_some ids).mpr ⟨mem, same⟩)

/-- A job's record on another printer (R90). -/
def Job.movedTo (k : Slot) (j : Job) : Job := { j with slot := k }

namespace QueuesLawful

variable (law : QueuesLawful s) {j : Job} (found : job? s j.id = some j)
include law

theorem congr (jobs : t.jobs = s.jobs) (next : t.nextJob = s.nextJob) (terminal : t.terminal = s.terminal)
    (queues : t.printQueue = s.printQueue) (kinds : ∀ i, definedKind t i = definedKind s i) : QueuesLawful t := by
  obtain ⟨jobLaw, short, once, member, behind, queued, printers⟩ := law
  refine ⟨jobLaw.congr jobs next terminal, ?_, ?_, ?_, ?_, ?_, ?_⟩
  all_goals simpa only [queues, job_congr jobs, kinds]

include found in
/-- A job stands in no queue but that of its slot. -/
theorem slot_of_mem {i : Slot} (mem : j.id ∈ s.printQueue[i]) : j.slot = i ∧ j.state.isTerminal = false := by
  obtain ⟨k, found', slot, lives⟩ := law.member i j.id mem
  rw [found] at found'
  cases found'
  exact ⟨slot, lives⟩

/-- A head job stands behind no other. -/
theorem head_not_behind {i k : Slot} {id : Nat} (head : (s.printQueue[i]).head? = some id) :
    id ∉ (s.printQueue[k]).tail := by
  intro behind
  obtain ⟨rest, queue⟩ := List.head?_eq_some_iff.mp head
  obtain ⟨j, found, slot, -⟩ := law.member i id (queue ▸ List.mem_cons_self)
  obtain rfl := job_id found
  obtain ⟨slot', -⟩ := law.slot_of_mem found (List.mem_of_mem_tail behind)
  obtain rfl : i = k := slot.symm.trans slot'
  rw [queue, List.tail_cons] at behind
  exact (List.nodup_cons.mp (queue ▸ law.once i)).1 behind

include found in
/-- A job known to its printer is the head of its queue. -/
theorem head_of_printing (lives : j.state.isTerminal = false) (printing : ¬j.waiting) :
    (s.printQueue[j.slot]).head? = some j.id := by
  have mem := law.queued j found lives
  cases queue : s.printQueue[j.slot] with
  | nil => simp [queue] at mem
  | cons x rest =>
    rw [queue] at mem
    obtain rfl | mem := List.mem_cons.mp mem
    · rfl
    · exact absurd (law.behind j.slot j.id (queue ▸ mem) j found) printing

/-! ### One record changed -/

include found in
/-- A record changed where it stands. -/
theorem of_modJob (jobLaw : JobLaw t) {j' : Job} (lookup : ∀ x, job? t x = if x = j.id then some j' else job? s x)
    (queues : t.printQueue = s.printQueue) (kinds : ∀ i, definedKind t i = definedKind s i) (slot : j'.slot = j.slot)
    (terminal : j'.state.isTerminal = j.state.isTerminal)
    (waits : ∀ i : Slot, j.id ∈ (s.printQueue[i]).tail → j'.waiting) : QueuesLawful t := by
  refine ⟨jobLaw, by simpa only [queues] using law.short, by simpa only [queues] using law.once, fun i id mem => ?_,
    fun i id mem x foundX => ?_, fun x foundX lives => ?_, by simpa only [queues, kinds] using law.printers⟩
  · rw [queues] at mem
    obtain ⟨x, foundX, slotX, livesX⟩ := law.member i id mem
    rw [lookup]
    split_ifs with same
    · subst same
      rw [found] at foundX
      cases foundX
      exact ⟨j', rfl, slot.trans slotX, terminal.trans livesX⟩
    · exact ⟨x, foundX, slotX, livesX⟩
  · rw [queues] at mem
    rw [lookup] at foundX
    split_ifs at foundX with same
    · subst same
      cases foundX
      exact waits i mem
    · exact law.behind i id mem x foundX
  · rw [queues]
    have known := foundX
    rw [lookup] at known
    split_ifs at known with same
    · cases known
      simp only [same, slot]
      exact law.queued j found (terminal.symm.trans lives)
    · exact law.queued x known lives

/-! ### A record off its queue -/

omit law in
theorem mem_tail_filter {l : List Nat} {p : Nat → Bool} {x : Nat} (h : x ∈ (l.filter p).tail) :
    x ∈ l.tail ∧ p x = true := by
  cases l with
  | nil => simp at h
  | cons a l =>
    rw [List.filter_cons] at h
    split_ifs at h
    · exact List.mem_filter.mp h
    · exact List.mem_filter.mp (List.mem_of_mem_tail h)

include found in
/-- A job that has ended leaves its queue. -/
theorem of_endJob (jobLaw : JobLaw t) {j' : Job} (lookup : ∀ x, job? t x = if x = j.id then some j' else job? s x)
    (queues : t.printQueue = upd s.printQueue j.slot fun q => q.filter fun x => x ≠ j.id)
    (kinds : ∀ i, definedKind t i = definedKind s i) (ended : j'.state.isTerminal = true) : QueuesLawful t := by
  have queue (i : Slot) : t.printQueue[i] = (s.printQueue[i]).filter fun x => x ≠ j.id := by
    rw [queues, upd_get]
    split_ifs with own
    · rfl
    · refine (List.filter_eq_self.mpr fun x mem => ?_).symm
      have other : x ≠ j.id := by
        rintro rfl
        exact own (law.slot_of_mem found mem).1
      simpa using other
  refine ⟨jobLaw, fun i => ?_, fun i => ?_, fun i id mem => ?_, fun i id mem x foundX => ?_, fun x foundX lives => ?_,
    fun i kind => ?_⟩
  · rw [queue]
    exact (List.length_filter_le ..).trans (law.short i)
  · rw [queue]
    exact (law.once i).filter _
  · rw [queue, List.mem_filter, decide_eq_true_eq] at mem
    rw [lookup, if_neg mem.2]
    exact law.member i id mem.1
  · rw [queue] at mem
    obtain ⟨mem, other⟩ := mem_tail_filter mem
    rw [lookup, if_neg (of_decide_eq_true other)] at foundX
    exact law.behind i id mem x foundX
  · have known := foundX
    rw [lookup] at known
    split_ifs at known with own
    · cases known
      simp [ended] at lives
    · rw [queue, List.mem_filter, decide_eq_true_eq]
      exact ⟨law.queued x known lives, own⟩
  · rw [queue, law.printers i (kinds i ▸ kind)]
    rfl

/-! ### A job moved or created (R82, R114) -/

omit law in
theorem mem_tail_append {l : List Nat} {a x : Nat} (h : x ∈ (l ++ [a]).tail) : x ∈ l.tail ∨ x = a := by
  cases l with
  | nil => simp at h
  | cons b l =>
    obtain h | h := List.mem_append.mp (h : x ∈ l ++ [a])
    · exact .inl h
    · exact .inr (List.mem_singleton.mp h)

include found in
/-- A FILLING or QUEUED job joins the tail of another printer's queue. -/
theorem moved {i k : Slot} (slot : j.slot = i) (waits : j.waiting) (kind : definedKind s k = some .printer)
    (room : (s.printQueue[k]).length < 8) (other : i ≠ k) : QueuesLawful (moveJob j.id i k s) := by
  have lookup (x : Nat) : job? (moveJob j.id i k s) x = if x = j.id then some (j.movedTo k) else job? s x := by
    rw [job_congr (t := moveJob j.id i k s) (s := modJob j.id (Job.movedTo k) s) rfl]
    exact job_modJob_found (f := Job.movedTo k) (fun _ => rfl) found x
  have joined : (moveJob j.id i k s).printQueue[k] = s.printQueue[k] ++ [j.id] := by
    show (upd (upd s.printQueue i _) k _)[k] = _
    rw [upd_get_self, upd_get_ne _ _ _ _ other]
  have elsewhere {m : Slot} (hm : m ≠ k) :
      (moveJob j.id i k s).printQueue[m] = (s.printQueue[m]).filter fun x => x ≠ j.id := by
    show (upd (upd s.printQueue i _) k _)[m] = _
    rw [upd_get_ne _ _ _ _ hm.symm, upd_get]
    split_ifs with own
    · rfl
    · refine (List.filter_eq_self.mpr fun x mem => ?_).symm
      have notIt : x ≠ j.id := by
        rintro rfl
        exact own (slot.symm.trans (law.slot_of_mem found mem).1)
      simpa using notIt
  have notIn : j.id ∉ s.printQueue[k] := fun mem => other (slot.symm.trans (law.slot_of_mem found mem).1)
  have kept {x : Nat} (hx : x ≠ j.id) : job? (moveJob j.id i k s) x = job? s x := by rw [lookup, if_neg hx]
  refine ⟨(law.jobs.modJob (f := Job.movedTo k) found (fun _ => rfl) rfl).congr rfl rfl rfl, fun m => ?_,
    fun m => ?_, fun m id mem => ?_, fun m id mem x foundX => ?_, fun x foundX lives => ?_, fun m noPrinter => ?_⟩
  · by_cases hm : m = k
    · subst hm
      rw [joined, List.length_append, List.length_singleton]
      exact room
    · rw [elsewhere hm]
      exact (List.length_filter_le ..).trans (law.short m)
  · by_cases hm : m = k
    · subst hm
      rw [joined]
      exact (law.once m).append (List.nodup_singleton _) (by simpa using notIn)
    · rw [elsewhere hm]
      exact (law.once m).filter _
  · by_cases hm : m = k
    · subst hm
      rw [joined, List.mem_append, List.mem_singleton] at mem
      by_cases hid : id = j.id
      · exact ⟨j.movedTo m, by rw [lookup, if_pos hid], rfl, waits.lives⟩
      · rw [kept hid]
        exact law.member m id (mem.resolve_right hid)
    · rw [elsewhere hm, List.mem_filter, decide_eq_true_eq] at mem
      rw [kept mem.2]
      exact law.member m id mem.1
  · by_cases hid : id = j.id
    · rw [lookup, if_pos hid] at foundX
      cases foundX
      exact waits
    · rw [kept hid] at foundX
      refine law.behind m id ?_ x foundX
      by_cases hm : m = k
      · subst hm
        rw [joined] at mem
        exact (mem_tail_append mem).resolve_right hid
      · rw [elsewhere hm] at mem
        exact (mem_tail_filter mem).1
  · by_cases hid : x.id = j.id
    · rw [lookup, if_pos hid] at foundX
      cases foundX
      show j.id ∈ (moveJob j.id i k s).printQueue[k]
      rw [joined]
      exact List.mem_append_right _ (List.mem_singleton_self _)
    · rw [kept hid] at foundX
      have mem := law.queued x foundX lives
      by_cases hm : x.slot = k
      · simp only [hm] at mem ⊢
        rw [joined]
        exact List.mem_append_left _ mem
      · rw [elsewhere hm, List.mem_filter]
        exact ⟨mem, by simpa using hid⟩
  · have noPrinter : definedKind s m ≠ some .printer := noPrinter
    have hm : m ≠ k := by
      rintro rfl
      exact noPrinter kind
    rw [elsewhere hm, law.printers m noPrinter]
    rfl

/-- The new record of PRINT OPEN, and every other. -/
theorem job_created (k : Kiosk) (any : Bool) (i : Slot) (room : s.jobs.length < 24) (x : Nat) :
    job? (jobCreated k any i s) x = if x = drawnJob s then some (newJob k any i s) else job? s x := by
  have ids := (law.jobs.created room k any i).1
  have new := (drawnJob_new law.jobs).1
  split_ifs with same
  · exact (job_eq_some ids).mpr ⟨mem_insertJob.mpr (.inl rfl), same.symm⟩
  · apply Option.ext
    intro j
    rw [job_eq_some ids, job_eq_some law.jobs.1]
    show j ∈ insertJob _ _ ∧ _ ↔ _
    rw [mem_insertJob]
    constructor
    · rintro ⟨rfl | mem, hid⟩
      · exact absurd hid.symm same
      · exact ⟨mem, hid⟩
    · exact fun h => ⟨.inr h.1, h.2⟩

/-- A new job joins the tail of a printer's queue. -/
theorem created {i : Slot} (k : Kiosk) (any : Bool) (kind : definedKind s i = some .printer)
    (short : (s.printQueue[i]).length < 8) (room : s.jobs.length < 24) : QueuesLawful (jobCreated k any i s) := by
  have lookup := law.job_created k any i room
  have unknown : job? s (drawnJob s) = none := job_eq_none.mpr (drawnJob_new law.jobs).1
  have notIn (m : Slot) : drawnJob s ∉ s.printQueue[m] := by
    intro mem
    obtain ⟨j, found, -⟩ := law.member m _ mem
    rw [unknown] at found
    cases found
  have kept {m : Slot} {x : Nat} (mem : x ∈ s.printQueue[m]) : job? (jobCreated k any i s) x = job? s x := by
    rw [lookup, if_neg]
    rintro rfl
    exact notIn m mem
  have queue (m : Slot) : (jobCreated k any i s).printQueue[m] =
      if i = m then s.printQueue[m] ++ [drawnJob s] else s.printQueue[m] := upd_get ..
  refine ⟨law.jobs.created room k any i, fun m => ?_, fun m => ?_, fun m id mem => ?_, fun m id mem x foundX => ?_,
    fun x foundX lives => ?_, fun m noPrinter => ?_⟩
  · rw [queue]
    split_ifs with own
    · subst own
      rw [List.length_append, List.length_singleton]
      exact short
    · exact law.short m
  · rw [queue]
    split_ifs
    · exact (law.once m).append (List.nodup_singleton _) (by simpa using notIn m)
    · exact law.once m
  · by_cases new : id = drawnJob s
    · rw [lookup, if_pos new]
      refine ⟨_, rfl, ?_, rfl⟩
      rw [queue] at mem
      split_ifs at mem with own
      · exact own
      · exact absurd (new ▸ mem) (notIn m)
    · have mem : id ∈ s.printQueue[m] := by
        rw [queue] at mem
        split_ifs at mem
        · simpa [new] using mem
        · exact mem
      rw [kept mem]
      exact law.member m id mem
  · rw [lookup] at foundX
    split_ifs at foundX with new
    · cases foundX
      exact .inl rfl
    · refine law.behind m id ?_ x foundX
      rw [queue] at mem
      split_ifs at mem
      · exact (mem_tail_append mem).resolve_right new
      · exact mem
  · have known := foundX
    rw [lookup] at known
    split_ifs at known with new
    · cases known
      show drawnJob s ∈ (jobCreated k any i s).printQueue[i]
      rw [queue, if_pos rfl]
      exact List.mem_append_right _ (List.mem_singleton_self _)
    · have mem := law.queued x known lives
      rw [queue]
      split_ifs
      · exact List.mem_append_left _ mem
      · exact mem
  · have noPrinter : definedKind s m ≠ some .printer := noPrinter
    rw [queue, if_neg (by rintro rfl; exact noPrinter kind), law.printers m noPrinter]

/-- A terminal record that goes stood in no queue. -/
theorem collected {id : Nat} (listed : id ∈ s.terminal) : QueuesLawful (removeRecord id s) ∧
    ∀ i : Slot, ∀ x ∈ s.printQueue[i], job? (removeRecord id s) x = job? s x := by
  have jobLaw := law.jobs.collected id
  have lookup {x : Nat} {j : Job} : job? (removeRecord id s) x = some j ↔ job? s x = some j ∧ x ≠ id := by
    rw [job_eq_some jobLaw.1, job_eq_some law.jobs.1]
    simp only [removeRecord, List.mem_filter, ne_eq, decide_not, Bool.not_eq_true', decide_eq_false_iff_not]
    constructor
    · rintro ⟨⟨mem, other⟩, rfl⟩
      exact ⟨⟨mem, rfl⟩, other⟩
    · rintro ⟨⟨mem, rfl⟩, other⟩
      exact ⟨⟨mem, other⟩, rfl⟩
  have queuedOther {i : Slot} {x : Nat} (mem : x ∈ s.printQueue[i]) : x ≠ id := by
    rintro rfl
    obtain ⟨j, found, -, lives⟩ := law.member i x mem
    rw [(law.jobs.listed found).mp listed] at lives
    cases lives
  have kept {i : Slot} {x : Nat} (mem : x ∈ s.printQueue[i]) : job? (removeRecord id s) x = job? s x :=
    Option.ext fun j => lookup.trans (and_iff_left (queuedOther mem))
  refine ⟨⟨jobLaw, law.short, law.once, fun i x mem => ?_, fun i x mem j found => ?_, fun j found lives => ?_,
    law.printers⟩, fun i x mem => kept mem⟩
  · rw [kept mem]
    exact law.member i x mem
  · exact law.behind i x mem j (lookup.mp found).1
  · exact law.queued j (lookup.mp found).1 lives

end QueuesLawful

end Sys2Proof.Machine
end

section
/-!
PROOFS. The law of the printer queues against the step: endings, printers that go (R114, R115), and every other change.
-/

namespace Sys2Proof.Machine

variable {s t : State}

theorem definedKind_congr (units : t.units = s.units) (i : Slot) : definedKind t i = definedKind s i := by
  unfold definedKind
  rw [units]

/-! ### Endings (R77) -/

theorem QueuesLawful.endJob (law : QueuesLawful s) {j : Job} (found : job? s j.id = some j)
    (lives : j.state.isTerminal = false) {st : JobState} (ends : st.isTerminal = true) (pages : Option Half)
    (cause : Option JobCause) : QueuesLawful (Machine.endJob j.id st pages cause s) :=
  law.of_endJob found (law.jobs.endJob found lives ends pages cause) (job_endJob found st pages cause)
    (endJob_printQueue found ..) (definedKind_congr (endJob_units found ..)) ends

/-- An ended job is in no queue, and no queue has gained a job. -/
theorem QueuesLawful.mem_endJob (law : QueuesLawful s) {j : Job} (found : job? s j.id = some j) {st : JobState}
    {pages : Option Half} {cause : Option JobCause} {i : Slot} {x : Nat}
    (mem : x ∈ (Machine.endJob j.id st pages cause s).printQueue[i]) : x ∈ s.printQueue[i] ∧ x ≠ j.id := by
  rw [endJob_printQueue found, upd_get] at mem
  split_ifs at mem with own
  · simpa using List.mem_filter.mp mem
  · refine ⟨mem, ?_⟩
    rintro rfl
    exact own (law.slot_of_mem found mem).1

/-! ### A queue whose jobs all wait -/

/-- Every job in the queue of a slot is FILLING or QUEUED. -/
def AllWait (i : Slot) (s : State) : Prop := ∀ x ∈ s.printQueue[i], ∃ j, job? s x = some j ∧ j.waiting

theorem QueuesLawful.allWait (law : QueuesLawful s) {i : Slot} (head : ∀ j, headJob? s i = some j → j.waiting) :
    AllWait i s := by
  intro x mem
  obtain ⟨j, found, -, -⟩ := law.member i x mem
  refine ⟨j, found, ?_⟩
  cases queue : s.printQueue[i] with
  | nil => simp [queue] at mem
  | cons y rest =>
    rw [queue] at mem
    obtain rfl | behind := List.mem_cons.mp mem
    · obtain rfl := job_id found
      exact head j (headJob_eq_some.mpr ⟨by rw [queue]; rfl, found⟩)
    · exact law.behind i x (queue ▸ behind) j found

theorem AllWait.head {i : Slot} (wait : AllWait i s) {j : Job} (head : headJob? s i = some j) : j.waiting := by
  obtain ⟨first, found⟩ := headJob_eq_some.mp head
  obtain ⟨k, found', waits⟩ := wait j.id (List.mem_of_mem_head? first)
  rw [found] at found'
  cases found'
  exact waits

theorem AllWait.endJob {i : Slot} (wait : AllWait i s) (law : QueuesLawful s) {j : Job} (found : job? s j.id = some j)
    (st : JobState) (pages : Option Half) (cause : Option JobCause) :
    AllWait i (Machine.endJob j.id st pages cause s) := by
  intro x mem
  obtain ⟨mem, other⟩ := law.mem_endJob found mem
  rw [job_endJob found, if_neg other]
  exact wait x mem

/-- When the head job of a queue has ended, no job of the queue is known to the printer. -/
theorem QueuesLawful.allWait_endHead (law : QueuesLawful s) {i : Slot} {j : Job} (head : headJob? s i = some j)
    (st : JobState) (pages : Option Half) (cause : Option JobCause) :
    AllWait i (Machine.endJob j.id st pages cause s) := by
  obtain ⟨first, found⟩ := headJob_eq_some.mp head
  intro x mem
  obtain ⟨mem, other⟩ := law.mem_endJob found mem
  obtain ⟨k, foundK, -, -⟩ := law.member i x mem
  obtain ⟨rest, queue⟩ := List.head?_eq_some_iff.mp first
  rw [job_endJob found, if_neg other]
  rw [queue] at mem
  exact ⟨k, foundK, law.behind i x (queue ▸ (List.mem_cons.mp mem).resolve_left other) k foundK⟩

/-- Of a printer that goes no job stays known to it (R114 stage 1). -/
theorem QueuesLawful.allWait_reportGone (law : QueuesLawful s) (i : Slot) (cause : JobCause) :
    AllWait i (reportGone i cause s) := by
  unfold reportGone
  split
  · next none => exact law.allWait fun j head => by rw [none] at head; cases head
  · next j head =>
    split
    · exact law.allWait_endHead head _ _ _
    · exact law.allWait_endHead head _ _ _
    · unfold endCancelling
      split_ifs
      · exact law.allWait_endHead head _ _ _
      · exact law.allWait_endHead head _ _ _
    · next feeding draining cancelling =>
      refine law.allWait fun k head' => ?_
      rw [head] at head'
      cases head'
      obtain ⟨first, found⟩ := headJob_eq_some.mp head
      obtain ⟨-, lives⟩ := law.slot_of_mem found (List.mem_of_mem_head? first)
      unfold Job.waiting
      cases st : j.state <;> simp_all [JobState.isTerminal]

/-! ### Jobs moved to another printer (R114 stage 2) -/

theorem moveJob_from {i k : Slot} (other : i ≠ k) (id : Nat) (s : State) :
    (moveJob id i k s).printQueue[i] = (s.printQueue[i]).filter fun x => x ≠ id := by
  show (upd (upd s.printQueue i _) k _)[i] = _
  rw [upd_get_ne _ _ _ _ other.symm, upd_get_self]

theorem job_moveJob_ne {i k : Slot} {id x : Nat} (other : x ≠ id) (s : State) : job? (moveJob id i k s) x = job? s x :=
  (job_congr (s := modJob id (Job.movedTo k) s) rfl x).trans (job_modJob_ne (f := Job.movedTo k) (fun _ => rfl) other)

/-- The jobs of a queue moved one after the other, each to another printer with room. -/
theorem moveAll_keeps {P : State → Prop} {i : Slot} (law : ∀ {s}, P s → QueuesLawful s)
    (moved : ∀ {s} {j : Job} {k : Slot}, job? s j.id = some j → j.slot = i → j.waiting → i ≠ k →
      definedKind s k = some .printer → (s.printQueue[k]).length < 8 → P s → P (moveJob j.id i k s))
    (h : P s) : P (forEach (s.printQueue[i]) (moveAnyJob i) s) := by
  have all : ∀ l : List Nat, l.Nodup → ∀ {s}, (∀ x ∈ l, x ∈ s.printQueue[i]) → P s → P (forEach l (moveAnyJob i) s) := by
    intro l
    induction l with
    | nil => exact fun _ _ _ h => h
    | cons id l ih =>
      intro nodup s stand h
      obtain ⟨new, once⟩ := List.nodup_cons.mp nodup
      have mem := stand id List.mem_cons_self
      have rest : ∀ x ∈ l, x ∈ s.printQueue[i] := fun x hx => stand x (List.mem_cons_of_mem id hx)
      rw [forEach_cons]
      obtain same | ⟨j, k, found, waits, chosen, same⟩ := moveAnyJob_cases i id s
      · rw [same]
        exact ih once rest h
      · obtain rfl := job_id found
        obtain ⟨kind, -, room, excluded⟩ := printerCandidate_iff.mp (anyPrinter_candidate chosen)
        have other : i ≠ k := fun same => excluded (congrArg some same)
        rw [same]
        refine ih once (fun x hx => ?_) (moved found ((law h).slot_of_mem found mem).1 waits other kind room h)
        rw [moveJob_from other, List.mem_filter]
        refine ⟨rest x hx, by simpa using fun same : x = j.id => new (same ▸ hx)⟩
  exact all _ ((law h).once i) (fun _ hx => hx) h

theorem AllWait.moveJob {i k : Slot} (wait : AllWait i s) (other : i ≠ k) (id : Nat) : AllWait i (moveJob id i k s) := by
  intro x mem
  rw [moveJob_from other, List.mem_filter, decide_eq_true_eq] at mem
  rw [job_moveJob_ne mem.2]
  exact wait x mem.1

/-! ### A printer removed (R115) -/

/-- A job reported left with its printer removed is in no queue. -/
theorem AllWait.reportLeft {i : Slot} (wait : AllWait i s) (law : QueuesLawful s) (id : Nat) :
    AllWait i (reportLeft id s) ∧ ∀ x ∈ (reportLeft id s).printQueue[i], x ∈ s.printQueue[i] ∧ x ≠ id := by
  have ended {j : Job} (found : job? s j.id = some j) : AllWait i (failJob j.id .unitRemoved s) ∧
      ∀ x ∈ (failJob j.id .unitRemoved s).printQueue[i], x ∈ s.printQueue[i] ∧ x ≠ j.id :=
    ⟨wait.endJob law found _ _ _, fun _ => law.mem_endJob found⟩
  have stays (no : ∀ j, job? s id = some j → ¬j.waiting) :
      AllWait i s ∧ ∀ x ∈ s.printQueue[i], x ∈ s.printQueue[i] ∧ x ≠ id := by
    refine ⟨wait, fun x mem => ⟨mem, ?_⟩⟩
    rintro rfl
    obtain ⟨j, found, waits⟩ := wait x mem
    exact no j found waits
  unfold Machine.reportLeft
  split
  · next none => exact stays fun j found => by rw [none] at found; cases found
  · next j found =>
    obtain rfl := job_id found
    split
    · exact ended found
    · exact ended found
    · next filling queued =>
      refine stays fun k found' => ?_
      rw [found] at found'
      cases found'
      exact fun waits => waits.elim filling queued

theorem reportLeft_all {i : Slot} (keeps : ∀ {s} id, QueuesLawful s → QueuesLawful (reportLeft id s)) (l : List Nat)
    (law : QueuesLawful s) (wait : AllWait i s) (named : ∀ x ∈ s.printQueue[i], x ∈ l) :
    (forEach l reportLeft s).printQueue[i] = [] := by
  induction l generalizing s with
  | nil => exact List.eq_nil_iff_forall_not_mem.mpr fun x mem => List.not_mem_nil (named x mem)
  | cons id l ih =>
    obtain ⟨wait', left⟩ := wait.reportLeft law id
    refine ih (keeps id law) wait' fun x mem => ?_
    obtain ⟨mem, other⟩ := left x mem
    exact (List.mem_cons.mp (named x mem)).resolve_left other

/-! ### The law under each change -/

theorem printQueueLaw_reset : PrintQueueLaw State.reset :=
  ⟨jobLaw_reset, fun i => by simp [QueuedJobs, State.reset], by simp [State.reset], fun i _ => by simp [State.reset]⟩

theorem QueuesLawful.part (law : QueuesLawful s) (same : spoolPart t = spoolPart s) : QueuesLawful t :=
  law.congr (congrArg State.jobs same :) (congrArg State.nextJob same :) (congrArg State.terminal same :)
    (congrArg State.printQueue same :) (definedKind_of_part same)

theorem QueuesLawful.reshaped (law : QueuesLawful s) {j : Job} {f : Job → Job} (found : job? s j.id = some j)
    (shape : Reshaped s j (f j)) (ids : ∀ x, (f x).id = x.id) : QueuesLawful (modJob j.id f s) := by
  refine law.of_modJob found (law.jobs.modJob found ids shape.terminal) (job_modJob_found ids found) rfl (fun _ => rfl) (by rw [shape.same])
    shape.terminal fun i behind => ?_
  obtain filling | queued | ⟨k, head⟩ | printing := shape.prints
  · exact .inl filling
  · exact .inr queued
  · exact absurd behind (law.head_not_behind head)
  · exact absurd (law.behind i j.id behind j found) (not_or.mpr printing)

/-- A record changed in its chain and counts alone. -/
theorem QueuesLawful.chained (law : QueuesLawful s) {j : Job} {f : Job → Job} (found : job? s j.id = some j)
    (ids : ∀ x, (f x).id = x.id) (slot : (f j).slot = j.slot) (state : (f j).state = j.state) :
    QueuesLawful (modJob j.id f s) := by
  refine law.of_modJob found (law.jobs.modJob found ids (by rw [state])) (job_modJob_found ids found) rfl (fun _ => rfl) slot (by rw [state])
    fun i behind => ?_
  unfold Job.waiting
  rw [state]
  exact law.behind i j.id behind j found

/-- A slot with an empty queue may be defined anew. -/
theorem QueuesLawful.vacated (law : QueuesLawful s) {i : Slot} (kind : Option UnitKind) (empty : s.printQueue[i] = []) :
    QueuesLawful (vacated i kind s) := by
  have queues : (Machine.vacated i kind s).printQueue = s.printQueue :=
    upd_same s.printQueue i (fun _ => []) empty.symm
  have units (m : Slot) (other : m ≠ i) : definedKind (Machine.vacated i kind s) m = definedKind s m := by
    show Option.map _ (upd s.units i _)[m].definition = _
    rw [upd_get_ne _ _ _ _ other.symm]
    rfl
  obtain ⟨jobs, short, once, member, behind, queued, printers⟩ := law
  refine ⟨jobs.congr rfl rfl rfl, by rwa [queues], by rwa [queues], by rwa [queues], by rwa [queues], by rwa [queues],
    fun m no => ?_⟩
  rw [queues]
  by_cases own : m = i
  · rwa [own]
  · exact printers m (units m own ▸ no)

theorem queuesLawful_kept : JobsKept QueuesLawful where
  part same law := law.part same
  engine _ _ law := law.congr rfl rfl rfl rfl fun _ => rfl
  full := printQueueLaw_iff.mp printQueueLaw_reset
  soft {s} _ := printQueueLaw_iff.mp ⟨jobLaw_reset.congr rfl rfl rfl,
    fun i => by simp [QueuedJobs, softSpooler, State.reset], by simp [softSpooler, State.reset],
    fun i _ => by simp [softSpooler, State.reset]⟩
  ended pages cause found lives ends law := law.endJob found lives ends pages cause
  reshaped found shape ids law := law.reshaped found shape ids
  fed {s} i law := by
    obtain same | ⟨j, block, rest, head, st, chain⟩ := reportFed_cases i s
    · rwa [same]
    · rw [reportFed_eq head st chain]
      exact (law.chained (f := Job.blockFed _ rest) (headJob_eq_some.mp head).2 (fun _ => rfl) rfl rfl).congr
        (freeBlocks_jobs ..) (freeBlocks_nextJob ..) (freeBlocks_terminal ..) (freeBlocks_printQueue ..)
        (definedKind_congr (freeBlocks_units ..))
  accepted {s j} data found _ law :=
    (law.chained (f := Job.filled (writeBytes s j data) data.length s.hubTime) found (fun _ => rfl) rfl rfl).congr
      rfl rfl rfl rfl fun _ => rfl
  created {s i} k any kind short full law := by
    obtain ⟨after, queues, units⟩ := reclaim_keeps
      (P := fun t => QueuesLawful t ∧ t.printQueue = s.printQueue ∧ t.units = s.units)
      (fun _ listed law => ⟨(law.1.collected listed).1, law.2⟩) ⟨law, rfl, rfl⟩
    exact after.created k any ((definedKind_congr units i).trans kind) (by rwa [queues]) (law.jobs.reclaim_room full)
  collected id listed law := (law.collected (listed law.jobs)).1
  figures _ _ _ _ law := law.congr rfl rfl rfl rfl fun _ => rfl
  limit _ _ _ law := law.congr rfl rfl rfl rfl fun _ => rfl

/-- When a printer has gone, no job left in its queue is known to it, and the law stands (R114). -/
theorem QueuesLawful.printerGone (law : QueuesLawful s) (i : Slot) (cause : JobCause) :
    QueuesLawful (printerGone i cause s) ∧ AllWait i (printerGone i cause s) := by
  obtain ⟨after, wait⟩ := moveAll_keeps (P := fun t => QueuesLawful t ∧ AllWait i t) (·.1)
    (fun {s j k} found slot waits other kind room h =>
      ⟨h.1.moved found slot waits kind room other, h.2.moveJob other j.id⟩)
    ⟨queuesLawful_kept.reportGone i cause law, law.allWait_reportGone i cause⟩
  exact ⟨queuesLawful_kept.engine i _ after, wait⟩

/-- A removed printer has an empty queue (R115). -/
theorem QueuesLawful.printerRemoved (law : QueuesLawful s) (i : Slot) : (printerRemoved i s).printQueue[i] = [] := by
  obtain ⟨after, wait⟩ := law.printerGone i .unitRemoved
  exact reportLeft_all (fun id law => queuesLawful_kept.reportLeft id law) _ after wait fun _ mem => mem

theorem queuesLawful_spoolKept : SpoolKept QueuesLawful :=
  queuesLawful_kept.spoolKept
    (fun _ law => moveAll_keeps id (fun found slot waits other kind room law =>
      law.moved found slot waits kind room other) law)
    (fun i law after => after.vacated none (law.printerRemoved i))
    (fun i kind no law => law.vacated kind (law.printers i no))
    (fun k law => queuesLawful_kept.clearJobs (·.jobs) k law)

end Sys2Proof.Machine
end

section
/-!
PROOFS. A Feed Engine stands with the head job of its slot (R98, R99) under each change the Spooler and the engines make.
-/

namespace Sys2Proof.Machine

variable {s t : State}

/-! ### An engine against a head job -/

/-- R99's table for one engine and the head job of its slot. -/
def StepFits (e : FeedEngine) (head : Option Job) : Prop :=
  (e.step = .none → e.job = none ∧ ∀ j, head = some j → j.waiting) ∧
    (e.step ≠ .none → ∃ j, head = some j ∧ e.job = some j.id ∧ j.state = e.step.jobState ∧
      (e.step = .endMark → j.isOpen = false ∧ j.chain = []))

namespace StepFits

variable {e e' : FeedEngine} {head : Option Job} {j : Job}

theorem rest (step : e.step = .none) (job : e.job = none) (waits : ∀ j, head = some j → j.waiting) : StepFits e head :=
  ⟨fun _ => ⟨job, waits⟩, fun no => absurd step no⟩

theorem work (step : e.step ≠ .none) (job : e.job = some j.id) (state : j.state = e.step.jobState)
    (fed : e.step = .endMark → j.isOpen = false ∧ j.chain = []) : StepFits e (some j) :=
  ⟨fun none => absurd none step, fun _ => ⟨j, rfl, job, state, fed⟩⟩

theorem congr (fits : StepFits e head) (place : e'.place = e.place) : StepFits e' head := by
  have step : e'.step = e.step := (congrArg FeedEngine.step place :)
  have job : e'.job = e.job := (congrArg FeedEngine.job place :)
  unfold StepFits
  rwa [step, job]

theorem jobState_printing (w : FeedStep) (state : j.state = w.jobState) : ¬j.waiting := by
  unfold Job.waiting
  rw [state]
  cases w <;> simp [FeedStep.jobState]

/-- An engine that goes on to another step of the same job state, the end mark not begun (R102). -/
theorem advance (fits : StepFits e head) (before : e.step ≠ .none) (step : e'.step ≠ .none) (job : e'.job = e.job)
    (state : e'.step.jobState = e.step.jobState) (mark : e'.step ≠ .endMark) : StepFits e' head := by
  obtain ⟨j, rfl, own, now, -⟩ := fits.2 before
  exact work step (job.trans own) (now.trans state.symm) fun begun => absurd begun mark

/-- The same engine against the same job with what R99 does not name changed. -/
theorem reshape (fits : StepFits e (some j)) {j' : Job} (same : j'.id = j.id)
    (state : j.waiting ∧ j'.waiting ∨ j'.state = j.state)
    (fed : e.step = .endMark → j.isOpen = false ∧ j.chain = [] → j'.isOpen = false ∧ j'.chain = []) :
    StepFits e (some j') := by
  by_cases none : e.step = .none
  · obtain ⟨job, waits⟩ := fits.1 none
    refine rest none job fun k hk => ?_
    cases hk
    obtain ⟨-, waits'⟩ | state := state
    · exact waits'
    · have := waits j rfl
      unfold Job.waiting at this ⊢
      rwa [state]
  · obtain ⟨k, hk, job, now, mark⟩ := fits.2 none
    cases hk
    have state : j'.state = j.state := state.resolve_left fun waits => jobState_printing _ now waits.1
    exact work none (by rw [job, same]) (state.trans now) fun begun => fed begun (mark begun)

end StepFits

/-! ### The work table (R100) -/

theorem feedWork_markStart {e : FeedEngine} {head : Option Job} (work : feedWork e head = some .markStart) :
    (e.step = .none ∧ ∃ j, head = some j ∧ startCondition e j = true) ∨ e.step = .startMark := by
  unfold feedWork at work
  dsimp only at work
  iterate 3
    split at work
    · cases work
  split at work
  · next starts =>
    simp only [Bool.and_eq_true, decide_eq_true_eq, Option.any_eq_true] at starts
    exact .inl starts
  split at work
  · next again =>
    simp only [Bool.and_eq_true, decide_eq_true_eq] at again
    exact .inr again.1.1
  iterate 3
    split at work
    · cases work
  cases work

theorem feedWork_markEnd {e : FeedEngine} {head : Option Job} (work : feedWork e head = some .markEnd) :
    (e.step = .stream ∧ ∃ j, head = some j ∧ j.isOpen = false ∧ j.chain = []) ∨ e.step = .endMark := by
  unfold feedWork at work
  dsimp only at work
  iterate 6
    split at work
    · cases work
  split at work
  · next ends =>
    simp only [Bool.and_eq_true, decide_eq_true_eq, Option.any_eq_true, Bool.not_eq_true', List.isEmpty_iff] at ends
    exact .inl ⟨ends.1.1, ends.2⟩
  split at work
  · next again =>
    simp only [Bool.and_eq_true, decide_eq_true_eq] at again
    exact .inr again.1.1
  cases work

theorem place_markStart_again {e : FeedEngine} {head : Option Job} (step : e.step = .startMark) :
    (feedPosted .markStart head e).place = e.place := by
  simp [feedPosted, FeedEngine.place, step]

theorem place_markEnd_again {e : FeedEngine} {head : Option Job} (step : e.step = .endMark) :
    (feedPosted .markEnd head e).place = e.place := by
  simp [feedPosted, FeedEngine.place, step]

theorem reportStarted_eq {i : Slot} {j : Job} (head : headJob? s i = some j) (waits : j.waiting) :
    reportStarted i s = modJob j.id (fun j => { j with state := .feeding }) s := by
  unfold reportStarted
  rw [head]
  obtain st | st := waits <;> simp only [st]

/-! ### The law of the engines -/

/-- The law of the Feed Engines, each record named by its id. -/
structure FeedsLawful (s : State) : Prop where
  queues : QueuesLawful s
  fits : ∀ i : Slot, StepFits s.feeds[i] (headJob? s i)

theorem feedLaw_iff : FeedLaw s ↔ FeedsLawful s :=
  ⟨fun ⟨queues, fits⟩ => ⟨printQueueLaw_iff.mp queues, fits⟩, fun ⟨queues, fits⟩ => ⟨printQueueLaw_iff.mpr queues, fits⟩⟩

theorem QueuesLawful.engine (law : QueuesLawful s) (i : Slot) (g : FeedEngine → FeedEngine) :
    QueuesLawful (modFeed i g s) := queuesLawful_kept.engine i g law

theorem headJob_modFeed (i m : Slot) (g : FeedEngine → FeedEngine) (s : State) :
    headJob? (modFeed i g s) m = headJob? s m := headJob_congr rfl rfl m

/-- The head job of a slot that a changed record is not of. -/
theorem QueuesLawful.headJob_elsewhere (law : QueuesLawful s) {j : Job} (found : job? s j.id = some j)
    (lookup : ∀ x, x ≠ j.id → job? t x = job? s x) {m : Slot} (queue : t.printQueue[m] = s.printQueue[m])
    (other : m ≠ j.slot) : headJob? t m = headJob? s m := by
  unfold headJob?
  rw [queue]
  cases first : (s.printQueue[m]).head? with
  | none => rfl
  | some id =>
    refine lookup id ?_
    rintro rfl
    exact other (law.slot_of_mem found (List.mem_of_mem_head? first)).1.symm

/-- The head job of a slot whose queue and records stand. -/
theorem headJob_same {i : Slot} {j : Job} (head : headJob? s i = some j)
    (lookup : job? t j.id = job? s j.id) (first : (t.printQueue[i]).head? = (s.printQueue[i]).head?) :
    headJob? t i = some j := by
  obtain ⟨top, found⟩ := headJob_eq_some.mp head
  exact headJob_eq_some.mpr ⟨first.trans top, lookup.trans found⟩

namespace FeedsLawful

variable (law : FeedsLawful s)
include law

theorem congr (jobs : t.jobs = s.jobs) (next : t.nextJob = s.nextJob) (terminal : t.terminal = s.terminal)
    (queues : t.printQueue = s.printQueue) (kinds : ∀ i, definedKind t i = definedKind s i)
    (places : ∀ i : Slot, (t.feeds[i]).place = (s.feeds[i]).place) : FeedsLawful t :=
  ⟨law.queues.congr jobs next terminal queues kinds, fun i => by
    rw [headJob_congr jobs queues]
    exact (law.fits i).congr (places i)⟩

/-- One slot's engine and head job changed, in accord. -/
theorem at_slot (queues : QueuesLawful t) (i : Slot) (feeds : ∀ m : Slot, m ≠ i → t.feeds[m] = s.feeds[m])
    (heads : ∀ m : Slot, m ≠ i → headJob? t m = headJob? s m) (fits : StepFits t.feeds[i] (headJob? t i)) :
    FeedsLawful t := by
  refine ⟨queues, fun m => ?_⟩
  by_cases own : m = i
  · rwa [own]
  · rw [feeds m own, heads m own]
    exact law.fits m

/-- An engine changed. -/
theorem engine (i : Slot) {g : FeedEngine → FeedEngine} (fits : StepFits (g s.feeds[i]) (headJob? s i)) :
    FeedsLawful (modFeed i g s) := by
  refine law.at_slot (law.queues.engine i g) i (fun m own => upd_get_ne _ _ _ _ own.symm)
    (fun m _ => headJob_modFeed i m g s) ?_
  rw [headJob_modFeed, modFeed_feeds, upd_get_self]
  exact fits

/-- An engine changed in what R99 does not name. -/
theorem engine_same (i : Slot) {g : FeedEngine → FeedEngine}
    (place : ∀ e, (g e).place = e.place := by exact fun _ => rfl) :
    FeedsLawful (modFeed i g s) := law.engine i ((law.fits i).congr (place _))

/-! ### A record changed -/

/-- The head job's record changed together with its engine. -/
theorem head_changed {i : Slot} {j : Job} (head : headJob? s i = some j) {f : Job → Job}
    (queues : QueuesLawful (modJob j.id f s)) (ids : ∀ x, (f x).id = x.id) {g : FeedEngine → FeedEngine}
    (fits : StepFits (g s.feeds[i]) (some (f j))) :
    FeedsLawful (modFeed i g (modJob j.id f s)) := by
  obtain ⟨first, found⟩ := headJob_eq_some.mp head
  have slot := (law.queues.slot_of_mem found (List.mem_of_mem_head? first)).1
  have now : headJob? (modFeed i g (modJob j.id f s)) i = some (f j) := by
    rw [headJob_modFeed, headJob_eq_some, ids]
    exact ⟨first, job_modJob_self ids found⟩
  refine law.at_slot (queues.engine i g) i (fun m own => upd_get_ne _ _ _ _ own.symm) (fun m own => ?_) ?_
  · rw [headJob_modFeed]
    exact law.queues.headJob_elsewhere found (fun x other => job_modJob_ne ids other) rfl (slot.symm ▸ own)
  · rw [now]
    show StepFits (upd s.feeds i g)[i] _
    rwa [upd_get_self]

/-- A record changed, wherever it stands, its engine as before. -/
theorem changed {j : Job} (found : job? s j.id = some j) {f : Job → Job} (ids : ∀ x, (f x).id = x.id)
    (queues : QueuesLawful (modJob j.id f s)) (fits : ∀ e, StepFits e (some j) → StepFits e (some (f j))) :
    FeedsLawful (modJob j.id f s) := by
  refine ⟨queues, fun m => ?_⟩
  show StepFits s.feeds[m] _
  by_cases head : headJob? s m = some j
  · obtain ⟨first, -⟩ := headJob_eq_some.mp head
    have now : headJob? (modJob j.id f s) m = some (f j) := by
      rw [headJob_eq_some, ids]
      exact ⟨first, job_modJob_self ids found⟩
    rw [now]
    exact fits _ (head ▸ law.fits m)
  · have same : headJob? (modJob j.id f s) m = headJob? s m := by
      have queue : (modJob j.id f s).printQueue[m] = s.printQueue[m] := rfl
      unfold headJob?
      rw [queue]
      cases first : (s.printQueue[m]).head? with
      | none => rfl
      | some id =>
        refine job_modJob_ne ids ?_
        rintro rfl
        exact head (headJob_eq_some.mpr ⟨first, found⟩)
    rw [same]
    exact law.fits m

/-! ### Endings -/

/-- The head job ends and its engine has none. -/
theorem end_head {i : Slot} {j : Job} (head : headJob? s i = some j) (lives : j.state.isTerminal = false) {st : JobState}
    (ends : st.isTerminal = true) (pages : Option Half) (cause : Option JobCause) {g : FeedEngine → FeedEngine}
    (step : ∀ e, (g e).step = .none := by exact fun _ => rfl) (job : ∀ e, (g e).job = none := by exact fun _ => rfl) :
    FeedsLawful (modFeed i g (Machine.endJob j.id st pages cause s)) := by
  obtain ⟨first, found⟩ := headJob_eq_some.mp head
  have slot := (law.queues.slot_of_mem found (List.mem_of_mem_head? first)).1
  have feeds := endJob_feeds found st pages cause
  refine law.at_slot ((law.queues.endJob found lives ends pages cause).engine i g) i (fun m own => ?_) (fun m own => ?_) ?_
  · rw [modFeed_feeds, upd_get_ne _ _ _ _ own.symm, feeds]
  · rw [headJob_modFeed]
    refine law.queues.headJob_elsewhere found (fun x other => by rw [job_endJob found, if_neg other]) ?_ (slot.symm ▸ own)
    rw [endJob_printQueue found, upd_get_ne _ _ _ _ (slot.symm ▸ own.symm)]
  · rw [modFeed_feeds, upd_get_self]
    exact .rest (step _) (job _) fun k hk =>
      (law.queues.allWait_endHead head st pages cause).head (by rwa [headJob_modFeed] at hk)

/-- A FILLING or QUEUED job ends, its engine as before. -/
theorem end_waiting {j : Job} (found : job? s j.id = some j) (waits : j.waiting) {st : JobState}
    (ends : st.isTerminal = true) (pages : Option Half) (cause : Option JobCause) :
    FeedsLawful (Machine.endJob j.id st pages cause s) := by
  have feeds := endJob_feeds found st pages cause
  refine law.at_slot (law.queues.endJob found waits.lives ends pages cause) j.slot (fun m _ => by rw [feeds])
    (fun m own => ?_) ?_
  · refine law.queues.headJob_elsewhere found (fun x other => by rw [job_endJob found, if_neg other]) ?_ own
    rw [endJob_printQueue found, upd_get_ne _ _ _ _ own.symm]
  · rw [feeds]
    have fits := law.fits j.slot
    by_cases none : (s.feeds[j.slot]).step = .none
    · obtain ⟨job, waiting⟩ := fits.1 none
      exact .rest none job fun k hk => ((law.queues.allWait waiting).endJob law.queues found st pages cause).head hk
    · obtain ⟨k, head, -, state, -⟩ := fits.2 none
      have other : k.id ≠ j.id := by
        intro same
        have foundK := (headJob_eq_some.mp head).2
        rw [same, found] at foundK
        cases foundK
        exact StepFits.jobState_printing _ state waits
      have now : headJob? (Machine.endJob j.id st pages cause s) j.slot = some k := by
        refine headJob_same head (by rw [job_endJob found, if_neg other]) ?_
        obtain ⟨rest, queue⟩ := List.head?_eq_some_iff.mp (headJob_eq_some.mp head).1
        rw [endJob_printQueue found, upd_get_self, queue, List.filter_cons_of_pos (by simpa using other)]
        rfl
      rw [now, ← head]
      exact fits

/-! ### The reports and outcomes of the engines (chapter 5) -/

theorem reportFed (i : Slot) : FeedsLawful (reportFed i s) := by
  obtain same | ⟨j, block, rest, head, st, chain⟩ := reportFed_cases i s
  · rwa [same]
  · have found := (headJob_eq_some.mp head).2
    have queues := queuesLawful_kept.fed i law.queues
    rw [reportFed_eq head st chain] at queues ⊢
    have fed : FeedsLawful (modJob j.id (Job.blockFed (if rest.isEmpty then j.fill else 48) rest) s) := by
      refine law.changed found (fun _ => rfl) (law.queues.chained found (fun _ => rfl) rfl rfl) fun e fits =>
        fits.reshape rfl (.inr rfl) fun _ done => ?_
      rw [chain] at done
      cases done.2
    exact fed.congr (freeBlocks_jobs ..) (freeBlocks_nextJob ..) (freeBlocks_terminal ..) (freeBlocks_printQueue ..)
      (definedKind_congr (freeBlocks_units ..)) fun i => by rw [freeBlocks_feeds]

theorem actMarkStart (i : Slot) (o : BusOutcome) : FeedsLawful (actMarkStart i o s) := by
  unfold Machine.actMarkStart
  split_ifs with step
  · split
    · exact law.engine i ((law.fits i).advance (by rw [step]; nofun) nofun rfl (by rw [step]; rfl) nofun)
    · exact law.engine_same i
    · exact law
  · exact law

/-- The end mark has come through: the head job is DRAINING and the engine waits for its end (R106, R107). -/
theorem endMarked {i : Slot} (step : (s.feeds[i]).step = .endMark) {g : FeedEngine → FeedEngine}
    (next : ∀ e, (g e).step = .endWait := by exact fun _ => rfl) (job : ∀ e, (g e).job = e.job := by exact fun _ => rfl) :
    FeedsLawful (modFeed i g (reportEndMark i s)) := by
  obtain ⟨j, head, own, state, fed⟩ := (law.fits i).2 (by rw [step]; nofun)
  obtain ⟨closed, empty⟩ := fed step
  have found := (headJob_eq_some.mp head).2
  have feeding : j.state = .feeding := by rw [state, step]; rfl
  have report : Machine.reportEndMark i s = modJob j.id (fun j => { j with state := .draining }) s := by
    unfold Machine.reportEndMark
    rw [head]
    simp [feeding, closed, empty]
  have queues := queuesLawful_kept.reportEndMark i law.queues
  rw [report] at queues ⊢
  refine law.head_changed head queues (fun _ => rfl) (.work (by simp [next]) ((job _).trans own) ?_ (by simp [next]))
  rw [next]
  rfl

theorem actMarkEnd (i : Slot) (o : BusOutcome) : FeedsLawful (actMarkEnd i o s) := by
  unfold Machine.actMarkEnd
  split_ifs with step
  · split
    · exact law.endMarked step
    · exact law.engine_same i
    · exact law
  · exact law

theorem actPstate (i : Slot) (o : BusOutcome) (d : List Byte) : FeedsLawful (actPstate i o d s) := by
  unfold Machine.actPstate
  split_ifs with done
  · simp only [Bool.and_eq_true, decide_eq_true_eq] at done
    obtain ⟨⟨⟨step, -⟩, -⟩, -⟩ := done
    obtain ⟨j, head, -, state, -⟩ := (law.fits i).2 (by rw [step]; nofun)
    have draining : j.state = .draining := by rw [state, step]; rfl
    unfold reportJobEnd
    rw [head]
    simp only [draining, if_true]
    exact law.end_head head (by rw [draining]; rfl) rfl _ _
  · exact law

theorem actMarkAbort (i : Slot) : FeedsLawful (actMarkAbort i s) := by
  unfold Machine.actMarkAbort
  split_ifs with step
  · obtain ⟨j, head, -, state, -⟩ := (law.fits i).2 (by rw [step]; nofun)
    have cancelling : j.state = .cancelling := by rw [state, step]; rfl
    have lives : j.state.isTerminal = false := by rw [cancelling]; rfl
    unfold reportAbortEnded
    rw [head]
    simp only [cancelling, if_true]
    unfold endCancelling
    split_ifs
    · exact law.end_head head lives rfl _ _
    · exact law.end_head head lives rfl _ _
  · exact law

theorem actFeed (i : Slot) (o : BusOutcome) : FeedsLawful (actFeed i o s) := by
  have spend (e : FeedEngine) : e.spend.place = e.place := by
    unfold FeedEngine.spend
    split_ifs <;> rfl
  unfold Machine.actFeed
  split
  · exact (law.reportFed i).engine_same i fun e => spend e
  · exact law.engine_same i
  · exact law.engine_same i spend
  · exact law

theorem feedAct (i : Slot) (w : TxnName) (o : BusOutcome) (d : List Byte) : FeedsLawful (feedAct i w o d s) := by
  have ended : FeedsLawful (feedEnded i s) := law.engine_same i
  unfold Machine.feedAct
  dsimp only
  generalize feedEnded i s = t at ended
  split
  · exact ended.actMarkStart i o
  · unfold actCredit
    split_ifs
    · exact ended.engine_same i
    · exact ended
  · exact ended.actFeed i o
  · exact ended.actMarkEnd i o
  · exact ended.actPstate i o d
  · exact ended.actMarkAbort i
  · exact ended

/-! ### A printer's causes (R107, R108, R111 to R113) -/

theorem causeAborted (i : Slot) : FeedsLawful (causeAborted i s) := by
  unfold Machine.causeAborted
  split_ifs with concerned
  · have step : (s.feeds[i]).step ≠ .none := fun none => by rw [none] at concerned; cases concerned
    obtain ⟨j, head, -, state, -⟩ := (law.fits i).2 step
    have printing : j.state = .feeding ∨ j.state = .draining := by
      rw [state]
      cases h : (s.feeds[i]).step <;> simp_all [FeedStep.concerned, FeedStep.jobState]
    unfold reportAborted
    rw [head]
    obtain feeding | draining := printing
    · simp only [feeding]
      exact law.end_head head (by rw [feeding]; rfl) rfl _ _
    · simp only [draining]
      exact law.end_head head (by rw [draining]; rfl) rfl _ _
  · exact law

theorem causeJobEnd (i : Slot) : FeedsLawful (causeJobEnd i s) := by
  unfold Machine.causeJobEnd
  split
  · exact law.engine_same i
  · next step => exact law.endMarked step
  · exact law

theorem part (same : spoolPart t = spoolPart s) : FeedsLawful t := by
  refine law.congr (congrArg State.jobs same :) (congrArg State.nextJob same :) (congrArg State.terminal same :)
    (congrArg State.printQueue same :) (definedKind_of_part same) fun i => ?_
  have places : mapAll t.feeds FeedEngine.place = mapAll s.feeds FeedEngine.place := (congrArg State.feeds same :)
  rw [← mapAll_get t.feeds FeedEngine.place, places, mapAll_get]

theorem causePause (i : Slot) (c : PrinterCauses) : FeedsLawful (causePause i c s) := by
  unfold Machine.causePause
  split
  · exact law
  · next p _ =>
    have paused : FeedsLawful (modFeed i (fun e => { e with paused := true, pauseCause := some p }) s) := law.engine_same i
    dsimp only
    split_ifs
    · exact paused.part (spoolPart_latchOpt ..)
    · exact paused

theorem causeCleared (i : Slot) : FeedsLawful (causeCleared i s) := by
  have resumed : FeedsLawful
      (modFeed i (fun e => { e.forget with paused := false, pauseCause := none, creditWanted := true }) s) :=
    law.engine_same i
  unfold Machine.causeCleared
  dsimp only
  split_ifs
  · exact resumed.part (spoolPart_latchOpt ..)
  · exact resumed
  · exact law

theorem printerCause (i : Slot) (b : Byte) : FeedsLawful (printerCause i b s) := by
  have choose {p : Bool} {f : State → State} {t : State} (hf : FeedsLawful t → FeedsLawful (f t)) (ht : FeedsLawful t) :
      FeedsLawful (if p then f t else t) := by
    split_ifs
    · exact hf ht
    · exact ht
  refine choose (·.causeCleared i) (FeedsLawful.causePause ?_ i _)
  exact choose (·.causeJobEnd i) (choose (·.causeAborted i) (law.engine_same i))

/-! ### The choice of work (R100, R102) -/

theorem chooseFeed (i : Slot) : FeedsLawful (chooseFeed i s) := by
  unfold Machine.chooseFeed
  split_ifs
  · exact law
  · cases work : feedWork s.feeds[i] (headJob? s i) with
    | none => exact law
    | some w =>
      have head_same (g : FeedEngine → FeedEngine) : headJob? (modFeed i g s) i = headJob? s i := headJob_modFeed ..
      dsimp only
      refine FeedsLawful.part ?_ (spoolPart_place ..)
      by_cases mark : w = .markStart
      · subst mark
        obtain ⟨step, j, head, -⟩ | step := feedWork_markStart work
        · have waits := ((law.fits i).1 step).2 j head
          have started : Machine.reportStarted i s = modJob j.id (fun j => { j with state := .feeding }) s :=
            reportStarted_eq head waits
          have queues := queuesLawful_kept.reportStarted i law.queues
          rw [if_pos (by rw [step]; rfl), reportStarted_eq ((head_same _).trans head) waits]
          rw [started] at queues
          refine law.head_changed head queues (fun _ => rfl) (.work nofun ?_ rfl nofun)
          show (if _ then _ else _) = _
          rw [if_pos step, head]
          rfl
        · rw [if_neg (by rw [step]; nofun)]
          exact law.engine i ((law.fits i).congr (place_markStart_again step))
      · rw [if_neg (by simp [mark])]
        by_cases fin : w = .markEnd
        · subst fin
          obtain ⟨step, j, head, closed, empty⟩ | step := feedWork_markEnd work
          · obtain ⟨k, same, own, state, -⟩ := (law.fits i).2 (by rw [step]; nofun)
            rw [head] at same
            cases same
            refine law.engine i ?_
            rw [head]
            exact .work nofun own (by rw [state, step]; rfl) fun _ => ⟨closed, empty⟩
          · exact law.engine i ((law.fits i).congr (place_markEnd_again step))
        · refine law.engine_same i fun e => ?_
          unfold feedPosted
          split
          · exact absurd rfl mark
          · exact absurd rfl fin
          · rfl

end FeedsLawful

end Sys2Proof.Machine
end

section
/-!
PROOFS. The law of the Feed Engines (R98, R99) when jobs join a queue, change printer or are cancelled, and when printers
go; the law against the step.
-/

namespace Sys2Proof.Machine

variable {s t : State}

/-! ### Head jobs of queues that gain jobs -/

/-- A queue that stands, its jobs' records too. -/
theorem headJob_of_stands {m : Slot} (queue : t.printQueue[m] = s.printQueue[m])
    (lookup : ∀ x ∈ s.printQueue[m], job? t x = job? s x) : headJob? t m = headJob? s m := by
  unfold headJob?
  rw [queue]
  cases first : (s.printQueue[m]).head? with
  | none => rfl
  | some x => exact lookup x (List.mem_of_mem_head? first)

/-- A FILLING or QUEUED job joins the tail of a queue: the head job stands, or an idle engine gets one to begin. -/
theorem StepFits.joined {k : Slot} {x : Nat} {j : Job} (fits : StepFits s.feeds[k] (headJob? s k))
    (feeds : t.feeds[k] = s.feeds[k]) (queue : t.printQueue[k] = s.printQueue[k] ++ [x])
    (lookup : ∀ y ∈ s.printQueue[k], job? t y = job? s y) (found : job? t x = some j) (waits : j.waiting) :
    StepFits t.feeds[k] (headJob? t k) := by
  rw [feeds]
  cases before : s.printQueue[k] with
  | nil =>
    have noHead : headJob? s k = none := by simp [headJob?, before]
    have newHead : headJob? t k = some j := by simp [headJob?, queue, before, found]
    rw [noHead] at fits
    rw [newHead]
    have step : (s.feeds[k]).step = .none := by
      by_contra working
      obtain ⟨i, no, -⟩ := fits.2 working
      cases no
    exact .rest step (fits.1 step).1 fun i same => Option.some.inj same ▸ waits
  | cons y rest =>
    have same : headJob? t k = headJob? s k := by
      simpa [headJob?, queue, before] using lookup y (before ▸ List.mem_cons_self)
    rwa [same]

/-- The head jobs of the other slots stand when a job of a slot ends. -/
theorem QueuesLawful.headJob_endJob_ne (law : QueuesLawful s) {j : Job} (found : job? s j.id = some j) {st : JobState}
    {pages : Option Half} {cause : Option JobCause} {m : Slot} (other : m ≠ j.slot) :
    headJob? (Machine.endJob j.id st pages cause s) m = headJob? s m :=
  law.headJob_elsewhere found (fun x other => by rw [job_endJob found, if_neg other])
    (by rw [endJob_printQueue found, upd_get_ne _ _ _ _ other.symm]) other

/-! ### A printer that goes (R114) -/

/-- While the jobs of a slot leave it: the law of the other slots' engines, the slot's own jobs all waiting. -/
structure SlotLeaving (i : Slot) (s : State) : Prop where
  queues : QueuesLawful s
  wait : AllWait i s
  fits : ∀ m : Slot, m ≠ i → StepFits s.feeds[m] (headJob? s m)

namespace SlotLeaving

variable {i : Slot}

theorem reportGone (law : FeedsLawful s) (i : Slot) (cause : JobCause) : SlotLeaving i (reportGone i cause s) := by
  refine ⟨queuesLawful_kept.reportGone i cause law.queues, law.queues.allWait_reportGone i cause, fun m other => ?_⟩
  have ended {j : Job} (head : headJob? s i = some j) (st : JobState) (pages : Option Half) (cause : Option JobCause) :
      StepFits (Machine.endJob j.id st pages cause s).feeds[m] (headJob? (Machine.endJob j.id st pages cause s) m) := by
    obtain ⟨first, found⟩ := headJob_eq_some.mp head
    obtain ⟨rfl, -⟩ := law.queues.slot_of_mem found (List.mem_of_mem_head? first)
    rw [law.queues.headJob_endJob_ne found other, endJob_feeds found]
    exact law.fits m
  unfold Machine.reportGone
  split
  · exact law.fits m
  · next j head =>
    split
    · exact ended head _ _ _
    · exact ended head _ _ _
    · unfold endCancelling
      split_ifs
      · exact ended head _ _ _
      · exact ended head _ _ _
    · exact law.fits m

theorem moveJob (law : SlotLeaving i s) {j : Job} {k : Slot} (found : job? s j.id = some j) (slot : j.slot = i)
    (waits : j.waiting) (other : i ≠ k) (kind : definedKind s k = some .printer) (room : (s.printQueue[k]).length < 8) :
    SlotLeaving i (moveJob j.id i k s) := by
  refine ⟨law.queues.moved found slot waits kind room other, law.wait.moveJob other j.id, fun m away => ?_⟩
  have lookup (x : Nat) (mem : x ∈ s.printQueue[m]) : job? (Machine.moveJob j.id i k s) x = job? s x := by
    refine job_moveJob_ne ?_ s
    rintro rfl
    exact away ((law.queues.slot_of_mem found mem).1.symm.trans slot)
  by_cases target : m = k
  · subst target
    refine (law.fits m away).joined (x := j.id) (j := j.movedTo m) rfl ?_ lookup ?_ waits
    · show (upd (upd s.printQueue i _) m _)[m] = _
      rw [upd_get_self, upd_get_ne _ _ _ _ other]
    · exact (job_congr (s := modJob j.id (Job.movedTo m) s) rfl j.id).trans
        (job_modJob_self (f := Job.movedTo m) (fun _ => rfl) found)
  · have queue : (Machine.moveJob j.id i k s).printQueue[m] = s.printQueue[m] := by
      show (upd (upd s.printQueue i _) k _)[m] = _
      rw [upd_get_ne _ _ _ _ (Ne.symm target), upd_get_ne _ _ _ _ away.symm]
    rw [headJob_of_stands queue lookup]
    exact law.fits m away

/-- The slot's engine is reset when its jobs have moved (R114). -/
theorem reset (law : SlotLeaving i s) : FeedsLawful (modFeed i (fun _ => .reset) s) := by
  refine ⟨law.queues.engine i _, fun m => ?_⟩
  rw [headJob_modFeed, modFeed_feeds]
  by_cases own : m = i
  · subst own
    rw [upd_get_self]
    exact .rest rfl rfl fun j head => law.wait.head head
  · rw [upd_get_ne _ _ _ _ (Ne.symm own)]
    exact law.fits m own

end SlotLeaving

namespace FeedsLawful

variable (law : FeedsLawful s)
include law

theorem printerGone (i : Slot) (cause : JobCause) : FeedsLawful (printerGone i cause s) :=
  (moveAll_keeps (P := SlotLeaving i) (·.queues)
    (fun found slot waits other kind room leaving => leaving.moveJob found slot waits other kind room)
    (.reportGone law i cause)).reset

theorem reportLeft (id : Nat) : FeedsLawful (reportLeft id s) := by
  unfold Machine.reportLeft
  split
  · exact law
  · next j found =>
    obtain rfl := job_id found
    split
    · next st => exact law.end_waiting found (.inl st) rfl _ _
    · next st => exact law.end_waiting found (.inr st) rfl _ _
    · exact law

/-- The engine of a slot with an empty queue is new when the slot is defined anew. -/
theorem vacated {i : Slot} (kind : Option UnitKind) (empty : s.printQueue[i] = []) : FeedsLawful (vacated i kind s) := by
  have queues : (Machine.vacated i kind s).printQueue = s.printQueue := upd_same s.printQueue i (fun _ => []) empty.symm
  have head (m : Slot) : headJob? (Machine.vacated i kind s) m = headJob? s m :=
    headJob_congr (t := Machine.vacated i kind s) (s := s) rfl queues m
  refine law.at_slot (law.queues.vacated kind empty) i (fun m own => upd_get_ne _ _ _ _ own.symm)
    (fun m _ => head m) ?_
  rw [head]
  show StepFits (upd s.feeds i _)[i] _
  rw [upd_get_self]
  exact .rest rfl rfl fun j head => by simp [headJob?, empty] at head

theorem printerRemoved (i : Slot) : FeedsLawful (printerRemoved i s) :=
  forEach_keeps (fun id _ _ law => FeedsLawful.reportLeft law id) (law.printerGone i .unitRemoved)

/-! ### Jobs cancelled (R86 to R88) -/

theorem startCancelling {j : Job} (stall : Bool) (found : job? s j.id = some j)
    (printing : j.state = .feeding ∨ j.state = .draining) : FeedsLawful (startCancelling j stall s) := by
  have lives : j.state.isTerminal = false := by obtain st | st := printing <;> rw [st] <;> rfl
  have busy : ¬j.waiting := by
    unfold Job.waiting
    obtain st | st := printing <;> rw [st] <;> nofun
  have head : headJob? s j.slot = some j :=
    headJob_eq_some.mpr ⟨law.queues.head_of_printing found lives busy, found⟩
  have queues := queuesLawful_kept.startCancelling stall found printing law.queues
  exact law.head_changed head (queues.congr rfl rfl rfl rfl fun _ => rfl) (fun _ => rfl) (.work nofun rfl rfl nofun)

theorem cancelJob {j : Job} (found : job? s j.id = some j) : FeedsLawful (cancelJob j s) := by
  unfold Machine.cancelJob
  split
  · next st => exact law.end_waiting found (.inl st) rfl _ _
  · next st => exact law.end_waiting found (.inr st) rfl _ _
  · next st => exact law.startCancelling _ found (.inl st)
  · next st => exact law.startCancelling _ found (.inr st)
  · exact law

theorem expireFill (id : Half) : FeedsLawful (expireFill id s) := by
  unfold Machine.expireFill
  split
  · exact law
  · next j found =>
    have found := job_self found
    split_ifs
    · unfold stallJob
      split
      · next st => exact law.end_waiting found (.inl st) rfl _ _
      · next st => exact law.startCancelling _ found (.inl st)
      · exact law
    · exact law

/-! ### The requests of chapter 4 -/

theorem modQuota (k : Kiosk) (f : KioskSpool → KioskSpool) : FeedsLawful (modQuota k f s) :=
  law.congr rfl rfl rfl rfl (fun _ => rfl) fun _ => rfl

theorem collected {id : Nat} (listed : id ∈ s.terminal) : FeedsLawful (removeRecord id s) := by
  obtain ⟨queues, lookup⟩ := law.queues.collected listed
  refine ⟨queues, fun m => ?_⟩
  rw [headJob_of_stands (t := removeRecord id s) (s := s) rfl (lookup m)]
  exact law.fits m

theorem jobCreated {i : Slot} (k : Kiosk) (any : Bool) (kind : definedKind s i = some .printer)
    (short : (s.printQueue[i]).length < 8) (room : s.jobs.length < 24) : FeedsLawful (jobCreated k any i s) := by
  have found := law.queues.job_created k any i room
  have lookup (m : Slot) (x : Nat) (mem : x ∈ s.printQueue[m]) : job? (Machine.jobCreated k any i s) x = job? s x := by
    rw [found, if_neg]
    rintro rfl
    obtain ⟨j, known, -⟩ := law.queues.member m _ mem
    rw [job_eq_none.mpr (drawnJob_new law.queues.jobs).1] at known
    cases known
  refine law.at_slot (law.queues.created k any kind short room) i (fun _ _ => rfl)
    (fun m other => headJob_of_stands (upd_get_ne _ _ _ _ other.symm) (lookup m)) ?_
  exact (law.fits i).joined rfl (upd_get_self ..) (lookup i) ((found _).trans (if_pos rfl)) (.inl rfl)

theorem createJob {i : Slot} (k : Kiosk) (any : Bool) (kind : definedKind s i = some .printer)
    (short : (s.printQueue[i]).length < 8) (full : tableFull s = false) : FeedsLawful (createJob k any i s).2 := by
  obtain ⟨after, queues, units⟩ := reclaim_keeps
    (P := fun t => FeedsLawful t ∧ t.printQueue = s.printQueue ∧ t.units = s.units)
    (fun _ listed law => ⟨law.1.collected listed, law.2⟩) ⟨law, rfl, rfl⟩
  exact after.jobCreated k any ((definedKind_congr units i).trans kind) (by rwa [queues])
    (law.queues.jobs.reclaim_room full)

theorem printOpenBlock (target : Byte) (k : Kiosk) : FeedsLawful (printOpenBlock target k s).1 :=
  printOpenBlock_keeps law fun any kind room full => law.createJob k any kind room full

theorem acceptData {j : Job} (data : List Byte) (found : job? s j.id = some j) (isOpen : j.isOpen = true) :
    FeedsLawful (acceptData j data s) := by
  have filled := law.changed (f := Job.filled (writeBytes s j data) data.length s.hubTime) found (fun _ => rfl)
    (law.queues.chained found (fun _ => rfl) rfl rfl) fun _ fits =>
      fits.reshape rfl (.inr rfl) fun _ done => absurd isOpen (by rw [done.1]; nofun)
  exact filled.congr rfl rfl rfl rfl (fun _ => rfl) fun _ => rfl

theorem printDataBlock (id : Half) (data : List Byte) (k : Kiosk) : FeedsLawful (printDataBlock id data k s).1 := by
  refine onJob_keeps law fun j found => ?_
  dsimp only
  split_ifs with closed
  · exact law
  · exact law.acceptData _ found (by simpa using closed)
  · exact (law.acceptData _ found (by simpa using closed)).modQuota ..

theorem printCloseBlock (id : Half) (k : Kiosk) : FeedsLawful (printCloseBlock id k s).1 := by
  refine onJob_keeps law fun j found => ?_
  split_ifs with closed
  · exact law
  have states : j.waiting ∧ (j.state.closed = .filling ∨ j.state.closed = .queued) ∨ j.state.closed = j.state := by
    unfold Job.waiting
    cases j.state <;> simp [JobState.closed]
  have terminal : j.state.closed.isTerminal = j.state.isTerminal := by cases j.state <;> rfl
  refine law.changed found (fun _ => rfl) (law.queues.reshaped found ⟨rfl, terminal, fun _ => rfl, ?_⟩ fun _ => rfl)
    fun _ fits => fits.reshape rfl states fun _ done => ⟨rfl, done.2⟩
  show j.state.closed = .filling ∨ j.state.closed = .queued ∨ _ ∨ _
  cases j.state <;> simp [JobState.closed]

theorem printCancelBlock (id : Half) (k : Kiosk) : FeedsLawful (printCancelBlock id k s).1 :=
  printCancelBlock_keeps law fun found => law.cancelJob found

theorem jobStatusBlock (l : Link) (id : Half) (collect : Byte) : FeedsLawful (jobStatusBlock l id collect s).1 :=
  jobStatusBlock_keeps law fun found ended => law.collected (law.queues.jobs.listed_of_terminal found ended)

theorem quotaSetBlock (kiosk : Byte) (quota : Half) : FeedsLawful (quotaSetBlock kiosk quota s).1 := by
  unfold Machine.quotaSetBlock
  split
  · exact law
  · next k _ =>
    dsimp only
    rw [wantRoomTest_eq]
    split_ifs
    · exact ((law.modQuota k _).modQuota k _).part (spoolPart_latch ..)
    · exact law.modQuota k _

theorem fillLimitBlock (n : Word) : FeedsLawful (fillLimitBlock n s).1 :=
  law.congr rfl rfl rfl rfl (fun _ => rfl) fun _ => rfl

end FeedsLawful

/-! ### The law against the step -/

/-- Empty queues and resting engines are lawful. -/
theorem feedsLawful_of_rest (queues : QueuesLawful s) (empty : ∀ i : Slot, s.printQueue[i] = [])
    (rest : ∀ i : Slot, s.feeds[i] = .reset) : FeedsLawful s :=
  ⟨queues, fun i => by
    rw [rest i]
    exact .rest rfl rfl fun j head => by simp [headJob?, empty i] at head⟩

theorem feedsLawful_reset : FeedsLawful State.reset :=
  feedsLawful_of_rest (printQueueLaw_iff.mp printQueueLaw_reset) (fun i => by simp [State.reset]) fun i => by
    simp [State.reset]

theorem FeedsLawful.softSpooler (law : FeedsLawful s) : FeedsLawful (softSpooler s) :=
  feedsLawful_of_rest (queuesLawful_kept.soft law.queues) (fun i => by simp [Machine.softSpooler, State.reset]) fun i => by
    simp [Machine.softSpooler, State.reset]

theorem feedsLawful_spoolKept : SpoolKept FeedsLawful where
  part same law := law.part same
  full := feedsLawful_reset
  soft law := law.softSpooler
  feedAct i w o d law := law.feedAct i w o d
  cause i b law := law.printerCause i b
  lost i law := law.printerGone i .unitLost
  choose i law := law.chooseFeed i
  removed i law := (law.printerRemoved i).vacated none (law.queues.printerRemoved i)
  changed i kind no law := law.vacated kind (law.queues.printers i no)
  clearJobs k law := clearJobs_keeps (·.queues.jobs) (fun found law => law.cancelJob found) (law.modQuota k _)
  opened target k law := law.printOpenBlock target k
  data id l k law := law.printDataBlock id l k
  close id k law := law.printCloseBlock id k
  cancel id k law := law.printCancelBlock id k
  collect l id b law := law.jobStatusBlock l id b
  quota b n law := law.quotaSetBlock b n
  limit _ law := law.fillLimitBlock _
  stall id law := law.expireFill id

theorem keptByStep_congr {P Q : State → Prop} (same : ∀ s, P s ↔ Q s) : KeptByStep P ↔ KeptByStep Q := by
  simp only [KeptByStep, same]

end Sys2Proof.Machine

open Sys2Proof Sys2Proof.Machine

/-- Settles O10: the law of the queues is carried with each record named by its id, that of the engines as R99's table
against the head job of each slot; both survive each change the Spooler and the engines make. -/
theorem printQueuesLawful : Obligations.PrintQueuesLawful := by
  unfold Obligations.PrintQueuesLawful
  exact ⟨(keptByStep_congr fun _ => printQueueLaw_iff).mpr queuesLawful_spoolKept.keptByStep,
    (keptByStep_congr fun _ => feedLaw_iff).mpr feedsLawful_spoolKept.keptByStep⟩
end

section
/-!
PROOFS. The ranges of the settings (R53, R73, R94): lease lengths and wait limits against the Claim Manager, the quotas, the
fill limit and the spool memory against the Spooler.
-/

namespace Sys2Proof.Machine

variable {s t : State}

/-! ### Lease lengths and wait limits (R53) -/

/-- A claim's lease length and wait limit lie in their ranges. -/
def Claim.Timed (c : Claim) : Prop := 100 ≤ c.lease ∧ c.lease ≤ 600000 ∧ c.waitLimit ≤ 60000

/-- Every claim's lease length and wait limit lie in their ranges. -/
def LeaseLaw (s : State) : Prop := ∀ c ∈ s.claims, Claim.Timed c

theorem clampLease_bounds (w : Word) : 100 ≤ clampLease w ∧ clampLease w ≤ 600000 := by
  unfold clampLease
  omega

theorem clampWait_le (w : Word) : clampWait w ≤ 60000 := Nat.min_le_left ..

namespace LeaseLaw

theorem subset (law : LeaseLaw s) (fewer : t.claims ⊆ s.claims) : LeaseLaw t := fun c hc => law c (fewer hc)

theorem part (law : LeaseLaw s) (same : claimPart t = claimPart s) : LeaseLaw t :=
  law.subset (claims_of_part same ▸ List.Subset.refl _)

/-- Records changed in none of their times. -/
theorem modClaim (law : LeaseLaw s) (id : Nat) {f : Claim → Claim} (times : ∀ c, (f c).Timed ↔ c.Timed) :
    LeaseLaw (modClaim id f s) := by
  intro d mem
  obtain ⟨c, hc, rfl⟩ := List.mem_map.mp mem
  split_ifs
  · exact (times c).mpr (law c hc)
  · exact law c hc

theorem grantHead (law : LeaseLaw s) (x : Resource) : LeaseLaw (grantHead x s) := by
  unfold Machine.grantHead
  split
  · exact law
  · next id _ _ =>
    split
    · exact law
    · have granted : LeaseLaw
          (Machine.modClaim id (fun c => { c with held := true, expiry := after s.hubTime c.lease }) s) :=
        law.modClaim id fun _ => Iff.rfl
      dsimp only
      refine granted.subset ?_
      rw [ownerChange_claims]
      exact List.Subset.refl _

theorem dropClaim (law : LeaseLaw s) (id : Nat) : LeaseLaw (dropClaim id s) := law.subset (List.filter_subset_self _)

theorem removeHeld (law : LeaseLaw s) (c : Claim) (why : Removal) : LeaseLaw (removeHeld c why s) := by
  have left : LeaseLaw (ownerChange c.resource (decide (why ≠ .clearKiosk)) (Machine.dropClaim c.id s)) :=
    (law.dropClaim c.id).part (claimPart_ownerChange ..)
  have told (lapse : Bool) := left.part (claimPart_tellScan c lapse _)
  unfold Machine.removeHeld
  cases why with
  | release => exact (told false).grantHead _
  | clearKiosk => exact (told false).grantHead _
  | lapse => exact ((told true).part (claimPart_latch ..)).grantHead _
  | resourceGone => exact (told false).part (claimPart_latch ..)

theorem removeWaiting (law : LeaseLaw s) (c : Claim) (lost : Bool) : LeaseLaw (removeWaiting c lost s) := by
  unfold Machine.removeWaiting
  dsimp only
  split_ifs
  · exact (law.dropClaim c.id).part (claimPart_latch ..)
  · exact law.dropClaim c.id

theorem removeResource (law : LeaseLaw s) (x : Resource) : LeaseLaw (removeResource x s) := by
  refine forEach_keeps (fun id _ t ht => ?_) ?_
  · cases claim? t id with
    | none => exact ht
    | some c => exact ht.removeWaiting c true
  · cases holder? s x with
    | none => exact law
    | some c => exact law.removeHeld c .resourceGone

theorem clearClaims (law : LeaseLaw s) (k : Kiosk) : LeaseLaw (clearClaims k s) :=
  forEach_keeps (fun c _ _ law => law.removeHeld c _) (forEach_keeps (fun c _ _ law => law.removeWaiting c _) law)

theorem changeZone (law : LeaseLaw s) (z : ZoneIx) (entry : Option Zone) : LeaseLaw (changeZone z entry s) := by
  have muted : LeaseLaw (muteZone z true s) := law.part (claimPart_muteContacts ..)
  have told {u : State} (hu : LeaseLaw u) (old new : Option Kiosk) : LeaseLaw (zoneChanged old new u) := by
    have latched {u : State} (hu : LeaseLaw u) (k : Option Kiosk) : LeaseLaw (latch? k .zoneChanged u) := by
      cases k with
      | none => exact hu
      | some k => exact hu.part (claimPart_latch ..)
    unfold zoneChanged
    dsimp only
    split_ifs
    · exact latched hu old
    · exact latched (latched hu old) new
  have written {u : State} (hu : LeaseLaw u) : LeaseLaw { u with zones := upd u.zones z fun _ => entry } := hu
  unfold Machine.changeZone
  dsimp only
  refine told (written ?_) _ _
  split_ifs
  · exact muted.removeResource _
  · exact muted

theorem createClaim (law : LeaseLaw s) (k : Kiosk) (x : Resource) (held : Bool) (lease wait : Word) :
    LeaseLaw (createClaim k x held (clampLease lease) (clampWait wait) s).2 := by
  intro d mem
  obtain rfl | mem := mem_insertClaim.mp mem
  · obtain ⟨low, high⟩ := clampLease_bounds lease
    exact ⟨low, high, clampWait_le wait⟩
  · exact law d mem

theorem claimBlock (law : LeaseLaw s) (kind number : Byte) (lease wait : Word) (k : Kiosk) :
    LeaseLaw (claimBlock kind number lease wait k s).1 := by
  unfold Machine.claimBlock
  dsimp only
  split
  · exact law
  · exact law
  · next x _ =>
    split
    · exact law
    · split
      · exact law
      · split
        · exact law
        · split
          · exact (law.createClaim k x true lease wait).part (claimPart_ownerChange ..)
          · split_ifs
            · exact law
            · exact law
            · exact law.createClaim k x false lease wait

end LeaseLaw

theorem leaseLaw_kept : ContactsKept LeaseLaw where
  part {s t} same law := by
    have claims : t.claims = s.claims := (congrArg State.claims same :)
    exact law.subset (claims ▸ List.Subset.refl _)
  fresh _ c mem := by simp [State.reset] at mem
  muted _ _ law := law.part (claimPart_muteContacts ..)
  gone i law := law.part (claimPart_panelGone ..)
  record i time q law := law.part (claimPart_of_frame offTouch fun b => processRecord_frame b i time q _)
  zone z entry law := law.changeZone z entry
  deadBand _ _ law := law.subset (List.Subset.refl _)
  claim kind number lease wait k law := law.claimBlock kind number lease wait k
  renewed id _ law := law.modClaim id fun _ => Iff.rfl
  held why _ law := law.removeHeld _ why
  waiting lost _ _ law := law.removeWaiting _ lost
  clearClaims k law := law.clearClaims k
  scanner i law := law.removeResource (.scanner i)

/-! ### Quotas, the fill limit and the spool memory (R72, R73, R94) -/

/-- Quotas and the fill limit lie in their ranges, and the spool memory is in its canonical form. -/
structure SpoolSettings (s : State) : Prop where
  quota : ∀ k : Kiosk, (s.kioskSpool[k]).quota ≤ 1024
  limit : 1000 ≤ s.fillLimit ∧ s.fillLimit ≤ 120000
  memory : Memory.wf s.spool = true

namespace SpoolSettings

theorem congr (law : SpoolSettings s) (quota : ∀ k : Kiosk, (t.kioskSpool[k]).quota = (s.kioskSpool[k]).quota)
    (limit : t.fillLimit = s.fillLimit) (spool : t.spool = s.spool) : SpoolSettings t :=
  ⟨fun k => by rw [quota]; exact law.quota k, by rw [limit]; exact law.limit, by rw [spool]; exact law.memory⟩

theorem part (law : SpoolSettings s) (same : spoolPart t = spoolPart s) : SpoolSettings t :=
  law.congr (fun k => (congrArg (fun u => (u.kioskSpool[k]).quota) same :)) (congrArg State.fillLimit same :)
    (congrArg State.spool same :)

theorem figures (law : SpoolSettings s) (k : Kiosk) {f : KioskSpool → KioskSpool}
    (quota : ∀ q : KioskSpool, q.quota ≤ 1024 → (f q).quota ≤ 1024) : SpoolSettings (modQuota k f s) := by
  refine ⟨fun m => ?_, law.limit, law.memory⟩
  show ((upd s.kioskSpool k f)[m]).quota ≤ 1024
  rw [upd_get]
  split_ifs
  · exact quota _ (law.quota m)
  · exact law.quota m

theorem modJob (law : SpoolSettings s) (id : Nat) (f : Job → Job) : SpoolSettings (modJob id f s) :=
  law.congr (fun _ => rfl) rfl rfl

theorem freeBlocks (law : SpoolSettings s) (k : Kiosk) (l : List Nat) : SpoolSettings (freeBlocks k l s) :=
  law.congr (fun m => freeBlocks_quota k l s m) (freeBlocks_fillLimit ..) (freeBlocks_spool ..)

theorem endJob (law : SpoolSettings s) (id : Nat) (st : JobState) (pages : Option Half) (cause : Option JobCause) :
    SpoolSettings (endJob id st pages cause s) := by
  cases known : job? s id with
  | none =>
    unfold Machine.endJob
    rwa [known]
  | some j =>
    obtain rfl := job_id known
    refine law.congr (fun m => ?_) (endJob_fillLimit known ..) (endJob_spool known ..)
    rw [endJob_kioskSpool known, KioskSpool.tested_quota]
    split_ifs <;> rfl

theorem reportFed (law : SpoolSettings s) (i : Slot) : SpoolSettings (reportFed i s) := by
  obtain same | ⟨j, block, rest, head, st, chain⟩ := reportFed_cases i s
  · rwa [same]
  · rw [reportFed_eq head st chain]
    exact (law.modJob j.id _).freeBlocks ..

theorem acceptData (law : SpoolSettings s) (j : Job) (data : List Byte) : SpoolSettings (acceptData j data s) := by
  have written : SpoolSettings { s with spool := (writeBytes s j data).spool, free := (writeBytes s j data).free } :=
    ⟨law.quota, law.limit, writeBytes_wf s j data law.memory⟩
  rw [acceptData_eq]
  refine SpoolSettings.modJob ?_ ..
  exact written.figures j.kiosk fun _ h => h

theorem createJob (law : SpoolSettings s) (k : Kiosk) (any : Bool) (i : Slot) : SpoolSettings (createJob k any i s).2 := by
  have room : SpoolSettings (reclaim s) :=
    reclaim_keeps (fun _ _ law => law.congr (fun _ => rfl) rfl rfl) law
  rw [createJob_eq]
  exact room.congr (fun _ => rfl) rfl rfl

theorem moveAnyJob (law : SpoolSettings s) (i : Slot) (id : Nat) : SpoolSettings (moveAnyJob i id s) := by
  obtain same | ⟨j, k, -, -, -, same⟩ := moveAnyJob_cases i id s
  · rwa [same]
  · rw [same]
    exact law.congr (fun _ => rfl) rfl rfl

theorem cancelJob (law : SpoolSettings s) (j : Job) : SpoolSettings (cancelJob j s) := by
  have started (stall : Bool) : SpoolSettings (startCancelling j stall s) := law.congr (fun _ => rfl) rfl rfl
  unfold Machine.cancelJob
  split
  · exact law.endJob ..
  · exact law.endJob ..
  · exact started false
  · exact started false
  · exact law

end SpoolSettings

theorem spoolSettings_reset : SpoolSettings State.reset :=
  ⟨fun k => by simp [State.reset, KioskSpool.reset], by simp [State.reset], Memory.wf_reset⟩

theorem spoolSettings_jobsKept : JobsKept SpoolSettings where
  part same law := law.part same
  engine _ _ law := law.congr (fun _ => rfl) rfl rfl
  full := spoolSettings_reset
  soft {s} law := ⟨fun k => by
    show ((mapAll s.kioskSpool KioskSpool.softReset)[k]).quota ≤ 1024
    rw [mapAll_get]
    exact law.quota k, law.limit, Memory.wf_reset⟩
  ended pages cause _ _ _ law := law.endJob ..
  reshaped _ _ _ law := law.modJob ..
  fed i law := law.reportFed i
  accepted data _ _ law := law.acceptData _ data
  created k any _ _ _ law := law.createJob k any _
  collected _ _ law := law.congr (fun _ => rfl) rfl rfl
  figures k _ _ quota law := law.figures k quota
  limit _ low high law := ⟨law.quota, ⟨low, high⟩, law.memory⟩

theorem spoolSettings_kept : SpoolKept SpoolSettings :=
  spoolSettings_jobsKept.spoolKept (fun i law => forEach_keeps (fun id _ _ law => law.moveAnyJob i id) law)
    (fun _ _ law => law.congr (fun _ => rfl) rfl rfl) (fun _ _ _ law => law.congr (fun _ => rfl) rfl rfl)
    fun k law => forEach_keeps (fun j _ _ law => law.cancelJob j) (law.figures k fun _ h => h)

theorem rangeLaw_iff : RangeLaw s ↔ SpoolSettings s ∧ LeaseLaw s :=
  ⟨fun ⟨quota, limit, leases, memory⟩ => ⟨⟨quota, limit, memory⟩, leases⟩,
    fun ⟨⟨quota, limit, memory⟩, leases⟩ => ⟨quota, limit, leases, memory⟩⟩

end Sys2Proof.Machine

open Sys2Proof Sys2Proof.Machine

/-- Settles O4: a quota or a fill limit enters the state clamped, a lease or a wait limit likewise, and every write to the
spool memory keeps its canonical form; nothing else touches them. -/
theorem settingsInRange : Obligations.SettingsInRange := by
  unfold Obligations.SettingsInRange
  intro s t law stepped
  obtain ⟨settings, leases⟩ := rangeLaw_iff.mp law
  exact rangeLaw_iff.mpr
    ⟨spoolSettings_kept.keptByStep s t settings stepped, leaseLaw_kept.keptByStep s t leases stepped⟩
end

section
/-!
PROOFS. The Spooler after a full reset (R96), the any-printer choice (R81), and what writing accepted bytes does to a chain
(R72, R83).
-/

namespace Sys2Proof.Machine

variable {s t : State}

/-! ### The Spooler at a full reset (R96) -/

/-- The Spooler holds its full-reset values. -/
structure FreshSpooler (s : State) : Prop where
  free : s.free = State.reset.free
  jobs : s.jobs = []
  terminal : s.terminal = []
  queues : ∀ i : Slot, s.printQueue[i] = []
  next : s.nextJob = 1
  kiosks : ∀ k : Kiosk, s.kioskSpool[k] = .reset
  limit : s.fillLimit = 15000

namespace FreshSpooler

theorem part (fresh : FreshSpooler s) (same : spoolPart t = spoolPart s) : FreshSpooler t :=
  ⟨(congrArg State.free same :).trans fresh.free, (congrArg State.jobs same :).trans fresh.jobs,
    (congrArg State.terminal same :).trans fresh.terminal,
    fun i => (congrArg (fun u => u.printQueue[i]) same :).trans (fresh.queues i),
    (congrArg State.nextJob same :).trans fresh.next,
    fun k => (congrArg (fun u => u.kioskSpool[k]) same :).trans (fresh.kiosks k),
    (congrArg State.fillLimit same :).trans fresh.limit⟩

theorem reset : FreshSpooler State.reset :=
  ⟨rfl, rfl, rfl, fun i => by simp [State.reset], rfl, fun k => by simp [State.reset], rfl⟩

theorem modFeed (fresh : FreshSpooler s) (i : Slot) (f : FeedEngine → FeedEngine) : FreshSpooler (modFeed i f s) :=
  ⟨fresh.free, fresh.jobs, fresh.terminal, fresh.queues, fresh.next, fresh.kiosks, fresh.limit⟩

/-- With no job an engine's choice of work changes nothing of the Spooler (R100). -/
theorem chooseFeed (fresh : FreshSpooler s) (i : Slot) : FreshSpooler (chooseFeed i s) := by
  have idle (f : FeedEngine → FeedEngine) : reportStarted i (Machine.modFeed i f s) = Machine.modFeed i f s := by
    have none : headJob? (Machine.modFeed i f s) i = none := by
      simp [headJob?, fresh.queues i]
    unfold reportStarted
    rw [none]
  unfold Machine.chooseFeed
  split_ifs
  · exact fresh
  · split
    · exact fresh
    · dsimp only
      refine part ?_ (spoolPart_place ..)
      split_ifs
      · rw [idle]
        exact fresh.modFeed i _
      · exact fresh.modFeed i _

theorem settle (fresh : FreshSpooler s) : FreshSpooler (settle s) :=
  settle_keeps (fun same fresh => fresh.part same) (fun i fresh => fresh.chooseFeed i) fresh

theorem finishFull (fresh : FreshSpooler s) : FreshSpooler (finishFull s) := by
  unfold Machine.finishFull
  split_ifs
  · exact fresh.part (s := s) rfl
  · exact fresh

end FreshSpooler

/-- A command that starts a full reset leaves the Spooler with its full-reset values (R198). -/
theorem StartsFullReset.fresh {c : Instr} (starts : StartsFullReset s c) : ∃ u, exec c s = .next u ∧ FreshSpooler u := by
  have full {u : State} (same : spoolPart u = spoolPart (fullReset s)) : FreshSpooler (settle u) :=
    (FreshSpooler.reset.part (same.trans (spoolPart_fullReset s))).settle
  obtain rfl | rfl | ⟨tag, r, rfl, takes⟩ := starts
  · exact ⟨_, rfl, full (spoolPart_powerUp s)⟩
  · exact ⟨_, rfl, full (spoolPart_assertReset s)⟩
  · have later : resetBlock 2 r (taken serviceLink r .reset tag s) =
        (fullReset (taken serviceLink r .reset tag s), .later) :=
      if_pos rfl
    refine ⟨_, request_later takes (fixedLength_le .reset _) rfl rfl rfl later, full ?_⟩
    rw [spoolPart_fullReset, spoolPart_fullReset]

/-! ### The any-printer choice (R81) -/

theorem leastLoaded_eq_none {load : Slot → Nat} {l : List Slot} : leastLoaded load l = none ↔ l = [] := by
  cases l with
  | nil => simp [leastLoaded]
  | cons i l =>
    unfold leastLoaded
    split
    · simp
    · split_ifs <;> simp

/-- Of slots in ascending order the choice is the first of the least load. -/
theorem leastLoaded_least {load : Slot → Nat} {l : List Slot} (ascending : l.Pairwise (· < ·)) {i : Slot}
    (chosen : leastLoaded load l = some i) : i ∈ l ∧ ∀ j ∈ l, load i ≤ load j ∧ (j < i → load i < load j) := by
  induction l generalizing i with
  | nil => simp [leastLoaded] at chosen
  | cons a l ih =>
    obtain ⟨after, ascending⟩ := List.pairwise_cons.mp ascending
    unfold leastLoaded at chosen
    split at chosen
    · next rest =>
      obtain rfl := leastLoaded_eq_none.mp rest
      obtain rfl : a = i := by simpa using chosen
      simp
    · next j rest =>
      obtain ⟨mem, least⟩ := ih ascending rest
      split_ifs at chosen with first
      · obtain rfl : a = i := by simpa using chosen
        refine ⟨List.mem_cons_self, fun k hk => ?_⟩
        obtain rfl | hk := List.mem_cons.mp hk
        · exact ⟨Nat.le_refl _, fun less => absurd less (lt_irrefl _)⟩
        · exact ⟨first.trans (least k hk).1, fun less => absurd less (lt_asymm (after k hk))⟩
      · obtain rfl : j = i := by simpa using chosen
        refine ⟨List.mem_cons_of_mem a mem, fun k hk => ?_⟩
        obtain rfl | hk := List.mem_cons.mp hk
        · exact ⟨by omega, fun _ => by omega⟩
        · exact least k hk

theorem queueLoad_eq (s : State) (i : Slot) :
    queueLoad s i = (((s.printQueue[i]).filterMap (job? s)).map fun j => j.spooled - j.fed).sum := by
  unfold queueLoad
  induction s.printQueue[i] with
  | nil => rfl
  | cons id rest ih =>
    rw [List.map_cons, List.sum_cons, ih, List.filterMap_cons]
    cases job? s id with
    | none => simp
    | some j => rfl

/-! ### Spool blocks in memory (R72) -/

theorem blockAddress_inj {x y k n : Nat} (hk : k < 48) (hn : n < 48) (same : blockAddress x k = blockAddress y n) :
    x = y ∧ k = n := by
  unfold blockAddress at same
  omega

section
variable {m : List Host.Cell} {x y k n : Nat} {b : Byte}

theorem read_write_elsewhere (hk : k < 48) (hn : n < 48) (other : y ≠ x) :
    Memory.read (Memory.write m (blockAddress x k) b) (blockAddress y n) = Memory.read m (blockAddress y n) :=
  Memory.read_write_ne b fun same => other (blockAddress_inj hn hk same).1

/-- A write into another block. -/
theorem readBlock_write_ne (hk : k < 48) (hn : n ≤ 48) (other : y ≠ x) :
    readBlock (Memory.write m (blockAddress x k) b) y n = readBlock m y n :=
  List.map_congr_left fun o ho => read_write_elsewhere hk (by have := List.mem_range.mp ho; omega) other

/-- A write behind the first bytes of a block. -/
theorem readBlock_write_next (wf : Memory.wf m = true) (hk : k < 48) :
    readBlock (Memory.write m (blockAddress x k) b) x (k + 1) = readBlock m x k ++ [b] := by
  unfold readBlock
  rw [List.range_succ, List.map_append, List.map_singleton, Memory.read_write_self _ _ wf]
  congr 1
  refine List.map_congr_left fun o ho => Memory.read_write_ne b fun same => ?_
  have := List.mem_range.mp ho
  have := (blockAddress_inj (by omega) hk same).2
  omega

end

/-! ### The bytes of a chain (R72) -/

theorem chainBytes_append (m : List Host.Cell) (l : List Nat) (x fill : Nat) :
    chainBytes m (l ++ [x]) fill = (l.flatMap fun y => readBlock m y 48) ++ readBlock m x fill := by
  induction l with
  | nil => rfl
  | cons y l ih =>
    rw [List.flatMap_cons, List.append_assoc, ← ih]
    cases l <;> rfl

/-- With its last block full a chain's bytes are those of all its blocks. -/
theorem chainBytes_full (m : List Host.Cell) (l : List Nat) :
    chainBytes m l 48 = l.flatMap fun y => readBlock m y 48 := by
  obtain rfl | ⟨l, x, rfl⟩ := List.eq_nil_or_concat l
  · rfl
  · rw [List.concat_eq_append, chainBytes_append, List.flatMap_append, List.flatMap_singleton]

theorem chainBytes_length (m : List Host.Cell) {l : List Nat} (some : l ≠ []) (fill : Nat) :
    (chainBytes m l fill).length + 48 = 48 * l.length + fill := by
  obtain rfl | ⟨l, x, rfl⟩ := List.eq_nil_or_concat l
  · exact absurd rfl some
  · rw [List.concat_eq_append, chainBytes_append]
    simp only [List.length_append, List.length_flatMap, readBlock, List.length_map, List.length_range, List.map_const',
      List.sum_replicate, List.length_singleton, smul_eq_mul]
    omega

theorem flatMap_readBlock_write {m : List Host.Cell} {l : List Nat} {x k : Nat} {b : Byte} (hk : k < 48) (other : x ∉ l) :
    (l.flatMap fun y => readBlock (Memory.write m (blockAddress x k) b) y 48) = l.flatMap fun y => readBlock m y 48 :=
  List.flatMap_congr fun _ hy => readBlock_write_ne hk (Nat.le_refl 48) fun same => other (same ▸ hy)

/-! ### Accepted bytes (R83) -/

/-- What accepted bytes are written into, each block at most once in the chain and the free list. -/
structure Writing.Sound (w : Writing) : Prop where
  memory : Memory.wf w.spool = true
  once : (w.chain ++ w.free).Nodup
  fill : w.fill ≤ 48
  empty : w.chain = [] → w.fill = 0

/-- The bytes that can still be written. -/
def Writing.room (w : Writing) : Nat := (if w.chain = [] then 0 else 48 - w.fill) + 48 * w.free.length

/-- The bytes stand behind those of the chain, in blocks taken from the head of the free list. -/
structure Writing.Appends (w : Writing) (bytes : List Byte) (v : Writing) : Prop where
  bytes : chainBytes v.spool v.chain v.fill = chainBytes w.spool w.chain w.fill ++ bytes
  taken : ∃ n, v.chain = w.chain ++ w.free.take n ∧ v.free = w.free.drop n ∧ n ≤ w.free.length ∧
    (1 ≤ n ∨ 1 ≤ w.fill → 1 ≤ v.fill)
  others : ∀ b k, b ∉ v.chain → k < 48 → Memory.read v.spool (blockAddress b k) = Memory.read w.spool (blockAddress b k)

namespace Writing

variable {w u v : Writing} {b : Byte}

theorem Appends.refl (w : Writing) : w.Appends [] w :=
  ⟨(List.append_nil _).symm, ⟨0, by simp, rfl, Nat.zero_le _, by omega⟩, fun _ _ _ _ => rfl⟩

theorem Appends.trans {x y : List Byte} (first : w.Appends x u) (second : u.Appends y v) : w.Appends (x ++ y) v := by
  obtain ⟨bytes, ⟨n, chain, free, few, some⟩, others⟩ := first
  obtain ⟨bytes', ⟨n', chain', free', few', some'⟩, others'⟩ := second
  refine ⟨by rw [bytes', bytes, List.append_assoc], ⟨n + n', ?_, ?_, ?_, ?_⟩, fun a k out hk => ?_⟩
  · rw [chain', chain, free, List.append_assoc, ← List.take_add]
  · rw [free', free, List.drop_drop]
  · rw [free, List.length_drop] at few'
    omega
  · omega
  · refine (others' a k out hk).trans (others a k (fun mem => out ?_) hk)
    rw [chain']
    exact List.mem_append_left _ mem

/-- A byte into the last block of a chain. -/
theorem writeByte_last {l : List Nat} {x : Nat} (chain : w.chain = l ++ [x]) (some : w.fill < 48) :
    writeByte w b = { w with spool := Memory.write w.spool (blockAddress x w.fill) b, fill := w.fill + 1 } := by
  unfold writeByte
  simp [chain, some]

/-- A byte into a new block. -/
theorem writeByte_new {x : Nat} {rest : List Nat} (full : w.chain = [] ∨ 48 ≤ w.fill) (free : w.free = x :: rest) :
    writeByte w b =
      { spool := Memory.write w.spool (blockAddress x 0) b, free := rest, chain := w.chain ++ [x], fill := 1 } := by
  unfold writeByte
  split
  · next last open_ =>
    obtain none | full := full
    · rw [none] at last
      cases last
    · rw [decide_eq_true_eq] at open_
      omega
  · rw [free]

theorem Sound.last (sound : w.Sound) {l : List Nat} {x : Nat} (chain : w.chain = l ++ [x]) (some : w.fill < 48) :
    (writeByte w b).Sound ∧ (writeByte w b).room + 1 = w.room ∧ w.Appends [b] (writeByte w b) := by
  obtain ⟨memory, once, fill, empty⟩ := sound
  have nonempty : w.chain ≠ [] := by simp [chain]
  have new : x ∉ l := by
    rw [chain, List.nodup_append, List.nodup_append] at once
    exact fun mem => once.1.2.2 x mem x (List.mem_singleton_self x) rfl
  rw [writeByte_last chain some]
  refine ⟨⟨Memory.wf_write _ _ memory, once, some, fun none => absurd none nonempty⟩, ?_, ?_, ⟨0, ?_⟩,
    fun a k out hk => ?_⟩
  · simp only [room, nonempty, if_false]
    omega
  · show chainBytes _ w.chain (w.fill + 1) = _
    rw [chain, chainBytes_append, chainBytes_append, flatMap_readBlock_write some new, readBlock_write_next memory some,
      List.append_assoc]
  · simp
  · refine read_write_elsewhere some hk ?_
    rintro rfl
    exact out (by simp [chain])

theorem Sound.new (sound : w.Sound) (full : w.chain = [] ∨ 48 ≤ w.fill) {x : Nat} {rest : List Nat}
    (free : w.free = x :: rest) :
    (writeByte w b).Sound ∧ (writeByte w b).room + 1 = w.room ∧ w.Appends [b] (writeByte w b) := by
  obtain ⟨memory, once, fill, empty⟩ := sound
  rw [free] at once
  have new : x ∉ w.chain := fun mem => (List.nodup_append.mp once).2.2 x mem x List.mem_cons_self rfl
  have blocks : chainBytes w.spool w.chain w.fill = w.chain.flatMap fun y => readBlock w.spool y 48 := by
    obtain none | full := full
    · rw [none]
      rfl
    · rw [Nat.le_antisymm fill full, chainBytes_full]
  rw [writeByte_new full free]
  refine ⟨⟨Memory.wf_write _ _ memory, by simpa using once, by simp, by simp⟩, ?_, ?_, ⟨1, ?_⟩, fun a k out hk => ?_⟩
  · simp only [room, free, List.length_cons]
    obtain none | full := full
    · simp [none]
      omega
    · simp
      split_ifs <;> omega
  · rw [chainBytes_append, blocks, flatMap_readBlock_write (by omega) new, readBlock_write_next memory (by omega)]
    rfl
  · simp [free]
  · refine read_write_elsewhere (by omega) hk ?_
    rintro rfl
    exact out (by simp)

theorem Sound.writeByte (sound : w.Sound) (room : 1 ≤ w.room) (b : Byte) :
    (writeByte w b).Sound ∧ (Machine.writeByte w b).room + 1 = w.room ∧ w.Appends [b] (Machine.writeByte w b) := by
  have needs (full : w.chain = [] ∨ 48 ≤ w.fill) : ∃ x rest, w.free = x :: rest := by
    refine List.exists_cons_of_ne_nil fun none => ?_
    unfold Writing.room at room
    rw [none] at room
    obtain none | full := full
    · simp [none] at room
    · split_ifs at room <;> simp at room
      omega
  obtain none | ⟨l, x, chain⟩ := List.eq_nil_or_concat w.chain
  · obtain ⟨x, rest, free⟩ := needs (.inl none)
    exact sound.new (.inl none) free
  · rw [List.concat_eq_append] at chain
    by_cases some : w.fill < 48
    · exact sound.last chain some
    · obtain ⟨x, rest, free⟩ := needs (.inr (by omega))
      exact sound.new (.inr (by omega)) free

/-- Bytes that fit are appended in order. -/
theorem Sound.appends (sound : w.Sound) (bytes : List Byte) (fits : bytes.length ≤ w.room) :
    (bytes.foldl Machine.writeByte w).Sound ∧ w.Appends bytes (bytes.foldl Machine.writeByte w) := by
  induction bytes generalizing w with
  | nil => exact ⟨sound, .refl w⟩
  | cons b bytes ih =>
    rw [List.length_cons] at fits
    obtain ⟨sound, less, first⟩ := sound.writeByte (by omega) b
    obtain ⟨sound, rest⟩ := ih sound (by omega)
    exact ⟨sound, first.trans rest⟩

/-- New blocks are taken only as they are needed. -/
theorem Appends.length_lt {bytes : List Byte} (sound : w.Sound) (appends : w.Appends bytes v) :
    48 * v.chain.length < 48 * w.chain.length + bytes.length + 48 := by
  obtain ⟨stands, ⟨n, chain, -, few, some⟩, -⟩ := appends
  have lengths := congrArg List.length stands
  rw [List.length_append] at lengths
  have total : v.chain.length = w.chain.length + n := by
    rw [chain, List.length_append, List.length_take, Nat.min_eq_left few]
  by_cases none : n = 0
  · omega
  have filled := chainBytes_length v.spool (l := v.chain) (fun empty => by simp [empty] at total; omega) v.fill
  have some := some (.inl (by omega))
  by_cases empty : w.chain = []
  · simp only [empty, chainBytes, List.length_nil] at lengths total ⊢
    omega
  · have before := chainBytes_length w.spool empty w.fill
    have fill := sound.fill
    omega

end Writing

end Sys2Proof.Machine

open Sys2Proof Sys2Proof.Machine

/-- Settles O21: the Spooler takes its full-reset values when the reset starts, and with no job in it neither the completion
nor a choice of work changes them. -/
theorem spoolerAfterFullReset : Obligations.SpoolerAfterFullReset := by
  unfold Obligations.SpoolerAfterFullReset
  intro s c starts
  obtain ⟨u, started, fresh⟩ := starts.fresh
  obtain ⟨free, jobs, terminal, queues, next, kiosks, limit⟩ := fresh.finishFull.settle
  have all : State.reset.free = List.range 1024 := by simp only [State.reset]
  exact ⟨u, _, started, rfl, free.trans all, by rw [free, all, List.length_range], jobs, terminal,
    queues, next, kiosks, limit⟩

/-- Settles O30, by induction on the bytes: each goes behind the last one, into the last block or the head of the free
list. -/
theorem spooledBytesKeepOrder : Obligations.SpooledBytesKeepOrder := by
  unfold Obligations.SpooledBytesKeepOrder
  intro w bytes memory once fill empty fits
  have sound : w.Sound := ⟨memory, once, fill, empty⟩
  obtain ⟨after, appends⟩ := sound.appends bytes fits
  have few := appends.length_lt sound
  obtain ⟨stands, ⟨n, chain, free, taken, filled⟩, others⟩ := appends
  exact ⟨_, n, rfl, stands, chain, free, taken, after.fill, few, fun some => filled (.inl some), others⟩

/-- Settles O32: the candidates stand in ascending order, and the choice is the first of the least load. -/
theorem anyPrinterLeastLoaded : Obligations.AnyPrinterLeastLoaded := by
  unfold Obligations.AnyPrinterLeastLoaded
  rintro s excluded candidate load rfl rfl
  have member {i : Slot} : i ∈ (indices 12).filter (printerCandidate s excluded) ↔ definedKind s i = some .printer ∧
      isReady s i = true ∧ (s.printQueue[i]).length < 8 ∧ excluded ≠ some i := by
    rw [List.mem_filter, printerCandidate_iff]
    exact and_iff_right (mem_indices i)
  refine ⟨?_, fun i chosen => ?_⟩
  · unfold anyPrinter
    rw [leastLoaded_eq_none, List.eq_nil_iff_forall_not_mem]
    exact forall_congr' fun i => not_congr member
  · obtain ⟨mem, least⟩ := leastLoaded_least ((indices_ascending 12).filter _) chosen
    simp only [← queueLoad_eq]
    exact ⟨member.mp mem, fun j fits => least j (member.mpr fits)⟩
end

section
/-!
PROOFS. PRINT OPEN (R82) and PRINT DATA (R83): each case as an equation of its block.
-/

namespace Sys2Proof.Machine

variable {s : State} {k : Kiosk}

/-! ### PRINT OPEN: the slot (R81, R82) -/

section
variable {target : Byte} {i : Slot}

/-- A target byte that names a slot is not ANY. -/
theorem target_ne_any (named : target.toNat = i.val) : target ≠ 0xFF := by
  rintro rfl
  have small := i.isLt
  change 255 = i.val at named
  omega

theorem printOpenBlock_busy (none : anyPrinter s none = none) : printOpenBlock 0xFF k s = (s, reply .busy [0]) := by
  simp only [printOpenBlock, if_true, none]
  rfl

theorem printOpenBlock_badArg (notAny : target ≠ 0xFF) (out : 11 < target.toNat) :
    printOpenBlock target k s = (s, reply .badArg []) := by
  have noSlot : index? 12 target.toNat = none := index_eq_none.mpr out
  simp only [printOpenBlock, if_neg notAny, noSlot]

/-- A target that names a slot. -/
theorem printOpenBlock_named (named : target.toNat = i.val) : printOpenBlock target k s =
    if definedKind s i ≠ some .printer then (s, reply .noSuch [])
    else if 8 ≤ (s.printQueue[i]).length then (s, reply .full (u8 2)) else openOn k false i s := by
  have slot : index? 12 target.toNat = some i := index_eq_some.mpr named
  simp only [printOpenBlock, if_neg (target_ne_any named), slot]

theorem printOpenBlock_noSuch (named : target.toNat = i.val) (kind : definedKind s i ≠ some .printer) :
    printOpenBlock target k s = (s, reply .noSuch []) := (printOpenBlock_named named).trans (if_pos kind)

theorem printOpenBlock_queueFull (named : target.toNat = i.val) (kind : definedKind s i = some .printer)
    (full : 8 ≤ (s.printQueue[i]).length) : printOpenBlock target k s = (s, reply .full [2]) := by
  rw [printOpenBlock_named named, if_neg (not_not.mpr kind), if_pos full]
  rfl

/-- The slots PRINT OPEN goes on with. -/
theorem printOpenBlock_opens {any : Bool} (chosen : any = true ∧ target = 0xFF ∧ anyPrinter s none = some i ∨
      any = false ∧ target.toNat = i.val ∧ definedKind s i = some .printer ∧ (s.printQueue[i]).length < 8) :
    printOpenBlock target k s = openOn k any i s := by
  obtain ⟨rfl, rfl, choice⟩ | ⟨rfl, named, kind, room⟩ := chosen
  · simp only [printOpenBlock, if_true, choice]
  · rw [printOpenBlock_named named, if_neg (not_not.mpr kind), if_neg (Nat.not_le.mpr room)]

end

/-! ### PRINT OPEN: the record (R78, R79, R82) -/

section
variable {any : Bool} {i : Slot}

theorem openOn_full (many : 24 ≤ s.jobs.length) (none : s.terminal = []) :
    openOn k any i s = (s, reply .full [1]) := by
  have full : tableFull s = true := by simp [tableFull, many, none]
  rw [openOn, if_pos full]
  rfl

/-- A table with room, or the record at the head of the terminal list removed from a full one. -/
theorem reclaim_eq {jobs : List Job} {terminal : List Nat}
    (room : s.jobs.length < 24 ∧ jobs = s.jobs ∧ terminal = s.terminal ∨
      24 ≤ s.jobs.length ∧ ∃ old rest, s.terminal = old :: rest ∧ jobs = s.jobs.filter (fun j => j.id ≠ old) ∧
        terminal = s.terminal.filter fun x => x ≠ old) :
    tableFull s = false ∧ reclaim s = { s with jobs := jobs, terminal := terminal } := by
  obtain ⟨few, rfl, rfl⟩ | ⟨many, old, rest, list, rfl, rfl⟩ := room
  · exact ⟨by simp [tableFull, few], if_pos few⟩
  · refine ⟨by simp [tableFull, list], ?_⟩
    unfold reclaim
    rw [if_neg (Nat.not_lt.mpr many), list]
    simp only [← list]
    rfl

theorem openOn_created {jobs : List Job} {terminal : List Nat} {id : Nat} (room : tableFull s = false)
    (reclaimed : reclaim s = { s with jobs := jobs, terminal := terminal })
    (drawn : freshId (fun v => jobs.any fun j => j.id = v) 65535 (jobs.length + 1) s.nextJob = id) :
    openOn k any i s =
      ({ s with
          jobs := insertJob
            { id := id, kiosk := k, anyTarget := any, slot := i, state := .filling, isOpen := true, chain := []
              spooled := 0, fed := 0, fill := 0, lastData := s.hubTime, stallEnd := false, pages := none
              cause := none } jobs
          terminal := terminal, nextJob := if id = 65535 then 1 else id + 1
          printQueue := upd s.printQueue i fun q => q ++ [id] },
        reply .ok (u16n id ++ u8 i.val ++ u8 ((s.printQueue[i]).length + 1))) := by
  subst drawn
  have length : ((jobCreated k any i (reclaim s)).printQueue[i]).length = (s.printQueue[i]).length + 1 := by
    rw [reclaimed]
    show ((upd s.printQueue i _)[i]).length = _
    rw [upd_get_self, List.length_append, List.length_singleton]
  unfold openOn
  rw [room, if_neg Bool.false_ne_true, createJob_eq]
  dsimp only
  rw [length, reclaimed]
  rfl

end

/-! ### PRINT DATA (R83) -/

theorem acceptedCount_eq (s : State) (j : Job) (n : Nat) : acceptedCount s j n =
    min n ((if j.chain = [] then 0 else 48 - j.fill) +
      48 * min s.free.length ((s.kioskSpool[j.kiosk]).quota - (s.kioskSpool[j.kiosk]).held)) := by
  simp only [acceptedCount, List.isEmpty_iff]

section
variable {id : Half} {data : List Byte} {f : Job → State × List Byte}

theorem onJob_noSuch (unknown : job? s id.toNat = none) : onJob id k s f = (s, reply .noSuch []) := by
  simp only [onJob, unknown]

section
variable {j : Job} (found : job? s id.toNat = some j)
include found

theorem onJob_notYours (other : j.kiosk ≠ k) : onJob id k s f = (s, reply .notYours []) := by
  simp only [onJob, found, if_pos other]

theorem onJob_own (own : j.kiosk = k) : onJob id k s f = f j := by
  simp only [onJob, found, if_neg (not_not.mpr own)]

theorem printDataBlock_closed (own : j.kiosk = k) (closed : j.isOpen = false) :
    printDataBlock id data k s = (s, reply .badState (u8 j.state.code)) := by
  rw [printDataBlock, onJob_own found own, closed]
  rfl

/-- An open job takes the accepted bytes, and its kiosk wants room when they are not all (R83, R74). -/
theorem printDataBlock_open (own : j.kiosk = k) (isOpen : j.isOpen = true) {n : Nat} {w : Writing}
    (accepted : n = min data.length ((if j.chain = [] then 0 else 48 - j.fill) +
      48 * min s.free.length ((s.kioskSpool[k]).quota - (s.kioskSpool[k]).held)))
    (written : w = (data.take n).foldl writeByte { spool := s.spool, free := s.free, chain := j.chain, fill := j.fill }) :
    printDataBlock id data k s =
      ({ s with
          spool := w.spool, free := w.free
          kioskSpool := upd s.kioskSpool k fun q => { q with
            held := q.held + (w.chain.length - j.chain.length), wantRoom := q.wantRoom || decide (n ≠ data.length) }
          jobs := s.jobs.map fun x => if x.id = j.id then { x with
            chain := w.chain, fill := w.fill, spooled := x.spooled + n, lastData := s.hubTime } else x },
        reply (if n = data.length then .ok else .partial_) (u8 n)) := by
  subst own
  have count : acceptedCount s j data.length = n := (acceptedCount_eq ..).trans accepted.symm
  have length : (data.take n).length = n := by
    rw [List.length_take]
    omega
  have filled : writeBytes s j (data.take n) = w := written.symm
  have accept := acceptData_eq j (data.take n) s
  rw [filled, length] at accept
  rw [printDataBlock, onJob_own found rfl, isOpen]
  simp only [Bool.not_true, Bool.false_eq_true, if_false, count, accept]
  by_cases all : n = data.length
  · simp only [all, if_true, ne_eq, not_true_eq_false, decide_false, Bool.or_false]
    rfl
  · simp only [all, if_false, ne_eq, not_false_eq_true, decide_true, Bool.or_true]
    refine Prod.ext ?_ rfl
    simp only [modQuota, modJob, upd_upd]
    rfl

end

end

end Sys2Proof.Machine

open Sys2Proof Sys2Proof.Machine

/-- Settles O43: the slot by the target, then the record by the room of the table. -/
theorem printOpenCases : Obligations.PrintOpenCases := by
  unfold Obligations.PrintOpenCases
  intro s l r k tag target free on normal
  have opens {t : State} {p : List Byte} (block : printOpenBlock target k (taken l r .printOpen tag s) = (t, p)) :
      exec (.printOpen l tag target) s = .next (answered l r p t) :=
    kioskRequest_answered free on rfl (.inl normal) block
  refine ⟨?_, fun notAny out => opens (printOpenBlock_badArg notAny out), fun i named =>
    ⟨fun kind => opens (printOpenBlock_noSuch named kind),
      fun kind full => opens (printOpenBlock_queueFull named kind full)⟩,
    fun i any chosen => ?_⟩
  · rintro rfl none
    exact opens (printOpenBlock_busy none)
  · have goesOn := printOpenBlock_opens (s := taken l r .printOpen tag s) (k := k) chosen
    refine ⟨fun many none => opens (goesOn.trans (openOn_full many none)), fun jobs terminal room id drawn => ?_⟩
    obtain ⟨notFull, reclaimed⟩ := reclaim_eq (s := taken l r .printOpen tag s) room
    exact opens (goesOn.trans (openOn_created notFull reclaimed drawn))

/-- Settles O44: an open job of the kiosk takes as many bytes as its last block, the pool and the quota allow. -/
theorem printDataAccepts : Obligations.PrintDataAccepts := by
  unfold Obligations.PrintDataAccepts
  intro s l r k tag id data free on normal some few
  have served : (inMaintenance s l && ReqKind.heldBack .printData) = false := by
    rw [inMaintenance, on, Option.any_some, normal, Bool.false_and]
  have agrees : lengthAgrees .printData (decide (l = serviceLink)) (2 + data.length) 0 = true := by
    simp only [lengthAgrees, ReqKind.fixedLength, decide_eq_true_eq]
    omega
  have takes {t : State} {p : List Byte} (block : printDataBlock id data k (taken l r .printData tag s) = (t, p)) :
      exec (.printData l tag id data) s = .next (answered l r p t) :=
    request_now free (by omega) (on.allowed nofun) agrees served (by rw [atOnce, forKiosk_on on, block])
  exact ⟨fun unknown => takes (onJob_noSuch unknown), fun j found =>
    ⟨fun other => takes (onJob_notYours found other), fun own closed => takes (printDataBlock_closed found own closed),
      fun own isOpen n w accepted written =>
        takes (printDataBlock_open (s := taken l r .printData tag s) found own isOpen accepted written)⟩⟩
end

section
/-!
PROOFS. PRINT CLOSE, PRINT CANCEL and the fill stall (R85 to R88), and what the ending of a job does (R77): each case as an
equation of its block, and the ending field by field.
-/

namespace Sys2Proof.Machine

variable {s : State} {k : Kiosk} {id : Half} {j : Job}

/-! ### PRINT CLOSE and PRINT CANCEL (R85 to R87) -/

theorem JobState.closed_eq (st : JobState) : st.closed = if st = .filling then .queued else st := by cases st <;> rfl

/-- The head job is being cancelled, its abort mark owed (R87). -/
theorem startCancelling_eq (j : Job) (stall : Bool) (s : State) : startCancelling j stall s =
    { s with
      jobs := s.jobs.map fun x => if x.id = j.id then { x with
        state := .cancelling, isOpen := false, stallEnd := stall } else x
      feeds := upd s.feeds j.slot fun e => { e with
        step := .abortMark, job := some j.id, markHeld := false, pagesWanted := false } } := rfl

section
variable (found : job? s id.toNat = some j) (own : j.kiosk = k)
include found own

theorem printCloseBlock_closed (closed : j.isOpen = false) :
    printCloseBlock id k s = (s, reply .badState (u8 j.state.code)) := by
  rw [printCloseBlock, onJob_own found own, closed]
  rfl

theorem printCloseBlock_open (isOpen : j.isOpen = true) : printCloseBlock id k s =
    ({ s with jobs := s.jobs.map fun x => if x.id = j.id then { x with
        isOpen := false, state := if x.state = .filling then .queued else x.state } else x },
      reply .ok (counter32 j.spooled ++ u8 j.state.closed.code)) := by
  rw [printCloseBlock, onJob_own found own, isOpen]
  simp only [modJob, JobState.closed_eq]
  rfl

theorem printCancelBlock_waiting (waits : j.state = .filling ∨ j.state = .queued) :
    printCancelBlock id k s = (endJob j.id .cancelled none none s, reply .ok [8]) := by
  rw [printCancelBlock, onJob_own found own]
  obtain st | st := waits
  · simp only [cancelJob, st]
    rfl
  · simp only [cancelJob, st]
    rfl

theorem printCancelBlock_printing (prints : j.state = .feeding ∨ j.state = .draining) :
    printCancelBlock id k s = (startCancelling j false s, reply .ok [5]) := by
  rw [printCancelBlock, onJob_own found own]
  obtain st | st := prints
  · simp only [cancelJob, st]
    rfl
  · simp only [cancelJob, st]
    rfl

theorem printCancelBlock_ending (ends : j.state = .cancelling ∨ j.state.isTerminal = true) :
    printCancelBlock id k s = (s, reply .badState (u8 j.state.code)) := by
  rw [printCancelBlock, onJob_own found own]
  cases st : j.state <;> simp_all [JobState.isTerminal]

end

/-! ### The fill stall (R88) -/

theorem expireFill_due (found : job? s id.toNat = some j) (isOpen : j.isOpen = true)
    (due : reached s.hubTime (after j.lastData s.fillLimit) = true) : expireFill id s = stallJob j s := by
  have stalls : (j.isOpen && reached s.hubTime (stallTime s j)) = true := by rw [isOpen, stallTime, due]; rfl
  simp only [expireFill, found, stalls, if_true]

theorem expireFill_idle (idle : job? s id.toNat = none ∨ ∃ j, job? s id.toNat = some j ∧
    (j.isOpen = false ∨ reached s.hubTime (after j.lastData s.fillLimit) = false)) : expireFill id s = s := by
  obtain unknown | ⟨j, found, closed | early⟩ := idle
  · simp only [expireFill, unknown]
  · simp only [expireFill, found, closed, Bool.false_and, Bool.false_eq_true, if_false]
  · simp only [expireFill, found, stallTime, early, Bool.and_false, Bool.false_eq_true, if_false]

/-! ### The notices of an ending (R74, R77) -/

/-- A kiosk's figures with the blocks of a job that ends freed, before its want-room test. -/
def blocksLeft (j : Job) (s : State) (m : Kiosk) : KioskSpool :=
  if j.kiosk = m then { s.kioskSpool[m] with held := (s.kioskSpool[m]).held - j.chain.length } else s.kioskSpool[m]

theorem blocksLeft_quota (j : Job) (s : State) (m : Kiosk) : (blocksLeft j s m).quota = (s.kioskSpool[m]).quota := by
  unfold blocksLeft
  split_ifs <;> rfl

theorem blocksLeft_wantRoom (j : Job) (s : State) (m : Kiosk) :
    (blocksLeft j s m).wantRoom = (s.kioskSpool[m]).wantRoom := by
  unfold blocksLeft
  split_ifs <;> rfl

theorem blocksLeft_held (j : Job) (s : State) (m : Kiosk) : (blocksLeft j s m).held =
    if m = j.kiosk then (s.kioskSpool[m]).held - j.chain.length else (s.kioskSpool[m]).held := by
  unfold blocksLeft
  by_cases own : j.kiosk = m
  · rw [if_pos own, if_pos own.symm]
  · rw [if_neg own, if_neg (Ne.symm own)]

theorem blocksLeft_roomMade (j : Job) (s : State) (m : Kiosk) : (blocksLeft j s m).roomMade = true ↔
    (s.kioskSpool[m]).wantRoom = true ∧ (blocksLeft j s m).held < (s.kioskSpool[m]).quota := by
  rw [KioskSpool.roomMade, Bool.and_eq_true, decide_eq_true_eq, blocksLeft_wantRoom, blocksLeft_quota]

theorem blocksLeft_noRoom {m : Kiosk} (still : (s.kioskSpool[m]).wantRoom = false ∨
    (s.kioskSpool[m]).quota ≤ (blocksLeft j s m).held) : (blocksLeft j s m).roomMade = false := by
  rw [Bool.eq_false_iff, ne_eq, blocksLeft_roomMade]
  rintro ⟨wanted, room⟩
  obtain unwanted | full := still
  · rw [wanted] at unwanted
    cases unwanted
  · omega

/-- Latching changes a kiosk's pending notices alone. -/
theorem latch_pending (k m : Kiosk) (c : NoticeClass) (s : State) :
    (latch k c s).notices[m] = { s.notices[m] with pending := ((latch k c s).notices[m]).pending } := by
  simp only [latch, modNotice_notices, upd_get]
  split_ifs <;> rfl

theorem tellEnd_bit (k m : Kiosk) (st : JobState) (s : State) (n : Nat) :
    ((tellEnd k st s).notices[m]).pending.getLsbD n = ((s.notices[m]).pending.getLsbD n ||
      decide (k = m) && (decide (n = 3) && decide (st = .done) || decide (n = 4) && decide (st = .failed))) := by
  cases st with
  | done => exact (latch_bit k m .jobDone s n).trans (by simp [NoticeClass.number, Bool.and_comm]; rfl)
  | failed => exact (latch_bit k m .jobFailed s n).trans (by simp [NoticeClass.number, Bool.and_comm]; rfl)
  | _ => simp [tellEnd]

theorem tellEnd_pending (k m : Kiosk) (st : JobState) (s : State) :
    (tellEnd k st s).notices[m] = { s.notices[m] with pending := ((tellEnd k st s).notices[m]).pending } := by
  cases st with
  | done => exact latch_pending k m .jobDone s
  | failed => exact latch_pending k m .jobFailed s
  | _ => rfl

theorem jobFreed_notices (j : Job) (s : State) (m : Kiosk) : (jobFreed j s).notices[m] =
    if (blocksLeft j s m).roomMade = true then
      { s.notices[m] with pending := (s.notices[m]).pending ||| NoticeClass.spoolRoom.set } else s.notices[m] := by
  have left : (blocksFreed j.kiosk j.chain s).kioskSpool[m] = blocksLeft j s m := upd_get ..
  have notices : (blocksFreed j.kiosk j.chain s).notices = s.notices := rfl
  have tested := roomTests_notices m (blocksFreed j.kiosk j.chain s)
  rw [left, notices] at tested
  have freed : (jobFreed j s).notices = (freeBlocks j.kiosk j.chain s).notices := by simp only [jobFreed]
  rw [freed, freeBlocks_eq]
  exact tested

section
variable (found : job? s j.id = some j) (st : JobState) (pages : Option Half) (cause : Option JobCause)
include found

/-- A job's ending latches SPOOL_ROOM where room was wanted and made, and JOB_DONE or JOB_FAILED for its kiosk. -/
theorem endJob_bit (m : Kiosk) (n : Nat) : ((endJob j.id st pages cause s).notices[m]).pending.getLsbD n =
    ((s.notices[m]).pending.getLsbD n || decide (n = 9) && (blocksLeft j s m).roomMade ||
      decide (j.kiosk = m) && (decide (n = 3) && decide (st = .done) || decide (n = 4) && decide (st = .failed))) := by
  have left : blocksLeft j (jobTaken j st pages cause s) m = blocksLeft j s m := rfl
  rw [endJob_eq found, tellEnd_bit, jobFreed_notices, left]
  congr 1
  by_cases made : (blocksLeft j s m).roomMade = true
  · rw [if_pos made, made, Bool.and_true, BitVec.getLsbD_or, NoticeClass.set_bit]
    rfl
  · rw [if_neg made, Bool.eq_false_iff.mpr made, Bool.and_false, Bool.or_false]
    rfl

/-- A job's ending changes the pending notices alone. -/
theorem endJob_pending (m : Kiosk) : (endJob j.id st pages cause s).notices[m] =
    { s.notices[m] with pending := ((endJob j.id st pages cause s).notices[m]).pending } := by
  have freed : (jobFreed j (jobTaken j st pages cause s)).notices[m] =
      { s.notices[m] with pending := ((jobFreed j (jobTaken j st pages cause s)).notices[m]).pending } := by
    rw [jobFreed_notices]
    split_ifs <;> rfl
  rw [endJob_eq found]
  generalize jobFreed j (jobTaken j st pages cause s) = t at freed
  rw [tellEnd_pending, freed]

theorem endJob_figures (m : Kiosk) : (endJob j.id st pages cause s).kioskSpool[m] = (blocksLeft j s m).tested :=
  endJob_kioskSpool found st pages cause m

end

/-- A kiosk's figures after its want-room test, by what the test finds (R74). -/
theorem KioskSpool.tested_wantRoom (q : KioskSpool) : q.tested.wantRoom = (q.wantRoom && !q.roomMade) := by
  unfold tested
  cases made : q.roomMade <;> simp

end Sys2Proof.Machine

open Sys2Proof Sys2Proof.Machine

/-- Settles O45: each request and the expiry by the state of the job; the ending field by field, the notices bit by bit. -/
theorem jobEndings : Obligations.JobEndings := by
  unfold Obligations.JobEndings
  refine ⟨fun s l r k tag id free on => ?_, fun s id => ⟨fun j found isOpen due => ?_, fun idle => ?_⟩,
    fun s t j st pages cause found ended => ?_⟩
  case refine_1 =>
    have close {t : State} {p : List Byte} (block : printCloseBlock id k (taken l r .printClose tag s) = (t, p)) :
        exec (.printClose l tag id) s = .next (answered l r p t) := kioskRequest_answered free on rfl (.inr rfl) block
    have cancel {t : State} {p : List Byte} (block : printCancelBlock id k (taken l r .printCancel tag s) = (t, p)) :
        exec (.printCancel l tag id) s = .next (answered l r p t) := kioskRequest_answered free on rfl (.inr rfl) block
    refine ⟨fun unknown => ⟨close (onJob_noSuch unknown), cancel (onJob_noSuch unknown)⟩, fun j found =>
      ⟨fun other => ⟨close (onJob_notYours found other), cancel (onJob_notYours found other)⟩, fun own =>
        ⟨fun closed => close (printCloseBlock_closed found own closed), fun isOpen st filling other => ?_,
          fun waits => cancel (printCancelBlock_waiting found own waits),
          fun prints => cancel (printCancelBlock_printing found own prints),
          fun ends => cancel (printCancelBlock_ending found own ends)⟩⟩⟩
    have now : st = j.state.closed := by
      rw [JobState.closed_eq]
      split_ifs with was
      · exact filling was
      · exact other was
    rw [now]
    exact close (printCloseBlock_open (s := taken l r .printClose tag s) found own isOpen)
  case refine_2 =>
    have stalls {u : State} (same : stallJob j s = u) : exec (.fillStallExpiry id) s = .next (settle u) :=
      congrArg (fun t => Host.Outcome.next (settle t)) ((expireFill_due found isOpen due).trans same)
    exact ⟨fun filling => stalls (by simp only [stallJob, filling, failJob]),
      fun feeding => stalls (by simp only [stallJob, feeding, startCancelling_eq])⟩
  case refine_3 => exact congrArg (fun t => Host.Outcome.next (settle t)) (expireFill_idle idle)
  case refine_4 =>
    subst ended
    have bit := endJob_bit found st pages cause
    have figures := endJob_figures found st pages cause
    refine ⟨by rw [job_endJob found, if_pos rfl]; rfl, fun x other => by rw [job_endJob found, if_neg other],
      endJob_printQueue found .., endJob_terminal found .., endJob_free found .., fun k h held => ?_, ?_, ?_,
      fun k h held => ?_, ?_⟩
    · rw [← blocksLeft_held] at held
      subst held
      rw [figures, KioskSpool.tested_held, KioskSpool.tested_quota, KioskSpool.tested_wantRoom, blocksLeft_quota,
        blocksLeft_wantRoom, bit]
      refine ⟨rfl, rfl, fun wanted room => ?_, fun still => ?_⟩
      · rw [(blocksLeft_roomMade j s k).mpr ⟨wanted, room⟩]
        simp
      · rw [blocksLeft_noRoom still]
        simp
    · rintro rfl
      rw [bit]
      simp
    · rintro rfl
      rw [bit]
      simp
    · rw [← blocksLeft_held] at held
      subst held
      refine ⟨fun other => ?_, fun other => ?_, fun still => ?_, fun n three four nine => ?_,
        endJob_pending found st pages cause k⟩
      · rw [bit]
        obtain other | other := other
        · simp [other]
        · simp [Ne.symm other]
      · rw [bit]
        obtain other | other := other
        · simp [other]
        · simp [Ne.symm other]
      · rw [bit, blocksLeft_noRoom still]
        simp
      · rw [bit]
        simp [three, four, nine]
    · exact endJob_frame (endJob j.id st pages cause s) j.id st pages cause s
end

section
/-!
PROOFS. JOB STATUS, QUOTA SET and FILL LIMIT SET (R91, R93, R94), each case as an equation of its block; the laws of the
state after reset.
-/

namespace Sys2Proof.Machine

variable {s : State}

/-! ### JOB STATUS (R91) -/

section
variable {l : Link} {id : Half} {collect : Byte} {j : Job}

theorem jobStatusBlock_noSuch (unknown : job? s id.toNat = none) :
    jobStatusBlock l id collect s = (s, reply .noSuch []) := by
  simp only [jobStatusBlock, unknown]

variable (found : job? s id.toNat = some j)
include found

theorem jobStatusBlock_notYours {k : Kiosk} (on : OnKiosk l k) (other : j.kiosk ≠ k) :
    jobStatusBlock l id collect s = (s, reply .notYours []) := by
  have refused : ((kioskOf l).any fun k => decide (j.kiosk ≠ k)) = true := by
    rw [on, Option.any_some, decide_eq_true other]
  simp only [jobStatusBlock, found, refused, if_true]

/-- S sees every job, a kiosk its own. -/
theorem jobStatusBlock_seen (sees : l = serviceLink ∨ OnKiosk l j.kiosk) : jobStatusBlock l id collect s =
    (if isSet collect && j.state.isTerminal then removeRecord j.id s else s,
      reply .ok (jobRecord s j (isSet collect && j.state.isTerminal))) := by
  have allowed : ((kioskOf l).any fun k => decide (j.kiosk ≠ k)) = false := by
    obtain rfl | on := sees
    · rfl
    · rw [on, Option.any_some]
      simp
  simp only [jobStatusBlock, found, allowed, Bool.false_eq_true, if_false]

theorem jobStatusBlock_kept (sees : l = serviceLink ∨ OnKiosk l j.kiosk)
    (keeps : collect = 0 ∨ j.state.isTerminal = false) :
    jobStatusBlock l id collect s = (s, reply .ok (jobRecord s j false)) := by
  have kept : (isSet collect && j.state.isTerminal) = false := by
    obtain rfl | lives := keeps
    · rfl
    · rw [lives, Bool.and_false]
  rw [jobStatusBlock_seen found sees, kept]
  rfl

theorem jobStatusBlock_collected (sees : l = serviceLink ∨ OnKiosk l j.kiosk) (asked : collect ≠ 0)
    (ended : j.state.isTerminal = true) :
    jobStatusBlock l id collect s = (removeRecord j.id s, reply .ok (jobRecord s j true)) := by
  have goes : (isSet collect && j.state.isTerminal) = true := by rw [isSet, decide_eq_true asked, ended]; rfl
  rw [jobStatusBlock_seen found sees, goes]
  rfl

end

theorem packFlags_four (a b c d : Bool) :
    packFlags [a, b, c, d] = a.toNat + 2 * b.toNat + 4 * c.toNat + 8 * d.toNat := by
  simp only [packFlags]
  omega

theorem jobPosition_of_queue {j : Job} {a b : List Nat} (queue : s.printQueue[j.slot] = a ++ j.id :: b) (first : j.id ∉ a) :
    jobPosition s j = a.length + 1 := by
  rw [jobPosition, queue, position_append first]
  rfl

theorem causeCode_eq {c : Option JobCause} {n : Nat} (absent : c = none → n = 0) (lost : c = some .unitLost → n = 1)
    (removed : c = some .unitRemoved → n = 2) (abort : c = some .printerAbort → n = 3)
    (stall : c = some .fillStall → n = 4) : causeCode c = n := by
  cases c with
  | none => exact (absent rfl).symm
  | some c =>
    cases c with
    | unitLost => exact (lost rfl).symm
    | unitRemoved => exact (removed rfl).symm
    | printerAbort => exact (abort rfl).symm
    | fillStall => exact (stall rfl).symm

/-! ### QUOTA SET and FILL LIMIT SET (R93, R94) -/

section
variable {b : Byte} {quota : Half} {k : Kiosk}

theorem quotaSetBlock_badArg (out : 7 < b.toNat) : quotaSetBlock b quota s = (s, reply .badArg []) := by
  have noKiosk : index? 8 b.toNat = none := index_eq_none.mpr out
  simp only [quotaSetBlock, noKiosk]

theorem quotaSetBlock_named (named : b.toNat = k.val) : quotaSetBlock b quota s =
    (wantRoomTest k (modQuota k (fun q => { q with quota := min 1024 quota.toNat }) s),
      reply .ok (u16n (min 1024 quota.toNat) ++ u16n (s.kioskSpool[k]).held)) := by
  have kiosk : index? 8 b.toNat = some k := index_eq_some.mpr named
  simp only [quotaSetBlock, kiosk]

/-- The figures a kiosk's want-room test finds under a new quota. -/
theorem roomMade_newQuota (k : Kiosk) (n : Nat) (s : State) :
    ((modQuota k (fun q => { q with quota := n }) s).kioskSpool[k]).roomMade =
      ((s.kioskSpool[k]).wantRoom && decide ((s.kioskSpool[k]).held < n)) :=
  congrArg KioskSpool.roomMade (upd_get_self s.kioskSpool k fun q => { q with quota := n })

theorem quotaSetBlock_quiet {n : Nat} (named : b.toNat = k.val) (clamped : n = min 1024 quota.toNat)
    (quiet : (s.kioskSpool[k]).wantRoom = false ∨ n ≤ (s.kioskSpool[k]).held) : quotaSetBlock b quota s =
    ({ s with kioskSpool := upd s.kioskSpool k fun q => { q with quota := n } },
      reply .ok (u16n n ++ u16n (s.kioskSpool[k]).held)) := by
  have no : ((s.kioskSpool[k]).wantRoom && decide ((s.kioskSpool[k]).held < n)) = false := by
    obtain unwanted | full := quiet
    · rw [unwanted, Bool.false_and]
    · rw [decide_eq_false (Nat.not_lt.mpr full), Bool.and_false]
  rw [quotaSetBlock_named named, ← clamped, wantRoomTest_eq, roomMade_newQuota, no]
  rfl

theorem quotaSetBlock_room {n : Nat} (named : b.toNat = k.val) (clamped : n = min 1024 quota.toNat)
    (wanted : (s.kioskSpool[k]).wantRoom = true) (room : (s.kioskSpool[k]).held < n) : quotaSetBlock b quota s =
    ({ s with
        kioskSpool := upd s.kioskSpool k fun q => { q with quota := n, wantRoom := false }
        notices := upd s.notices k fun v => { v with pending := v.pending ||| 0x200#12 } },
      reply .ok (u16n n ++ u16n (s.kioskSpool[k]).held)) := by
  have made : ((s.kioskSpool[k]).wantRoom && decide ((s.kioskSpool[k]).held < n)) = true := by
    rw [wanted, decide_eq_true room]
    rfl
  rw [quotaSetBlock_named named, ← clamped, wantRoomTest_eq, roomMade_newQuota, made, if_pos rfl]
  simp only [modQuota, latch, modNotice, upd_upd]
  rfl

end

/-! ### The state after reset (R96, R169, R182, R199) -/

theorem queueLaw_reset : QueueLaw State.reset := fun k => by simp [State.reset, KioskLink.reset]

theorem requestLaw_reset : RequestLaw State.reset := by
  refine ⟨fun l => ?_, (fun r none => by cases none), fun r b soft => by cases soft⟩
  have link : State.reset.links[l] = LinkState.reset := by simp [State.reset]
  rw [link]
  exact ⟨⟨List.nodup_nil, fun p mem => by cases mem⟩, fun f sending => by cases sending⟩

theorem countLaw_reset : CountLaw State.reset := by
  refine ⟨fun i p posted => ?_, fun i => ?_⟩
  · simp [State.reset] at posted
  · simp [State.reset, UnitSlot.reset]

theorem rangeLaw_reset : RangeLaw State.reset :=
  rangeLaw_iff.mpr ⟨spoolSettings_reset, fun c mem => by simp [State.reset] at mem⟩

theorem contactLaw_reset : ContactLaw State.reset := by
  refine ⟨fun m n c d used => ?_, fun n c used => ?_, fun i => ?_⟩
  · simp [State.reset] at used
  · simp [State.reset] at used
  · simp [State.reset]

theorem liveLaw_reset : LiveLaw State.reset :=
  ⟨by simp [ClaimIdLaw, State.reset], fun n c used => by simp [State.reset] at used⟩

theorem creditLaw_reset : CreditLaw State.reset := by
  refine ⟨⟨fun i _ => ?_, fun t i running => by cases running⟩, fun i kind => ?_⟩
  · simp [State.reset]
  · simp [definedKind, State.reset, UnitSlot.reset] at kind

end Sys2Proof.Machine

open Sys2Proof Sys2Proof.Machine

/-- Settles O46: each request by its block; the record's flags byte and its place in the queue are read off its definition. -/
theorem jobStatusAndSettings : Obligations.JobStatusAndSettings := by
  unfold Obligations.JobStatusAndSettings
  refine ⟨fun s l r tag id collect free => ?_,
    fun s j collected target position cause any named ended queued absent lost removed abort stall => ?_,
    fun s r tag b quota free => ?_, fun s r tag limit free => ?_⟩
  case refine_1 =>
    have status {t : State} {p : List Byte} (block : jobStatusBlock l id collect (taken l r .jobStatus tag s) = (t, p)) :
        exec (.jobStatus l tag id collect) s = .next (answered l r p t) :=
      request_now free (fixedLength_le ..) rfl rfl (Bool.and_false _) (by rw [atOnce, block])
    refine ⟨fun unknown => status (jobStatusBlock_noSuch unknown), fun j found => ⟨?_, fun sees => ?_⟩⟩
    · rintro ⟨k, on, other⟩
      exact status (jobStatusBlock_notYours found on other)
    · exact ⟨fun keeps => status (jobStatusBlock_kept found sees keeps),
        fun asked ended => status (jobStatusBlock_collected found sees asked ended)⟩
  case refine_2 =>
    have asked : target = if j.anyTarget then 255 else j.slot.val := by
      split_ifs with was
      · exact any was
      · exact named (Bool.eq_false_iff.mpr was)
    have place : position = if j.state.isTerminal then 255 else jobPosition s j := by
      split_ifs with was
      · exact ended was
      · obtain ⟨a, b, queue, first, place⟩ := queued (Bool.eq_false_iff.mpr was)
        rw [place, jobPosition_of_queue queue first]
    rw [asked, place, ← causeCode_eq absent lost removed abort stall, ← packFlags_four]
    rfl
  case refine_3 =>
    have set {t : State} {p : List Byte} (block : quotaSetBlock b quota (taken serviceLink r .quotaSet tag s) = (t, p)) :
        exec (.quotaSet serviceLink tag b quota) s = .next (answered serviceLink r p t) :=
      request_now free (fixedLength_le ..) rfl rfl rfl (by rw [atOnce, block])
    exact ⟨fun out => set (quotaSetBlock_badArg out), fun k n named clamped =>
      ⟨fun quiet => set (quotaSetBlock_quiet (s := taken serviceLink r .quotaSet tag s) named clamped quiet),
        fun wanted room => set (quotaSetBlock_room (s := taken serviceLink r .quotaSet tag s) named clamped wanted room)⟩⟩
  case refine_4 => exact request_now free (fixedLength_le ..) rfl rfl rfl rfl

/-- Settles O11: after reset every table is empty and every setting at its reset value. -/
theorem resetIsLawful : Obligations.ResetIsLawful :=
  ⟨queueLaw_reset, requestLaw_reset, countLaw_reset, rangeLaw_reset, claimLaw_reset, contactLaw_reset, liveLaw_reset,
    jobLaw_reset, blockLaw_reset, printQueueLaw_reset, creditLaw_reset, feedLaw_iff.mpr feedsLawful_reset⟩
end

section
/-!
PROOFS. The Feed Engines' transactions (R101 to R109): what an engine makes of each outcome, as an equation of `feedAct`, and
the completion, stall or abort in which it does so.
-/

namespace Sys2Proof.Machine

/-! ### The engine's record -/

theorem modFeed_congr {s : State} {i : Slot} {f g : FeedEngine → FeedEngine} (h : f s.feeds[i] = g s.feeds[i]) :
    modFeed i f s = modFeed i g s :=
  congrArg (fun v => { s with feeds := v }) (by unfold upd; rw [h])

/-- A change of the engine after its transaction has ended is one change. -/
theorem modFeed_feedEnded (i : Slot) (f : FeedEngine → FeedEngine) (s : State) :
    modFeed i f (feedEnded i s) = modFeed i (fun e => f { e with outstanding := none }) s :=
  congrArg (fun v => { s with feeds := v }) (upd_upd ..)

theorem feedEnded_feed (i : Slot) (s : State) : (feedEnded i s).feeds[i] = { s.feeds[i] with outstanding := none } :=
  upd_get_self ..

theorem headJob_feedEnded (i k : Slot) (s : State) : headJob? (feedEnded i s) k = headJob? s k := rfl

/-! ### The Spooler's part (R90) -/

theorem endCancelling_eq (j : Job) (s : State) : endCancelling j s =
    endJob j.id (if j.stallEnd then .failed else .cancelled) none (if j.stallEnd then some .fillStall else none) s := by
  unfold endCancelling failJob
  split_ifs <;> rfl

section
variable {s : State} {i : Slot} {j : Job} (head : headJob? s i = some j)
include head

theorem reportEndMark_draining (feeding : j.state = .feeding) (closed : j.isOpen = false) (fed : j.chain = []) :
    reportEndMark i s = modJob j.id (fun x => { x with state := .draining }) s := by
  unfold reportEndMark
  rw [head]
  simp [feeding, closed, fed]

theorem reportJobEnd_done (draining : j.state = .draining) (pages : Half) :
    reportJobEnd i pages s = endJob j.id .done (some pages) none s := by
  unfold reportJobEnd
  rw [head]
  exact if_pos draining

theorem reportAbortEnded_ends (cancelling : j.state = .cancelling) : reportAbortEnded i s =
    endJob j.id (if j.stallEnd then .failed else .cancelled) none (if j.stallEnd then some .fillStall else none) s := by
  unfold reportAbortEnded
  rw [head]
  exact (if_pos cancelling).trans (endCancelling_eq j s)

end

/-! ### What an engine makes of an outcome (R101) -/

section
variable {s : State} {i : Slot} {o : BusOutcome} {d : List Byte}

theorem feedAct_markStart_ok (step : (s.feeds[i]).step = .startMark) : feedAct i .markStart .ok d s =
    modFeed i (fun e => { e with
      outstanding := none, step := .stream, creditWanted := e.creditWanted || !e.creditKnown }) s := by
  show actMarkStart i .ok (feedEnded i s) = _
  unfold actMarkStart
  rw [feedEnded_feed, if_pos step]
  exact modFeed_feedEnded ..

theorem feedAct_markStart_refused (step : (s.feeds[i]).step = .startMark) : feedAct i .markStart .refused d s =
    modFeed i (fun e => { e with outstanding := none, markHeld := true }) s := by
  show actMarkStart i .refused (feedEnded i s) = _
  unfold actMarkStart
  rw [feedEnded_feed, if_pos step]
  exact modFeed_feedEnded ..

theorem feedAct_markStart_other (other : (s.feeds[i]).step ≠ .startMark ∨ o ≠ .ok ∧ o ≠ .refused) :
    feedAct i .markStart o d s = feedEnded i s := by
  show actMarkStart i o (feedEnded i s) = _
  unfold actMarkStart
  rw [feedEnded_feed]
  split_ifs with step
  · obtain ⟨notOk, notRefused⟩ := other.resolve_left (not_not_intro step)
    cases o <;> first | rfl | contradiction
  · rfl

theorem feedAct_markEnd_ok {j : Job} (step : (s.feeds[i]).step = .endMark) (head : headJob? s i = some j)
    (feeding : j.state = .feeding) (closed : j.isOpen = false) (fed : j.chain = []) : feedAct i .markEnd .ok d s =
    { s with
      feeds := upd s.feeds i fun e => { e with outstanding := none, step := .endWait, pagesWanted := false }
      jobs := s.jobs.map fun x => if x.id = j.id then { x with state := .draining } else x } := by
  show actMarkEnd i .ok (feedEnded i s) = _
  unfold actMarkEnd
  rw [feedEnded_feed, if_pos step]
  dsimp only
  rw [reportEndMark_draining (headJob_feedEnded i i s ▸ head) feeding closed fed]
  exact congrArg (modJob j.id fun x => { x with state := .draining })
    (modFeed_feedEnded i (fun e => { e with step := .endWait, pagesWanted := false }) s)

theorem feedAct_markEnd_refused (step : (s.feeds[i]).step = .endMark) : feedAct i .markEnd .refused d s =
    modFeed i (fun e => { e with outstanding := none, markHeld := true }) s := by
  show actMarkEnd i .refused (feedEnded i s) = _
  unfold actMarkEnd
  rw [feedEnded_feed, if_pos step]
  exact modFeed_feedEnded ..

theorem feedAct_markEnd_other (other : (s.feeds[i]).step ≠ .endMark ∨ o ≠ .ok ∧ o ≠ .refused) :
    feedAct i .markEnd o d s = feedEnded i s := by
  show actMarkEnd i o (feedEnded i s) = _
  unfold actMarkEnd
  rw [feedEnded_feed]
  split_ifs with step
  · obtain ⟨notOk, notRefused⟩ := other.resolve_left (not_not_intro step)
    cases o <;> first | rfl | contradiction
  · rfl

theorem feedAct_pstate_ok {j : Job} (step : (s.feeds[i]).step = .endWait) (wanted : (s.feeds[i]).pagesWanted = true)
    (long : 4 ≤ d.length) (head : headJob? s i = some j) (draining : j.state = .draining) : feedAct i .pstate .ok d s =
    modFeed i (fun e => { e with step := .none, job := none, pagesWanted := false })
      (endJob j.id .done (some (halfAt d 1)) none (feedEnded i s)) := by
  show actPstate i .ok d (feedEnded i s) = _
  unfold actPstate
  rw [feedEnded_feed, if_pos (by simp only [step, wanted, long, decide_true, Bool.and_self]),
    reportJobEnd_done (headJob_feedEnded i i s ▸ head) draining]

theorem feedAct_pstate_other
    (other : ((s.feeds[i]).step ≠ .endWait ∨ (s.feeds[i]).pagesWanted = false) ∨ o ≠ .ok) :
    feedAct i .pstate o d s = feedEnded i s := by
  show actPstate i o d (feedEnded i s) = _
  unfold actPstate
  rw [feedEnded_feed]
  refine if_neg ?_
  simp only [Bool.and_eq_true, decide_eq_true_eq]
  rintro ⟨⟨⟨step, wanted⟩, isOk⟩, -⟩
  obtain (away | unwanted) | failed := other
  · exact away step
  · exact Bool.false_ne_true (unwanted.symm.trans wanted)
  · exact failed isOk

theorem feedAct_markAbort_ends {j : Job} (step : (s.feeds[i]).step = .abortMark) (head : headJob? s i = some j)
    (cancelling : j.state = .cancelling) : feedAct i .markAbort o d s =
    modFeed i (fun e => { e with credit := 0, creditKnown := false, step := .none, job := none })
      (endJob j.id (if j.stallEnd then .failed else .cancelled) none (if j.stallEnd then some .fillStall else none)
        (feedEnded i s)) := by
  show actMarkAbort i (feedEnded i s) = _
  unfold actMarkAbort
  rw [feedEnded_feed, if_pos step, reportAbortEnded_ends (headJob_feedEnded i i s ▸ head) cancelling]
  rfl

theorem feedAct_markAbort_other (away : (s.feeds[i]).step ≠ .abortMark) :
    feedAct i .markAbort o d s = feedEnded i s := by
  show actMarkAbort i (feedEnded i s) = _
  unfold actMarkAbort
  rw [feedEnded_feed, if_neg away]

theorem feedAct_credit_ok (step : (s.feeds[i]).step = .stream) : feedAct i .credit .ok d s =
    modFeed i (fun e => { e with
      outstanding := none, credit := (byteAt d 0).toNat, creditKnown := true, creditWanted := false }) s := by
  show actCredit i .ok d (feedEnded i s) = _
  unfold actCredit
  rw [feedEnded_feed, if_pos (by simp only [step, decide_true, Bool.and_self])]
  exact modFeed_feedEnded ..

theorem feedAct_credit_other (other : (s.feeds[i]).step ≠ .stream ∨ o ≠ .ok) :
    feedAct i .credit o d s = feedEnded i s := by
  show actCredit i o d (feedEnded i s) = _
  unfold actCredit
  rw [feedEnded_feed]
  refine if_neg ?_
  simp only [Bool.and_eq_true, decide_eq_true_eq]
  rintro ⟨step, isOk⟩
  exact other.elim (fun away => away step) fun failed => failed isOk

/-- The credit after a FEED: one lower when it is known (R105). -/
theorem spend_credit (e : FeedEngine) :
    e.spend = { e with credit := if e.creditKnown then e.credit - 1 else e.credit } := by
  unfold FeedEngine.spend
  split_ifs <;> rfl

theorem feedAct_feed_ok {j : Job} {b : Nat} {rest : List Nat} (step : (s.feeds[i]).step = .stream)
    (head : headJob? s i = some j) (feeding : j.state = .feeding) (chain : j.chain = b :: rest) {credit : Nat}
    (spent : credit = if (s.feeds[i]).creditKnown then (s.feeds[i]).credit - 1 else (s.feeds[i]).credit) :
    feedAct i .feed .ok d s =
      modFeed i (fun e => { e with credit := credit, creditWanted := e.creditWanted || decide (credit = 0) })
        (freeBlocks j.kiosk [b] { s with
          feeds := upd s.feeds i fun e => { e with outstanding := none }
          jobs := s.jobs.map fun x => if x.id = j.id then { x with
            chain := rest, fed := x.fed + (if rest.isEmpty then j.fill else 48)
            fill := if rest.isEmpty then 0 else x.fill } else x }) := by
  show actFeed i .ok (feedEnded i s) = _
  unfold actFeed
  rw [feedEnded_feed]
  simp only [step]
  rw [reportFed_eq (headJob_feedEnded i i s ▸ head) feeding chain]
  refine modFeed_congr ?_
  rw [freeBlocks_feeds, modJob_feeds, feedEnded_feed, spend_credit, spent]

theorem feedAct_feed_refused (step : (s.feeds[i]).step = .stream) : feedAct i .feed .refused d s =
    modFeed i (fun e => { e with outstanding := none, credit := 0, creditKnown := true, creditWanted := true }) s := by
  show actFeed i .refused (feedEnded i s) = _
  unfold actFeed
  rw [feedEnded_feed]
  simp only [step]
  exact modFeed_feedEnded ..

theorem feedAct_feed_aborting (step : (s.feeds[i]).step = .abortMark) : feedAct i .feed .ok d s =
    modFeed i (fun e => { e with
      outstanding := none, credit := if e.creditKnown then e.credit - 1 else e.credit }) s := by
  show actFeed i .ok (feedEnded i s) = _
  unfold actFeed
  rw [feedEnded_feed]
  simp only [step]
  rw [modFeed_feedEnded]
  exact modFeed_congr (spend_credit _)

theorem feedAct_feed_other (notStream : (s.feeds[i]).step ≠ .stream ∨ o ≠ .ok ∧ o ≠ .refused)
    (notAborting : (s.feeds[i]).step ≠ .abortMark ∨ o ≠ .ok) : feedAct i .feed o d s = feedEnded i s := by
  show actFeed i o (feedEnded i s) = _
  unfold actFeed
  rw [feedEnded_feed]
  dsimp only
  split
  · next step => exact absurd notStream (by simpa using step)
  · next step => exact absurd notStream (by simpa using step)
  · next step => exact absurd notAborting (by simpa using step)
  · rfl

end

/-! ### The end of an engine's transaction (R101, R162) -/

section
variable {s : State} {t : Txn} {i : Slot} {w : TxnName} {a : UnitAnswer}

theorem engineAct_printer {u : State} (h : EngineTxn s t i w .printer) (units : u.units = s.units) (o : BusOutcome)
    (d : List Byte) : engineAct i w o d u = feedAct i w o d u := by
  obtain ⟨-, -, -, -, -, -, kind⟩ := h
  exact engineAct_kind.1 ((definedKind_congr units i).trans kind)

theorem feed_endsOk {u : State} {d : List Byte} (h : EngineTxn s t i w .printer) (ok : EndsOk t a d)
    (act : feedAct i w .ok d (busFreed s) = u) : completion w a s = .next (countedOk i u) :=
  completion_ok h ok ((engineAct_printer (u := busFreed s) h rfl .ok d).trans act)

theorem feed_endsRefused {u : State} (h : EngineTxn s t i w .printer) (refused : wireOutcome t a = .refused)
    (act : ∀ d, feedAct i w .refused d (busFreed s) = u) : completion w a s = .next (countedRefused i u) :=
  completion_refused h refused fun d => (engineAct_printer (u := busFreed s) h rfl .refused d).trans (act d)

theorem feed_endsWith {c : UnitAnswer → Instr} {o : BusOutcome} {f : State → State} (h : EngineTxn s t i w .printer)
    (failed : o ≠ .ok) (completes : ∀ a, exec (c a) s = completion w a s)
    (act : ∀ b, feedAct i w o [] { s with bus := b } = f { s with bus := b }) : EndsWith c s t i o f :=
  endsWith_engine h failed completes fun b =>
    (engineAct_printer (u := { s with bus := b }) h rfl o []).trans (act b)

end

end Sys2Proof.Machine

open Sys2Proof Sys2Proof.Machine

/-- Settles O47: each transaction's completion is the engine's equation for the outcome and the step it stands in. -/
theorem feedMarks : Obligations.FeedMarks := by
  unfold Obligations.FeedMarks
  refine ⟨fun s t i a d txn => ⟨fun step => ⟨fun ok => ?_, fun refused => ?_⟩, fun away ok => ?_⟩,
    fun s t i a d txn => ⟨fun step => ⟨fun j ok head feeding closed fed => ?_, fun refused => ?_⟩, fun away ok => ?_⟩,
    fun s t i a d txn ok => ⟨fun j step wanted long head draining => ?_, fun other => ?_⟩,
    fun s t i a d j txn step head cancelling u ended => ?_, fun s t i o failed ended hended held hheld => ?_,
    fun s t i a d txn away ok => feed_endsOk txn ok (feedAct_markAbort_other away)⟩
  case refine_1 => exact feed_endsOk txn ok (feedAct_markStart_ok step)
  case refine_2 => exact feed_endsRefused txn refused fun _ => feedAct_markStart_refused step
  case refine_3 => exact feed_endsOk txn ok (feedAct_markStart_other (.inl away))
  case refine_4 => exact feed_endsOk txn ok (feedAct_markEnd_ok step head feeding closed fed)
  case refine_5 => exact feed_endsRefused txn refused fun _ => feedAct_markEnd_refused step
  case refine_6 => exact feed_endsOk txn ok (feedAct_markEnd_other (.inl away))
  case refine_7 => exact feed_endsOk txn ok (feedAct_pstate_ok step wanted long head draining)
  case refine_8 => exact feed_endsOk txn ok (feedAct_pstate_other (.inl other))
  case refine_9 =>
    subst ended
    exact ⟨fun ok => feed_endsOk txn ok (feedAct_markAbort_ends step head cancelling),
      fun refused => feed_endsRefused txn refused fun _ => feedAct_markAbort_ends step head cancelling⟩
  case refine_10 =>
    subst hended hheld
    refine ⟨fun txn => ⟨fun step refused => ?_, fun other => ?_⟩, fun txn => ⟨fun step refused => ?_, fun other => ?_⟩,
      fun txn => ?_, fun txn => ⟨fun away => ?_, fun j step head cancelling => ?_⟩⟩
    · subst refused
      exact feed_endsWith txn failed (fun _ => rfl) fun _ => feedAct_markStart_refused step
    · exact feed_endsWith txn failed (fun _ => rfl) fun _ =>
        feedAct_markStart_other (other.imp_right fun notRefused => ⟨failed, notRefused⟩)
    · subst refused
      exact feed_endsWith txn failed (fun _ => rfl) fun _ => feedAct_markEnd_refused step
    · exact feed_endsWith txn failed (fun _ => rfl) fun _ =>
        feedAct_markEnd_other (other.imp_right fun notRefused => ⟨failed, notRefused⟩)
    · exact feed_endsWith txn failed (fun _ => rfl) fun _ => feedAct_pstate_other (.inr failed)
    · exact feed_endsWith txn failed (fun _ => rfl) fun _ => feedAct_markAbort_other away
    · exact feed_endsWith txn failed (fun _ => rfl) fun _ => feedAct_markAbort_ends step head cancelling

/-- Settles O48: as O47, for the CREDIT read and the FEED. -/
theorem feedCreditAndBlocks : Obligations.FeedCreditAndBlocks := by
  unfold Obligations.FeedCreditAndBlocks
  refine ⟨fun s t i a d txn => ⟨fun step ok => ?_, fun away ok => ?_, fun refused => ?_⟩,
    fun s t i o failed ended hended => ⟨fun txn => ?_, fun txn => ⟨fun other => ?_, fun step refused => ?_⟩⟩,
    fun s t i a d txn => ⟨fun j b rest step ok head feeding chain credit spent => ?_, fun step refused => ?_,
      fun step ok => ?_, fun notStream notAborting ok => ?_⟩⟩
  case refine_1 => exact feed_endsOk txn ok (feedAct_credit_ok step)
  case refine_2 => exact feed_endsOk txn ok (feedAct_credit_other (.inl away))
  case refine_3 => exact feed_endsRefused txn refused fun _ => feedAct_credit_other (.inr nofun)
  case refine_4 =>
    subst hended
    exact feed_endsWith txn failed (fun _ => rfl) fun _ => feedAct_credit_other (.inr failed)
  case refine_5 =>
    subst hended
    exact feed_endsWith txn failed (fun _ => rfl) fun _ =>
      feedAct_feed_other (other.imp_right fun notRefused => ⟨failed, notRefused⟩) (.inr failed)
  case refine_6 =>
    subst refused
    exact feed_endsWith txn failed (fun _ => rfl) fun _ => feedAct_feed_refused step
  case refine_7 =>
    have act := feedAct_feed_ok (s := busFreed s) (d := d) step head feeding chain spent
    exact feed_endsOk txn ok act
  case refine_8 => exact feed_endsRefused txn refused fun _ => feedAct_feed_refused step
  case refine_9 => exact feed_endsOk txn ok (feedAct_feed_aborting step)
  case refine_10 => exact feed_endsOk txn ok (feedAct_feed_other (.inl notStream) (.inl notAborting))
end

section
/-!
PROOFS. The end of an event (R100, R145, R147, R163, R165, R189): what each of its steps can do, that the loops leave no step
to take, and what stays as it was.
-/

namespace Sys2Proof.Machine

/-! ### Loops that leave nothing to do -/

/-- A loop over steps that are done once taken, and that no other step of the loop makes due again, leaves none to take. -/
theorem forEach_done {α : Type} {f : α → State → State} (once : ∀ i t, f i (f i t) = f i t)
    (apart : ∀ i j t, i ≠ j → f i t = t → f i (f j t) = f j t) {l : List α} {i : α} (listed : i ∈ l) (s : State) :
    f i (forEach l f s) = forEach l f s := by
  induction l generalizing s with
  | nil => cases listed
  | cons a l ih =>
    by_cases later : i ∈ l
    · exact ih later (f a s)
    · obtain rfl : i = a := (List.mem_cons.mp listed).resolve_right later
      show f i (forEach l f (f i s)) = forEach l f (f i s)
      exact forEach_keeps (P := fun t => f i t = t)
        (fun j hj t still => apart i j t (fun same => later (same ▸ hj)) still) (once i s)

theorem forEach_still {α : Type} {f : α → State → State} {s : State} (l : List α) (still : ∀ i, f i s = s) :
    forEach l f s = s :=
  forEach_keeps (P := fun t => t = s) (fun i _ _ same => same ▸ still i) rfl

/-- A field that a mask leaves is as before, when the mask does not tell the states apart. -/
theorem field_of_frame {α : Type} (field : State → α) (mask : State → State → State) {s t : State}
    (h : mask s t = mask s s) (blind : ∀ base u, field (mask base u) = field u := by exact fun _ _ => rfl) :
    field t = field s :=
  (blind s t).symm.trans ((congrArg field h).trans (blind s s))

/-! ### The level rules (R145) -/

/-- The level rule of a slot would latch a call (R145). -/
def callDue (s : State) (i : Slot) : Bool := lineActive s i && !(s.attn[i]).pending && !pollInFlight s i

theorem levelRule_due {s : State} {i : Slot} (due : callDue s i = true) : levelRule i s = call i s := if_pos due

theorem call_pending (i : Slot) (s : State) : ((call i s).attn[i]).pending = true := by
  unfold call
  rw [modAttn_attn, upd_get_self]
  split_ifs with already
  · exact already
  · rfl

theorem callDue_pending {s : State} {i : Slot} (pending : (s.attn[i]).pending = true) : callDue s i = false := by
  unfold callDue
  rw [pending, Bool.not_true, Bool.and_false, Bool.false_and]

theorem levelRule_still {s : State} {i : Slot} : levelRule i s = s ↔ callDue s i = false := by
  constructor
  · intro still
    by_contra due
    have pending := call_pending i s
    rw [← levelRule_due (Bool.not_eq_false _ ▸ due), still] at pending
    exact due (callDue_pending pending)
  · exact fun quiet => if_neg (Bool.eq_false_iff.mp quiet)

theorem callDue_congr {s t : State} {i : Slot} (line : t.attnLine = s.attnLine) (units : t.units = s.units)
    (attn : t.attn[i] = s.attn[i]) (bus : t.bus = s.bus) : callDue t i = callDue s i := by
  unfold callDue lineActive pollInFlight
  rw [line, units, attn, bus]

theorem levelRule_attn_ne {i j : Slot} (other : i ≠ j) (s : State) : (levelRule j s).attn[i] = s.attn[i] := by
  unfold levelRule
  split_ifs
  · exact upd_get_ne _ _ _ _ other.symm
  · rfl

theorem levelRule_once (i : Slot) (s : State) : levelRule i (levelRule i s) = levelRule i s := by
  cases due : callDue s i with
  | true =>
    rw [levelRule_due due, levelRule_still]
    exact callDue_pending (call_pending i s)
  | false => rw [levelRule_still.mpr due, levelRule_still.mpr due]

theorem levelRule_apart (i j : Slot) (s : State) (other : i ≠ j) (still : levelRule i s = s) :
    levelRule i (levelRule j s) = levelRule j s := by
  have frame := levelRule_frame s j s
  rw [levelRule_still] at still ⊢
  rw [callDue_congr (field_of_frame State.attnLine offAttn frame) (field_of_frame State.units offAttn frame)
    (levelRule_attn_ne other s) (field_of_frame State.bus offAttn frame), still]

/-- What the level rules leave: all that does not look at the attention latches. -/
theorem levelRules_field {α : Type} (field : State → α) (s : State)
    (blind : ∀ base u, field (offAttn base u) = field u := by exact fun _ _ => rfl) :
    field (levelRules s) = field s := field_of_frame field offAttn (levelRules_frame s s) blind

theorem levelRules_still (i : Slot) (s : State) : levelRule i (levelRules s) = levelRules s :=
  forEach_done levelRule_once levelRule_apart (mem_indices i) s

theorem only_attn {s t : State} (frame : offAttn t t = offAttn t s) : t = { s with attn := t.attn } := frame

theorem levelRules_attn_alone (s : State) : levelRules s = { s with attn := (levelRules s).attn } :=
  only_attn (levelRules_frame (levelRules s) s)

/-! ### Filling a place (R147, R163) -/

/-- The work a slot's engine has for the bus, by the slot's kind (R100, R123, R26). -/
def owedWork (s : State) (i : Slot) : UnitKind → Option TxnName
  | .printer => if (s.feeds[i]).outstanding.isSome then none else feedWork s.feeds[i] (headJob? s i)
  | .scanner => if (s.scans[i]).outstanding.isSome then none else scanWork s.scans[i]
  | .panel => if (s.panels[i]).readWanted && !(s.panels[i]).outstanding then some .contacts else none

/-- What would be posted in a slot's place now (R147, R163). -/
def owed (s : State) (i : Slot) : Option TxnName :=
  (s.units[i]).definition.bind fun d =>
    if d.state = .ready && (s.board[i]).isNone then
      if (s.units[i]).enable && (s.attn[i]).pending then some .cause else owedWork s i d.kind
    else none

/-- A job's record is as before, or its job has gone from FILLING or QUEUED to FEEDING (R90). -/
def JobStarted (a b : Option Job) : Prop :=
  b = a ∨ ∃ j, a = some j ∧ (j.state = .filling ∨ j.state = .queued) ∧ b = some { j with state := .feeding }

theorem JobStarted.trans {a b c : Option Job} (first : JobStarted a b) (second : JobStarted b c) : JobStarted a c := by
  obtain rfl | ⟨j, rfl, waiting, rfl⟩ := first
  · exact second
  · obtain rfl | ⟨k, same, again, -⟩ := second
    · exact .inr ⟨j, rfl, waiting, rfl⟩
    · cases same
      simp at again

theorem JobStarted.headJob {s t : State} (jobs : ∀ id, JobStarted (job? s id) (job? t id))
    (queues : t.printQueue = s.printQueue) (i : Slot) : JobStarted (headJob? s i) (headJob? t i) := by
  unfold headJob?
  rw [queues]
  cases (s.printQueue[i]).head? with
  | none => exact .inl rfl
  | some id => exact jobs id

/-- A head job that has been started gives its engine no new work: the start condition alone looks at the job's state, and the
lines of the work table below it are for other steps (R100, R102). -/
theorem JobStarted.feedWork_none {e : FeedEngine} {a b : Option Job} (started : JobStarted a b)
    (idle : feedWork e a = none) : feedWork e b = none := by
  obtain rfl | ⟨j, rfl, -, rfl⟩ := started
  · exact idle
  · have feedable : Job.feedable { j with state := .feeding } = j.feedable := rfl
    have notStart : startCondition e { j with state := .feeding } = false := by simp [startCondition]
    unfold feedWork at idle ⊢
    simp only [Option.any_some, feedable, notStart] at idle ⊢
    cases step : e.step <;> simp_all

/-- t is s with a posting in the empty place of a slot, its engine's record changed, and its head job started perhaps. -/
structure Posted (i : Slot) (s t : State) : Prop where
  free : s.board[i] = none
  filled : ∃ p, t.board[i] = some p ∧ p.rank ≠ .service
  board : ∀ j : Slot, j ≠ i → t.board[j] = s.board[j]
  feeds : ∀ j : Slot, j ≠ i → t.feeds[j] = s.feeds[j]
  scans : ∀ j : Slot, j ≠ i → t.scans[j] = s.scans[j]
  panels : ∀ j : Slot, j ≠ i → t.panels[j] = s.panels[j]
  jobs : ∀ id, JobStarted (job? s id) (job? t id)

/-- The engine of a slot has changed its record, and perhaps started its head job. -/
structure EngineMoved (i : Slot) (s u : State) : Prop where
  board : u.board = s.board
  feeds : ∀ j : Slot, j ≠ i → u.feeds[j] = s.feeds[j]
  scans : ∀ j : Slot, j ≠ i → u.scans[j] = s.scans[j]
  panels : ∀ j : Slot, j ≠ i → u.panels[j] = s.panels[j]
  jobs : ∀ id, JobStarted (job? s id) (job? u id)

theorem EngineMoved.posted {i : Slot} {s u : State} (moved : EngineMoved i s u) {p : Posting}
    (free : s.board[i] = none) (rank : p.rank ≠ .service) : Posted i s (place i p u) where
  free := free
  filled := ⟨p, upd_get_self .., rank⟩
  board j other := (upd_get_ne _ _ _ _ other.symm).trans (congrArg (fun v => v[j]) moved.board)
  feeds := moved.feeds
  scans := moved.scans
  panels := moved.panels
  jobs := moved.jobs

theorem EngineMoved.refl (i : Slot) (s : State) : EngineMoved i s s :=
  ⟨rfl, fun _ _ => rfl, fun _ _ => rfl, fun _ _ => rfl, fun _ => .inl rfl⟩

theorem EngineMoved.modFeed (i : Slot) (f : FeedEngine → FeedEngine) (s : State) : EngineMoved i s (modFeed i f s) :=
  { EngineMoved.refl i s with feeds := fun _ other => upd_get_ne _ _ _ _ other.symm }

theorem EngineMoved.modScan (i : Slot) (f : ScanRecord → ScanRecord) (s : State) : EngineMoved i s (modScan i f s) :=
  { EngineMoved.refl i s with scans := fun _ other => upd_get_ne _ _ _ _ other.symm }

theorem EngineMoved.modPanel (i : Slot) (f : PanelEngine → PanelEngine) (s : State) :
    EngineMoved i s (modPanel i f s) :=
  { EngineMoved.refl i s with panels := fun _ other => upd_get_ne _ _ _ _ other.symm }

theorem EngineMoved.reportStarted {i : Slot} {s u : State} (moved : EngineMoved i s u) (jobs : u.jobs = s.jobs) :
    EngineMoved i s (reportStarted i u) := by
  have starts {j : Job} (head : headJob? u i = some j) (waiting : j.state = .filling ∨ j.state = .queued) :
      EngineMoved i s (modJob j.id (fun j => { j with state := .feeding }) u) := by
    refine { moved with jobs := fun id => ?_ }
    have found := (headJob_eq_some.mp head).2
    rw [← job_congr jobs, job_modJob_found (f := fun j => { j with state := .feeding }) (fun _ => rfl) found]
    split_ifs with same
    · exact .inr ⟨j, same ▸ found, waiting, rfl⟩
    · exact .inl rfl
  unfold Machine.reportStarted
  split
  · exact moved
  · next j head =>
    split
    · next st => exact starts head (.inl st)
    · next st => exact starts head (.inr st)
    · exact moved

theorem chooseWork_cases {i : Slot} {s : State} (kind : UnitKind) (free : s.board[i] = none) :
    owedWork s i kind = none ∧ chooseWork i kind s = s ∨
      (owedWork s i kind).isSome ∧ Posted i s (chooseWork i kind s) := by
  cases kind with
  | printer =>
    unfold owedWork chooseWork chooseFeed
    dsimp only
    split_ifs
    · exact .inl ⟨rfl, rfl⟩
    · cases feedWork s.feeds[i] (headJob? s i) with
      | none => exact .inl ⟨rfl, rfl⟩
      | some w =>
        have moved := EngineMoved.modFeed i (feedPosted w (headJob? s i)) s
        refine .inr ⟨rfl, ?_⟩
        dsimp only
        split_ifs
        · exact (moved.reportStarted rfl).posted free nofun
        · exact moved.posted free nofun
  | scanner =>
    unfold owedWork chooseWork chooseScan
    dsimp only
    split_ifs
    · exact .inl ⟨rfl, rfl⟩
    · cases scanWork s.scans[i] with
      | none => exact .inl ⟨rfl, rfl⟩
      | some w => exact .inr ⟨rfl, (EngineMoved.modScan i (scanPosted w) s).posted free nofun⟩
  | panel =>
    unfold owedWork chooseWork choosePanel
    dsimp only
    split_ifs
    · exact .inr ⟨rfl, (EngineMoved.modPanel i _ s).posted free nofun⟩
    · exact .inl ⟨rfl, rfl⟩

/-- Filling a place changes nothing when nothing is owed, and posts in an empty place when something is. -/
theorem fillPlace_cases (i : Slot) (s : State) :
    owed s i = none ∧ fillPlace i s = s ∨ (owed s i).isSome ∧ Posted i s (fillPlace i s) := by
  unfold owed fillPlace
  cases (s.units[i]).definition with
  | none => exact .inl ⟨rfl, rfl⟩
  | some d =>
    rw [Option.bind_some]
    dsimp only
    have free (ready : (decide (d.state = .ready) && (s.board[i]).isNone) = true) : s.board[i] = none :=
      Option.isNone_iff_eq_none.mp (Bool.and_elim_right ready)
    split_ifs with ready called
    · have rank : kindRank d.kind ≠ .service := by cases d.kind <;> nofun
      exact .inr ⟨rfl, (EngineMoved.refl i s).posted (free ready) rank⟩
    · exact chooseWork_cases d.kind (free ready)
    · exact .inl ⟨rfl, rfl⟩

theorem owed_filled {s : State} {i : Slot} {p : Posting} (filled : s.board[i] = some p) : owed s i = none := by
  unfold owed
  cases (s.units[i]).definition <;> simp [filled]

theorem fillPlace_still {s : State} {i : Slot} : fillPlace i s = s ↔ owed s i = none := by
  obtain ⟨idle, same⟩ | ⟨owes, posted⟩ := fillPlace_cases i s
  · exact iff_of_true same idle
  · have free := posted.free
    obtain ⟨p, filled, -⟩ := posted.filled
    refine ⟨fun same => ?_, fun idle => ?_⟩
    · rw [same, free] at filled
      cases filled
    · rw [idle] at owes
      cases owes

theorem owed_none_congr {s t : State} {i : Slot} (units : t.units = s.units) (board : t.board[i] = s.board[i])
    (attn : t.attn[i] = s.attn[i]) (feed : t.feeds[i] = s.feeds[i]) (scan : t.scans[i] = s.scans[i])
    (panel : t.panels[i] = s.panels[i]) (head : JobStarted (headJob? s i) (headJob? t i)) (idle : owed s i = none) :
    owed t i = none := by
  have work (kind : UnitKind) (nothing : owedWork s i kind = none) : owedWork t i kind = none := by
    unfold owedWork at nothing ⊢
    cases kind with
    | printer =>
      dsimp only at nothing ⊢
      rw [feed]
      split_ifs at nothing ⊢
      · rfl
      · exact head.feedWork_none nothing
    | scanner =>
      dsimp only at nothing ⊢
      rwa [scan]
    | panel =>
      dsimp only at nothing ⊢
      rwa [panel]
  unfold owed at idle ⊢
  rw [units, board, attn]
  cases definition : (s.units[i]).definition with
  | none => rfl
  | some d =>
    rw [definition, Option.bind_some] at idle
    rw [Option.bind_some]
    split_ifs at idle ⊢
    · exact work d.kind idle
    · rfl

/-- What filling a place leaves: all that does not look at the board, the engines' records and the jobs. -/
theorem fillPlace_field {α : Type} (field : State → α) (i : Slot) (s : State)
    (blind : ∀ base u, field (offWork base u) = field u := by exact fun _ _ => rfl) :
    field (fillPlace i s) = field s := field_of_frame field offWork (fillPlace_frame s i s) blind

theorem fillPlace_jobs (i : Slot) (s : State) (id : Nat) : JobStarted (job? s id) (job? (fillPlace i s) id) := by
  obtain ⟨-, same⟩ | ⟨-, posted⟩ := fillPlace_cases i s
  · rw [same]
    exact .inl rfl
  · exact posted.jobs id

theorem fillPlace_once (i : Slot) (s : State) : fillPlace i (fillPlace i s) = fillPlace i s := by
  obtain ⟨-, same⟩ | ⟨-, posted⟩ := fillPlace_cases i s
  · rw [same, same]
  · obtain ⟨p, filled, -⟩ := posted.filled
    exact fillPlace_still.mpr (owed_filled filled)

theorem fillPlace_apart (i j : Slot) (s : State) (other : i ≠ j) (still : fillPlace i s = s) :
    fillPlace i (fillPlace j s) = fillPlace j s := by
  obtain ⟨-, same⟩ | ⟨-, posted⟩ := fillPlace_cases j s
  · rw [same, still]
  · rw [fillPlace_still] at still ⊢
    exact owed_none_congr (fillPlace_units j s) (posted.board i other) (fillPlace_field (fun t => t.attn[i]) j s)
      (posted.feeds i other) (posted.scans i other) (posted.panels i other)
      (.headJob posted.jobs (fillPlace_field State.printQueue j s) i) still

theorem fillPlace_posting_kept (j : Slot) {s : State} {i : Slot} {p : Posting} (waits : s.board[i] = some p) :
    (fillPlace j s).board[i] = some p := by
  obtain ⟨-, same⟩ | ⟨-, posted⟩ := fillPlace_cases j s
  · rwa [same]
  · by_cases here : i = j
    · subst here
      cases posted.free.symm.trans waits
    · rw [posted.board i here, waits]

/-- No slot's posting has the rank of the service place (R164). -/
def SlotRanks (s : State) : Prop := ∀ (i : Slot) (p : Posting), s.board[i] = some p → p.rank ≠ .service

theorem SlotRanks.fillPlace {s : State} (ranks : SlotRanks s) (j : Slot) : SlotRanks (fillPlace j s) := by
  obtain ⟨-, same⟩ | ⟨-, posted⟩ := fillPlace_cases j s
  · rwa [same]
  · intro i p waits
    by_cases here : i = j
    · subst here
      obtain ⟨q, filled, rank⟩ := posted.filled
      cases filled.symm.trans waits
      exact rank
    · exact ranks i p (posted.board i here ▸ waits)

/-! ### Filling every place -/

/-- The postings of every slot (R163). -/
def fillPlaces (s : State) : State := forEach (indices 12) fillPlace s

theorem fillPlaces_still (i : Slot) (s : State) : fillPlace i (fillPlaces s) = fillPlaces s :=
  forEach_done fillPlace_once fillPlace_apart (mem_indices i) s

/-- What filling every place leaves. -/
theorem fillPlaces_field {α : Type} (field : State → α) (s : State)
    (blind : ∀ base u, field (offWork base u) = field u := by exact fun _ _ => rfl) :
    field (fillPlaces s) = field s :=
  field_of_frame field offWork (forEach_frame (offWork s) (fillPlace_frame s) _ s) blind

theorem fillPlaces_jobs (s : State) (id : Nat) : JobStarted (job? s id) (job? (fillPlaces s) id) :=
  forEach_keeps (P := fun t => JobStarted (job? s id) (job? t id))
    (fun i _ t before => before.trans (fillPlace_jobs i t id)) (.inl rfl)

theorem fillPlaces_posting_kept {s : State} {i : Slot} {p : Posting} (waits : s.board[i] = some p) :
    (fillPlaces s).board[i] = some p :=
  forEach_keeps (P := fun t => t.board[i] = some p) (fun j _ _ => fillPlace_posting_kept j) waits

theorem SlotRanks.fillPlaces {s : State} (ranks : SlotRanks s) : SlotRanks (fillPlaces s) :=
  forEach_keeps (P := SlotRanks) (fun j _ _ before => before.fillPlace j) ranks

/-! ### The grant (R165) -/

theorem rotationPick_none {s : State} {r : Rank} (h : rotationPick s r = none) (i : Slot) : competes s r i = false := by
  unfold rotationPick at h
  dsimp only at h
  split at h
  · cases h
  · next above =>
    have above := (find_indices_none _).mp above i
    have below := (find_indices_none _).mp h i
    obtain beyond | within := lt_or_ge (s.pointers.at r) i
    · simpa [beyond] using above
    · simpa [within] using below

theorem rotationPick_competes {s : State} {r : Rank} {i : Slot} (h : rotationPick s r = some i) :
    competes s r i = true := by
  unfold rotationPick at h
  dsimp only at h
  split at h
  · next j above =>
    cases h
    simpa using And.right (by simpa using List.find?_some above)
  · exact And.right (by simpa using List.find?_some h)

theorem grantChoice_waits {s : State} {r : Rank} {i : Slot} (h : grantChoice s = some (r, i)) :
    ∃ p, s.board[i] = some p := by
  obtain ⟨q, -, pick⟩ := List.exists_of_findSome?_eq_some h
  obtain ⟨j, pick, same⟩ := Option.map_eq_some_iff.mp pick
  cases same
  have waits := rotationPick_competes pick
  unfold competes at waits
  cases place : s.board[i] with
  | none => simp [place] at waits
  | some p => exact ⟨p, rfl⟩

theorem SlotRanks.board_none {s : State} (ranks : SlotRanks s) (noChoice : grantChoice s = none) (i : Slot) :
    s.board[i] = none := by
  by_contra waits
  obtain ⟨p, waits⟩ := Option.ne_none_iff_exists'.mp waits
  have listed : p.effectiveRank ∈ [Rank.panel, .scanner, .printer, .probe] := by
    have rank := ranks i p waits
    unfold Posting.effectiveRank
    split_ifs
    · simp
    · cases h : p.rank <;> simp_all
  have pick := List.findSome?_eq_none_iff.mp noChoice _ listed
  have idle := rotationPick_none (Option.map_eq_none_iff.mp pick) i
  simp [competes, waits] at idle

/-- A grant leaves the state, or takes the service posting, or takes a slot's posting; it leaves the state when the
controller is not IDLE, or the board holds no posting it can take. -/
theorem grant_cases (s : State) :
    grant s = s ∧ (s.bus = .idle → s.servicePlace = none ∧ grantChoice s = none) ∨
      s.bus = .idle ∧ ((∃ p, grant s = grantService p s) ∨ ∃ r i p, grant s = grantSlot r i p s) := by
  unfold grant
  split
  · next bus =>
    split
    · next p _ => exact .inr ⟨bus, .inl ⟨p, rfl⟩⟩
    · next service =>
      cases choice : grantChoice s with
      | none => exact .inl ⟨rfl, fun _ => ⟨service, rfl⟩⟩
      | some ri =>
        obtain ⟨r, i⟩ := ri
        obtain ⟨p, waits⟩ := grantChoice_waits choice
        dsimp only
        rw [waits]
        exact .inr ⟨bus, .inr ⟨r, i, p, rfl⟩⟩
  · next busy => exact .inl ⟨rfl, fun idle => absurd idle busy⟩

theorem grant_busy {s : State} (busy : s.bus ≠ .idle) : grant s = s := by
  obtain ⟨same, -⟩ | ⟨idle, -⟩ := grant_cases s
  · exact same
  · exact absurd idle busy

theorem grantSlot_bus (r : Rank) (i : Slot) (p : Posting) (s : State) : (grantSlot r i p s).bus =
    .running (p.start (some i) (if p.owner = .cause then (s.attn[i]).capture else 0) s.hubTime) := by
  unfold grantSlot
  dsimp only
  split <;> rfl

theorem grant_idle {s : State} (idle : (grant s).bus = .idle) :
    grant s = s ∧ s.servicePlace = none ∧ grantChoice s = none := by
  obtain ⟨same, left⟩ | ⟨-, ⟨p, taken⟩ | ⟨r, i, p, taken⟩⟩ := grant_cases s
  · exact ⟨same, left (same ▸ idle)⟩
  · rw [taken] at idle
    cases idle
  · rw [taken, grantSlot_bus] at idle
    cases idle

theorem grantSlot_callDue {s : State} {j : Slot} (r : Rank) (i : Slot) (p : Posting)
    (quiet : (lineActive s j && !(s.attn[j]).pending) = false) : callDue (grantSlot r i p s) j = false := by
  unfold grantSlot
  dsimp only
  by_cases poll : p.owner = .cause
  · rw [if_pos poll]
    by_cases here : i = j
    · subst here
      simp [callDue, pollInFlight, Posting.start, poll]
    · simp only [callDue, modAttn_attn, upd_get_ne _ _ _ _ here]
      exact Bool.and_eq_false_imp.mpr fun due => absurd (quiet.symm.trans due) Bool.false_ne_true
  · rw [if_neg poll]
    exact Bool.and_eq_false_imp.mpr fun due => absurd (quiet.symm.trans due) Bool.false_ne_true

/-- A grant latches no call, and gives none to latch: a granted cause poll clears a pending flag, and is in flight. -/
theorem callDue_grant {s : State} {i : Slot} (quiet : callDue s i = false) : callDue (grant s) i = false := by
  obtain ⟨same, -⟩ | ⟨idle, granted⟩ := grant_cases s
  · rwa [same]
  · have quiet : (lineActive s i && !(s.attn[i]).pending) = false := by
      have noPoll : pollInFlight s i = false := by simp [pollInFlight, idle]
      simpa [callDue, noPoll] using quiet
    obtain ⟨p, taken⟩ | ⟨r, j, p, taken⟩ := granted
    · rw [taken]
      exact Bool.and_eq_false_imp.mpr fun due => absurd (quiet.symm.trans due) Bool.false_ne_true
    · rw [taken]
      exact grantSlot_callDue r j p quiet

/-! ### The unit bus at the end of an event -/

theorem settleBus_eq (s : State) : settleBus s = fillPlaces (grant (fillPlaces (levelRules s))) := rfl

theorem settleBus_fillPlace (s : State) (i : Slot) : fillPlace i (settleBus s) = settleBus s := fillPlaces_still i _

theorem settleBus_levelRule (s : State) (i : Slot) : levelRule i (settleBus s) = settleBus s := by
  have latched := levelRule_still.mp (levelRules_still i s)
  rw [settleBus_eq, levelRule_still, fillPlaces_field (callDue · i)]
  exact callDue_grant ((fillPlaces_field (callDue · i) _).trans latched)

theorem settleBus_jobs (s : State) (id : Nat) : JobStarted (job? s id) (job? (settleBus s) id) := by
  have first := fillPlaces_jobs (levelRules s) id
  have second := fillPlaces_jobs (grant (fillPlaces (levelRules s))) id
  have granted := field_of_frame (job? · id) offGrant (grant_frame _ (fillPlaces (levelRules s)))
  rw [levelRules_field (job? · id)] at first
  rw [granted] at second
  exact first.trans second

/-- With a transaction in flight, or while the bus recovers, the end of an event posts and does no more on the bus. -/
theorem settleBus_busy {s : State} (busy : s.bus ≠ .idle) : settleBus s = fillPlaces (fillPlaces (levelRules s)) := by
  rw [settleBus_eq, grant_busy]
  rwa [fillPlaces_field State.bus, levelRules_field State.bus]

theorem settleBus_kept {s : State} (busy : s.bus ≠ .idle) : (settleBus s).bus = s.bus ∧
    (settleBus s).servicePlace = s.servicePlace ∧ (settleBus s).pointers = s.pointers ∧
    ∀ (i : Slot) (p : Posting), s.board[i] = some p → (settleBus s).board[i] = some p := by
  rw [settleBus_busy busy]
  simp only [fillPlaces_field State.bus, fillPlaces_field State.servicePlace, fillPlaces_field State.pointers]
  exact ⟨levelRules_field State.bus s, levelRules_field State.servicePlace s, levelRules_field State.pointers s,
    fun i _ waits => fillPlaces_posting_kept (fillPlaces_posting_kept
      ((levelRules_field (fun t => t.board[i]) s).trans waits))⟩

/-- A controller that is left IDLE has nothing to grant (R165). -/
theorem settleBus_idle {s : State} (ranks : SlotRanks s) (idle : (settleBus s).bus = .idle) :
    (settleBus s).servicePlace = none ∧ ∀ i : Slot, (settleBus s).board[i] = none := by
  have posted : SlotRanks (fillPlaces (levelRules s)) :=
    SlotRanks.fillPlaces ((levelRules_field SlotRanks s).mpr ranks)
  rw [settleBus_eq, fillPlaces_field State.bus] at idle
  obtain ⟨same, service, noChoice⟩ := grant_idle idle
  have still : fillPlaces (fillPlaces (levelRules s)) = fillPlaces (levelRules s) :=
    forEach_still _ fun i => fillPlaces_still i _
  rw [settleBus_eq, same, still]
  exact ⟨service, posted.board_none noChoice⟩

/-! ### The transmitters (R189) -/

/-- A transmitter has no frame to start: it is sending, or nothing waits for it (R189). -/
def Silent (s : State) (l : Link) : Prop :=
  (s.links[l]).sending.isSome ∨ (s.links[l]).replies = [] ∧ ∀ k, kioskOf l = some k →
    (s.notices[k]).forced = none ∧ noticeDue s.notices[k] (s.kiosks[k]).maintenance = false ∧
      (s.kiosks[k]).scan = [] ∧ (s.kiosks[k]).touch = []

/-- t is s with a frame on its way out on a link that was free, taken from what waits for that link. -/
structure FrameStarted (l : Link) (s t : State) : Prop where
  free : (s.links[l]).sending = none
  sends : ∃ replies f, t.links[l] = { s.links[l] with replies := replies, sending := some f }
  links : ∀ m : Link, m ≠ l → t.links[m] = s.links[m]
  notices : ∀ k, kioskOf l ≠ some k → t.notices[k] = s.notices[k]
  kiosks : ∀ k, kioskOf l ≠ some k → t.kiosks[k] = s.kiosks[k]
  settings : ∀ k : Kiosk, (t.kiosks[k]).maintenance = (s.kiosks[k]).maintenance ∧
    (t.notices[k]).hold = (s.notices[k]).hold ∧ (t.notices[k]).mask = (s.notices[k]).mask

section
variable {l : Link} {s : State} (free : (s.links[l]).sending = none)
include free

theorem sendReply_started (r : Reply) : FrameStarted l s (sendReply l r s) where
  free := free
  sends := ⟨(s.links[l]).replies.tail, { slot := some r.slot, bytes := frameBytes r.kind r.tag r.payload }, by
    unfold sendReply send
    rw [modLink_links, modLink_links, upd_upd, upd_get_self]⟩
  links m other := by
    unfold sendReply send
    rw [modLink_links, modLink_links, upd_upd, upd_get_ne _ _ _ _ other.symm]
  notices _ _ := rfl
  kiosks _ _ := rfl
  settings _ := ⟨rfl, rfl, rfl⟩

/-- A frame nobody asked for starts: something of its own kiosk's notices and queues changes, no setting of them. -/
theorem send_started {k : Kiosk} (on : kioskOf l = some k) {f : NoticeState → NoticeState} {g : KioskLink → KioskLink}
    (hold : ∀ n, (f n).hold = n.hold) (mask : ∀ n, (f n).mask = n.mask)
    (maintenance : ∀ q, (g q).maintenance = q.maintenance) (bytes : List Byte) :
    FrameStarted l s (send l none bytes (modNotice k f (modKiosk k g s))) where
  free := free
  sends := ⟨(s.links[l]).replies, _, upd_get_self ..⟩
  links m other := upd_get_ne _ _ _ _ other.symm
  notices m other := upd_get_ne _ _ _ _ fun same => other (same ▸ on)
  kiosks m other := upd_get_ne _ _ _ _ fun same => other (same ▸ on)
  settings m := by
    show ((upd s.kiosks k g)[m]).maintenance = _ ∧ ((upd s.notices k f)[m]).hold = _ ∧ ((upd s.notices k f)[m]).mask = _
    rw [upd_get, upd_get]
    split_ifs
    · exact ⟨maintenance _, hold _, mask _⟩
    · exact ⟨rfl, rfl, rfl⟩

theorem chooseUnasked_cases {k : Kiosk} (on : kioskOf l = some k) :
    ((s.notices[k]).forced = none ∧ noticeDue s.notices[k] (s.kiosks[k]).maintenance = false ∧
      (s.kiosks[k]).scan = [] ∧ (s.kiosks[k]).touch = []) ∧ chooseUnasked l k s = s ∨
    FrameStarted l s (chooseUnasked l k s) := by
  have notice (f : NoticeState → NoticeState) (hold : ∀ n, (f n).hold = n.hold) (mask : ∀ n, (f n).mask = n.mask)
      (bytes : List Byte) : FrameStarted l s (send l none bytes (modNotice k f s)) := by
    have started := send_started free on (g := id) hold mask (fun _ => rfl) bytes
    have same : modKiosk k id s = s := congrArg (fun v => { s with kiosks := v }) (upd_same _ _ _ rfl)
    rwa [same] at started
  have queued (g : KioskLink → KioskLink) (maintenance : ∀ q, (g q).maintenance = q.maintenance) (bytes : List Byte) :
      FrameStarted l s (send l none bytes (modKiosk k g s)) := by
    have started := send_started free on (f := id) (fun _ => rfl) (fun _ => rfl) maintenance bytes
    have same : modNotice k id (modKiosk k g s) = modKiosk k g s :=
      congrArg (fun v => { modKiosk k g s with notices := v }) (upd_same _ _ _ rfl)
    rwa [same] at started
  unfold chooseUnasked
  dsimp only
  split
  · exact .inr (notice (fun n => { n with forced := none }) (fun _ => rfl) (fun _ => rfl) _)
  · next forced =>
    split_ifs with due
    · exact .inr (notice (fun n => noticeBuilt n (carried s.notices[k] (s.kiosks[k]).maintenance)) (fun _ => rfl)
        (fun _ => rfl) _)
    · split
      · exact .inr (queued (fun q => { q with scan := q.scan.tail, streak := 0 }) (fun _ => rfl) _)
      · exact .inr (queued (fun q => { q with touch := q.touch.tail, gap := false, streak := min 4 (q.streak + 1) })
          (fun _ => rfl) _)
      · exact .inr (queued (fun q => { q with scan := q.scan.tail, streak := 0 }) (fun _ => rfl) _)
      · next scan touch => exact .inl ⟨⟨forced, Bool.eq_false_iff.mpr due, scan, touch⟩, rfl⟩

end

/-- A transmitter starts a frame, or has none to start and changes nothing. -/
theorem transmit_cases (l : Link) (s : State) :
    Silent s l ∧ transmit l s = s ∨ FrameStarted l s (transmit l s) := by
  unfold transmit
  split_ifs with busy
  · exact .inl ⟨.inl busy, rfl⟩
  · have free : (s.links[l]).sending = none := by simpa using busy
    split
    · next r _ _ => exact .inr (sendReply_started free r)
    · next unasked =>
      cases on : kioskOf l with
      | none => exact .inl ⟨.inr ⟨unasked, fun k onKiosk => by cases on.symm.trans onKiosk⟩, rfl⟩
      | some k =>
        obtain ⟨idle, same⟩ | started := chooseUnasked_cases free on
        · exact .inl ⟨.inr ⟨unasked, fun m onKiosk => by cases on.symm.trans onKiosk; exact idle⟩, same⟩
        · exact .inr started

theorem transmit_silent {s : State} {l : Link} (silent : Silent s l) : transmit l s = s := by
  obtain busy | ⟨unasked, idle⟩ := silent
  · exact if_pos busy
  · unfold transmit
    split_ifs
    · rfl
    · rw [unasked]
      cases on : kioskOf l with
      | none => rfl
      | some k =>
        obtain ⟨forced, due, scan, touch⟩ := idle k on
        show chooseUnasked l k s = s
        unfold chooseUnasked
        dsimp only
        rw [forced, due, scan, touch]
        cases decide ((s.kiosks[k]).streak = 4) <;> rfl

theorem transmit_still {s : State} {l : Link} : transmit l s = s ↔ Silent s l := by
  refine ⟨fun same => ?_, transmit_silent⟩
  obtain ⟨silent, -⟩ | started := transmit_cases l s
  · exact silent
  · obtain ⟨replies, f, sends⟩ := started.sends
    have sending := congrArg LinkState.sending sends
    rw [same, started.free] at sending
    cases sending

theorem kioskOf_apart {l m : Link} {k : Kiosk} (on : kioskOf l = some k) (other : l ≠ m) : kioskOf m ≠ some k := by
  intro same
  unfold kioskOf index? at on same
  split_ifs at on same
  exact other (Fin.ext (Fin.mk.inj (Option.some.inj (on.trans same.symm))))

theorem transmit_once (l : Link) (s : State) : transmit l (transmit l s) = transmit l s := by
  obtain ⟨-, same⟩ | started := transmit_cases l s
  · rw [same, same]
  · obtain ⟨replies, f, sends⟩ := started.sends
    exact transmit_still.mpr (.inl (by rw [sends]; rfl))

theorem transmit_apart (l m : Link) (s : State) (other : l ≠ m) (still : transmit l s = s) :
    transmit l (transmit m s) = transmit m s := by
  obtain ⟨-, same⟩ | started := transmit_cases m s
  · rw [same, still]
  · rw [transmit_still] at still ⊢
    unfold Silent at still ⊢
    rw [started.links l other]
    refine still.imp_right fun ⟨unasked, idle⟩ => ⟨unasked, fun k on => ?_⟩
    rw [started.notices k (kioskOf_apart on other), started.kiosks k (kioskOf_apart on other)]
    exact idle k on

/-- The choices of every transmitter (R189). -/
def transmitAll (s : State) : State := forEach (indices 9) transmit s

theorem transmitAll_still (l : Link) (s : State) : transmit l (transmitAll s) = transmitAll s :=
  forEach_done transmit_once transmit_apart (mem_indices l) s

/-- What the transmitters leave: all that does not look at the links and at the kiosks' queues and notices. -/
theorem transmitAll_field {α : Type} (field : State → α) (s : State)
    (blind : ∀ base u, field (offLinks base u) = field u := by exact fun _ _ => rfl) :
    field (transmitAll s) = field s :=
  field_of_frame field offLinks (forEach_frame (offLinks s) (transmit_frame s) _ s) blind

/-- What a transmitter's choice leaves of every link and of every kiosk's settings, frames on their way out included. -/
structure ReceiversKept (s t : State) : Prop where
  link : ∀ l : Link, (t.links[l]).receiver = (s.links[l]).receiver ∧ (t.links[l]).requests = (s.links[l]).requests ∧
    (t.links[l]).lenOverlong = (s.links[l]).lenOverlong ∧ (t.links[l]).check = (s.links[l]).check ∧
    (t.links[l]).dropped = (s.links[l]).dropped
  kiosk : ∀ k : Kiosk, (t.kiosks[k]).maintenance = (s.kiosks[k]).maintenance ∧
    (t.notices[k]).hold = (s.notices[k]).hold ∧ (t.notices[k]).mask = (s.notices[k]).mask
  sending : ∀ (l : Link) (f : Sending), (s.links[l]).sending = some f → (t.links[l]).sending = some f

theorem ReceiversKept.of_same {s t : State} (links : t.links = s.links) (kiosks : t.kiosks = s.kiosks)
    (notices : t.notices = s.notices) : ReceiversKept s t := by
  refine ⟨fun l => ?_, fun k => ?_, fun l f => ?_⟩
  · rw [links]
    exact ⟨rfl, rfl, rfl, rfl, rfl⟩
  · rw [kiosks, notices]
    exact ⟨rfl, rfl, rfl⟩
  · rw [links]
    exact id

theorem ReceiversKept.trans {s t u : State} (first : ReceiversKept s t) (second : ReceiversKept t u) :
    ReceiversKept s u := by
  refine ⟨fun l => ?_, fun k => ?_, fun l f sends => second.sending l f (first.sending l f sends)⟩
  · obtain ⟨receiver, requests, overlong, check, dropped⟩ := second.link l
    rw [receiver, requests, overlong, check, dropped]
    exact first.link l
  · obtain ⟨maintenance, hold, mask⟩ := second.kiosk k
    rw [maintenance, hold, mask]
    exact first.kiosk k

theorem FrameStarted.kept {l : Link} {s t : State} (started : FrameStarted l s t) : ReceiversKept s t := by
  obtain ⟨replies, f, sends⟩ := started.sends
  refine ⟨fun m => ?_, started.settings, fun m g sending => ?_⟩
  · by_cases here : m = l
    · subst here
      rw [sends]
      exact ⟨rfl, rfl, rfl, rfl, rfl⟩
    · rw [started.links m here]
      exact ⟨rfl, rfl, rfl, rfl, rfl⟩
  · by_cases here : m = l
    · subst here
      cases started.free.symm.trans sending
    · rw [started.links m here, sending]

theorem transmitAll_kept (s : State) : ReceiversKept s (transmitAll s) := by
  refine forEach_keeps (P := ReceiversKept s) (fun l _ t kept => kept.trans ?_) (.of_same rfl rfl rfl)
  obtain ⟨-, same⟩ | started := transmit_cases l t
  · exact .of_same (by rw [same]) (by rw [same]) (by rw [same])
  · exact started.kept

/-! ### The end of an event -/

theorem settle_eq {s : State} (running : s.phase = .running) : settle s = transmitAll (settleBus s) :=
  settle_running s running

/-- Outside phase running the end of an event is at most the level rules. -/
theorem settle_resetting {s : State} (resetting : s.phase ≠ .running) : settle s = s ∨ settle s = levelRules s := by
  unfold settle
  split
  · exact .inl rfl
  · exact .inr rfl
  · next running => exact absurd running resetting

theorem settle_attn_alone {s : State} (resetting : s.phase ≠ .running) :
    settle s = { s with attn := (settle s).attn } := by
  obtain same | same := settle_resetting resetting
  · rw [same]
  · rw [same]
    exact levelRules_attn_alone s

theorem settle_jobs (s : State) (id : Nat) : JobStarted (job? s id) (job? (settle s) id) := by
  by_cases running : s.phase = .running
  · rw [settle_eq running, transmitAll_field (job? · id)]
    exact settleBus_jobs s id
  · rw [settle_attn_alone running]
    exact .inl rfl

theorem settle_kept (s : State) : ReceiversKept s (settle s) := by
  by_cases running : s.phase = .running
  · have bus := settleBus_frame s s
    rw [settle_eq running]
    exact (ReceiversKept.of_same (field_of_frame State.links offBus bus) (field_of_frame State.kiosks offBus bus)
      (field_of_frame State.notices offBus bus)).trans (transmitAll_kept (settleBus s))
  · rw [settle_attn_alone running]
    exact .of_same rfl rfl rfl

theorem settle_levelRule {s : State} (notFull : s.phase ≠ .full) (i : Slot) : levelRule i (settle s) = settle s := by
  unfold settle
  split
  · next full => exact absurd full notFull
  · exact levelRules_still i s
  · have still := levelRule_still.mp (settleBus_levelRule s i)
    exact levelRule_still.mpr ((transmitAll_field (callDue · i) _).trans still)

theorem settle_fillPlace {s : State} (running : s.phase = .running) (i : Slot) : fillPlace i (settle s) = settle s := by
  have still := fillPlace_still.mp (settleBus_fillPlace s i)
  rw [settle_eq running]
  exact fillPlace_still.mpr ((transmitAll_field (owed · i) _).trans still)

/-- The transmitters leave the unit bus as it is. -/
theorem settle_bus {s : State} (running : s.phase = .running) : (settle s).bus = (settleBus s).bus ∧
    (settle s).servicePlace = (settleBus s).servicePlace ∧ (settle s).pointers = (settleBus s).pointers ∧
    (settle s).board = (settleBus s).board := by
  rw [settle_eq running]
  exact ⟨transmitAll_field State.bus _, transmitAll_field State.servicePlace _, transmitAll_field State.pointers _,
    transmitAll_field State.board _⟩

end Sys2Proof.Machine

open Sys2Proof Sys2Proof.Machine

/-- Settles O15: the loops of the end of an event leave no step to take, each keeps what those before it have done, and what
it leaves alone is read off its frame. -/
theorem endOfEventFrame : Obligations.EndOfEventFrame := by
  unfold Obligations.EndOfEventFrame
  rintro s t rfl
  have left {α : Type} (field : State → α)
      (blind : ∀ base u, field (offSettle base u) = field u := by exact fun _ _ => rfl) :
      field (settle s) = field s := field_of_frame field offSettle (settle_frame s s) blind
  have kept := settle_kept s
  refine ⟨fun running => settle_eq running, fun r b soft => settle_soft s r b soft, ?_, ?_, ?_, ?_, settle_jobs s, kept.link,
    kept.kiosk, settle_attn_alone, settle_full s, settle_levelRule, fun running => ⟨settle_fillPlace running, fun l => ?_,
      fun law idle => ?_⟩, fun busy => ?_, kept.sending⟩
  case refine_1 =>
    exact ⟨left State.pending, left State.hubTime, left State.phase, left State.resetLow, left State.powerOnHold,
      left State.attnLine, left State.freeDrawn⟩
  case refine_2 =>
    exact ⟨left State.zones, left State.contacts, left State.ignored, left State.claims, left State.waits,
      left State.nextClaim⟩
  case refine_3 =>
    exact ⟨left State.spool, left State.free, left State.terminal, left State.printQueue, left State.nextJob,
      left State.kioskSpool, left State.fillLimit⟩
  case refine_4 => exact ⟨left State.units, left State.busRaw⟩
  case refine_5 =>
    rw [settle_eq running]
    exact transmitAll_still l _
  case refine_6 =>
    obtain ⟨bus, service, -, board⟩ := settle_bus running
    rw [bus] at idle
    rw [service, board]
    exact settleBus_idle (fun i p waits => (law.1 i p waits).2) idle
  case refine_7 =>
    by_cases running : s.phase = .running
    · obtain ⟨bus, service, pointers, board⟩ := settle_bus running
      rw [bus, service, pointers, board]
      exact settleBus_kept busy
    · rw [settle_attn_alone running]
      exact ⟨rfl, rfl, rfl, fun _ _ => id⟩
end

section
/-!
PROOFS. SCAN START (R121, R122), SCAN CREDIT (R128) and SCAN STOP (R129), each case as an equation of its block.
-/

namespace Sys2Proof.Machine

variable {s : State} {k : Kiosk} {i : Slot} {slot : Byte}

/-! ### SCAN START: the settings and the bed (R121, R122) -/

theorem scanMode_eq_some {b : Byte} {m : ScanMode} : scanMode? b = some m ↔ m.code = b.toNat := by
  unfold scanMode?
  split_ifs with gray colour line
  · subst gray; cases m <;> decide
  · subst colour; cases m <;> decide
  · subst line; cases m <;> decide
  · refine iff_of_false nofun fun code => ?_
    cases m
    · exact gray (BitVec.eq_of_toNat_eq code.symm)
    · exact colour (BitVec.eq_of_toNat_eq code.symm)
    · exact line (BitVec.eq_of_toNat_eq code.symm)

theorem scanMode_eq_none {b : Byte} : scanMode? b = none ↔ b = 0 ∨ 3 < b.toNat := by
  rw [Option.eq_none_iff_forall_ne_some]
  constructor
  · intro unnamed
    have noCode (m : ScanMode) : m.code ≠ b.toNat := fun code => unnamed m (scanMode_eq_some.mpr code)
    have gray : 1 ≠ b.toNat := noCode .gray8
    have colour : 2 ≠ b.toNat := noCode .colour24
    have line : 3 ≠ b.toNat := noCode .line1
    bv_omega
  · rintro out m found
    have code := scanMode_eq_some.mp found
    have range : 1 ≤ m.code ∧ m.code ≤ 3 := by cases m <;> decide
    bv_omega

/-- The last case of R121. -/
theorem badSettings_iff (g : ScanSettings) (size : Nat × Nat) : badSettings g size = true ↔
    g.resolution = 0 ∨ 4 < g.resolution.toNat ∨ g.mode = 0 ∨ 3 < g.mode.toNat ∨ g.w = 0 ∨ g.h = 0 ∨ size.1 = 0 ∨
      size.2 = 0 := by
  have zero : g.resolution.toNat < 1 ↔ g.resolution = 0 := by bv_omega
  simp only [badSettings, Bool.or_eq_true, decide_eq_true_eq, Option.isNone_iff_eq_none, scanMode_eq_none, zero,
    or_assoc]

theorem clampOrigin_eq {v size : Nat} (room : 0 < size) : clampOrigin v size = min v (size - 1) := by
  unfold clampOrigin
  split_ifs <;> omega

theorem clampExtent_eq (v origin size : Nat) : clampExtent v origin size = min v (size - origin) := by
  unfold clampExtent
  split_ifs <;> omega

section
variable {r q : ScanRecord} {claim x y : Nat} {g : ScanSettings} {m : ScanMode} {size : Nat × Nat}

theorem badSettings_eq_false (resLow : 1 ≤ g.resolution.toNat) (resHigh : g.resolution.toNat ≤ 4)
    (code : m.code = g.mode.toNat) (w : g.w ≠ 0) (h : g.h ≠ 0) (wide : 0 < size.1) (high : 0 < size.2) :
    badSettings g size = false := by
  have mode : ¬(g.mode = 0 ∨ 3 < g.mode.toNat) := by
    rw [← scanMode_eq_none, scanMode_eq_some.mpr code]
    nofun
  rw [← Bool.not_eq_true, badSettings_iff]
  rintro (zero | big | zero | big | zero | zero | zero | zero)
  · exact absurd resLow (by simp [zero])
  · exact absurd resHigh (Nat.not_le.mpr big)
  · exact mode (.inl zero)
  · exact mode (.inr big)
  · exact w zero
  · exact h zero
  · exact wide.ne' zero
  · exact high.ne' zero

/-- The record of R122 is the one with each clamp a minimum. -/
theorem eq_startRecord (wide : 0 < size.1) (high : 0 < size.2) (hx : x = min g.x.toNat (size.1 - 1))
    (hy : y = min g.y.toNat (size.2 - 1)) (record : q = { r with
      state := .preparing, setup := some .sset, ownerClaim := some claim, kiosk := some k, lastKiosk := some k
      x := x, y := y, w := min g.w.toNat (size.1 - x), h := min g.h.toNat (size.2 - y)
      resolution := g.resolution.toNat, mode := m, credit := min 32 g.credit.toNat, nextSeq := 0, delivered := 0
      available := 0, total := none, haltOutcome := none, lastOutcome := .none, availWanted := false
      stateWanted := false, haltOwed := false }) : q = startRecord r claim k g m size := by
  subst hx hy record
  simp only [startRecord, clampOrigin_eq wide, clampOrigin_eq high, clampExtent_eq]

end

/-! ### SCAN START: its cases (R121) -/

section
variable {g : ScanSettings}

theorem scanStartBlock_badArg (out : 11 < slot.toNat) : scanStartBlock slot g k s = (s, reply .badArg []) := by
  have noSlot : index? 12 slot.toNat = none := index_eq_none.mpr out
  simp only [scanStartBlock, noSlot]

variable (named : slot.toNat = i.val)
include named

theorem scanStartBlock_noSuch (kind : definedKind s i ≠ some .scanner) :
    scanStartBlock slot g k s = (s, reply .noSuch []) := by
  simp only [scanStartBlock, named, index_val, if_pos kind]

variable (kind : definedKind s i = some .scanner)
include kind

theorem scanStartBlock_notYours (noClaim : claimOf? s k (.scanner i) = none) :
    scanStartBlock slot g k s = (s, reply .notYours []) := by
  simp only [scanStartBlock, named, index_val, kind, noClaim, ne_eq, not_true_eq_false, if_false]

variable {c : Claim} (own : claimOf? s k (.scanner i) = some c)
include own

/-- The cases of R121 that are left for a kiosk with a claim on the scanner, in their order. -/
theorem scanStartBlock_claimed : scanStartBlock slot g k s =
    if !c.held then (s, reply .badState (u8 c.stateCode))
    else if (s.scans[i]).state ≠ .idle then (s, reply .badState (u8 (s.scans[i]).state.code))
    else if !isReady s i then (s, reply .busy (u8 1))
    else if 0 < framesWaiting s k i then (s, reply .busy (u8 2))
    else if badSettings g (bed s i) then (s, reply .badArg [])
    else
      let q := startRecord s.scans[i] c.id k g ((scanMode? g.mode).getD .gray8) (bed s i)
      (modScan i (fun _ => q) s, reply .ok (settingsBytes q)) := by
  simp only [scanStartBlock, named, index_val, kind, own, ne_eq, not_true_eq_false, if_false]

theorem scanStartBlock_waiting (waits : c.held = false) : scanStartBlock slot g k s = (s, reply .badState [1]) := by
  rw [scanStartBlock_claimed named kind own, Claim.stateCode, waits]
  rfl

variable (held : c.held = true)
include held

theorem scanStartBlock_active (active : (s.scans[i]).state ≠ .idle) :
    scanStartBlock slot g k s = (s, reply .badState (u8 (s.scans[i]).state.code)) := by
  rw [scanStartBlock_claimed named kind own, held]
  exact if_pos active

variable (idle : (s.scans[i]).state = .idle)
include idle

theorem scanStartBlock_notReady (away : isReady s i = false) : scanStartBlock slot g k s = (s, reply .busy [1]) := by
  rw [scanStartBlock_claimed named kind own, held, idle, away]
  rfl

variable (ready : isReady s i = true)
include ready

theorem scanStartBlock_framesLeft (left : 0 < framesWaiting s k i) :
    scanStartBlock slot g k s = (s, reply .busy [2]) := by
  rw [scanStartBlock_claimed named kind own, held, idle, ready]
  exact if_pos left

variable (clear : framesWaiting s k i = 0)
include clear

theorem scanStartBlock_badSettings (bad : badSettings g (bed s i) = true) :
    scanStartBlock slot g k s = (s, reply .badArg []) := by
  rw [scanStartBlock_claimed named kind own, held, idle, ready, clear, bad]
  rfl

theorem scanStartBlock_starts (good : badSettings g (bed s i) = false) {m : ScanMode} (mode : m.code = g.mode.toNat)
    {q : ScanRecord} (started : q = startRecord s.scans[i] c.id k g m (bed s i)) :
    scanStartBlock slot g k s = (modScan i (fun _ => q) s, reply .ok (settingsBytes q)) := by
  rw [scanStartBlock_claimed named kind own, held, idle, ready, clear, good, scanMode_eq_some.mpr mode, started]
  rfl

end

/-! ### The cases SCAN CREDIT and SCAN STOP share (R128, R129) -/

section
variable {f : Slot → State × List Byte}

theorem onScan_badArg (out : 11 < slot.toNat) : onScan slot k s f = (s, reply .badArg []) := by
  have noSlot : index? 12 slot.toNat = none := index_eq_none.mpr out
  simp only [onScan, noSlot]

variable (named : slot.toNat = i.val)
include named

theorem onScan_noSuch (kind : definedKind s i ≠ some .scanner) : onScan slot k s f = (s, reply .noSuch []) := by
  simp only [onScan, named, index_val, if_pos kind]

variable (kind : definedKind s i = some .scanner)
include kind

theorem onScan_idle (idle : (s.scans[i]).state = .idle) : onScan slot k s f = (s, reply .badState [0]) := by
  simp only [onScan, named, index_val, kind, idle, ne_eq, not_true_eq_false, if_false, if_true]
  rfl

variable (active : (s.scans[i]).state ≠ .idle)
include active

theorem onScan_notYours (other : (s.scans[i]).kiosk ≠ some k) : onScan slot k s f = (s, reply .notYours []) := by
  simp only [onScan, named, index_val, kind, ne_eq, not_true_eq_false, if_false, if_neg active, if_pos other]

theorem onScan_own (own : (s.scans[i]).kiosk = some k) : onScan slot k s f = f i := by
  simp only [onScan, named, index_val, kind, own, ne_eq, not_true_eq_false, if_false, if_neg active]

end

/-! ### SCAN CREDIT: the credit (R128) -/

theorem grantedCredit_bounded {credit waiting : Nat} (n : Nat) (fits : credit + waiting ≤ 32) :
    grantedCredit credit n waiting + waiting ≤ 32 := by
  unfold grantedCredit
  split_ifs <;> omega

theorem grantedCredit_whole {credit n waiting : Nat} (fits : credit + n + waiting ≤ 32) :
    grantedCredit credit n waiting = credit + n := by
  unfold grantedCredit
  split_ifs <;> omega

theorem grantedCredit_cut {credit n waiting : Nat} (past : 32 < credit + n + waiting) :
    grantedCredit credit n waiting = max credit (32 - waiting) := by
  unfold grantedCredit
  split_ifs <;> omega

/-! ### SCAN STOP of a kiosk's own scan (R129) -/

section
variable (named : slot.toNat = i.val) (kind : definedKind s i = some .scanner) (own : (s.scans[i]).kiosk = some k)
include named kind own

theorem scanStopBlock_halting (halting : (s.scans[i]).state = .halting) :
    scanStopBlock slot k s = (s, reply .badState [4]) :=
  (onScan_own named kind (by rw [halting]; nofun) own).trans (if_pos halting)

theorem scanStopBlock_stops (active : (s.scans[i]).state ≠ .idle) (stops : (s.scans[i]).state ≠ .halting) :
    scanStopBlock slot k s = (haltScan i .cancelled s, reply .ok []) :=
  (onScan_own named kind active own).trans (if_neg stops)

end

end Sys2Proof.Machine

open Sys2Proof Sys2Proof.Machine

/-- Settles O49: each case of SCAN START is one of its block, and the record is that of R122, each clamp a minimum. -/
theorem scanStartCases : Obligations.ScanStartCases := by
  unfold Obligations.ScanStartCases
  refine ⟨fun s i => ⟨fun absent => by simp only [bed, absent], fun v known => by simp only [bed, known]⟩,
    fun q => by simp only [settingsBytes, ssetBytes, u8, List.append_assoc, List.cons_append, List.nil_append],
    fun s l r k tag slot x y w h res mode credit free on normal => ?_⟩
  have starts {t : State} {p : List Byte}
      (block : scanStartBlock slot ⟨x, y, w, h, res, mode, credit⟩ k (taken l r .scanStart tag s) = (t, p)) :
      exec (.scanStart l tag slot x y w h res mode credit) s = .next (answered l r p t) :=
    kioskRequest_answered free on rfl (.inl normal) block
  refine ⟨fun out => starts (scanStartBlock_badArg out), fun i named =>
    ⟨fun kind => starts (scanStartBlock_noSuch named kind), fun kind => ⟨fun noClaim => ?_, fun c own =>
      ⟨fun waits => ?_, fun held active => ?_, fun held idle away => ?_, fun held idle ready =>
        ⟨fun left => ?_, fun clear => ⟨fun bad => ?_, ?_⟩⟩⟩⟩⟩⟩
  case refine_1 => exact starts (scanStartBlock_notYours named kind noClaim)
  case refine_2 => exact starts (scanStartBlock_waiting named kind own waits)
  case refine_3 => exact starts (scanStartBlock_active named kind own held active)
  case refine_4 => exact starts (scanStartBlock_notReady named kind own held idle away)
  case refine_5 => exact starts (scanStartBlock_framesLeft named kind own held idle ready left)
  case refine_6 =>
    exact starts (scanStartBlock_badSettings named kind own held idle ready clear ((badSettings_iff ..).mpr bad))
  case refine_7 =>
    intro resLow resHigh wide high bedWide bedHigh m x' y' q code hx hy record
    exact starts (scanStartBlock_starts (s := taken l r .scanStart tag s) named kind own held idle ready clear
      (badSettings_eq_false resLow resHigh code wide high bedWide bedHigh) code
      (eq_startRecord bedWide bedHigh hx hy record))

/-- Settles O50: the refusals both requests share, then the granted credit, or the halt. -/
theorem scanCreditAndStop : Obligations.ScanCreditAndStop := by
  unfold Obligations.ScanCreditAndStop
  intro s l r k tag slot n free on
  have grants {t : State} {p : List Byte} (block : scanCreditBlock slot n k (taken l r .scanCredit tag s) = (t, p)) :
      exec (.scanCredit l tag slot n) s = .next (answered l r p t) :=
    kioskRequest_answered free on rfl (.inr rfl) block
  have stops {t : State} {p : List Byte} (block : scanStopBlock slot k (taken l r .scanStop tag s) = (t, p)) :
      exec (.scanStop l tag slot) s = .next (answered l r p t) :=
    kioskRequest_answered free on rfl (.inr rfl) block
  refine ⟨fun out => ⟨grants (onScan_badArg out), stops (onScan_badArg out)⟩, fun i named =>
    ⟨fun kind => ⟨grants (onScan_noSuch named kind), stops (onScan_noSuch named kind)⟩, fun kind =>
      ⟨fun idle => ⟨grants (onScan_idle named kind idle), stops (onScan_idle named kind idle)⟩,
        fun active other =>
          ⟨grants (onScan_notYours named kind active other), stops (onScan_notYours named kind active other)⟩,
        fun active own => ⟨?_, fun halting => stops (scanStopBlock_halting named kind own halting),
          fun stoppable => stops (scanStopBlock_stops named kind own active stoppable)⟩⟩⟩⟩
  exact ⟨grantedCredit (s.scans[i]).credit n.toNat (framesWaiting s k i), grants (onScan_own named kind active own),
    grantedCredit_bounded _, grantedCredit_whole, grantedCredit_cut⟩
end

section
/-!
PROOFS. The Scan Engines' transactions (R122 to R129): what an engine makes of each outcome, as an equation of `scanAct`,
and the completion, stall or abort in which it does so.
-/

namespace Sys2Proof.Machine

/-! ### The engine's record -/

theorem scanEnded_scan (i : Slot) (s : State) : (scanEnded i s).scans[i] = { s.scans[i] with outstanding := none } :=
  upd_get_self ..

/-- A change of the record after its transaction has ended is one change. -/
theorem modScan_scanEnded (i : Slot) (f : ScanRecord → ScanRecord) (s : State) :
    modScan i f (scanEnded i s) = modScan i (fun r => f { r with outstanding := none }) s := modScan_modScan ..

theorem ScanState.pulling_iff (st : ScanState) : st.pulling = true ↔ st = .running ∨ st = .ending := by
  cases st <;> decide

theorem discardFrames_scans (k : Option Kiosk) (i : Slot) (s : State) : (discardFrames k i s).scans = s.scans := by
  cases k <;> rfl

theorem discardFrames_modScan (k : Option Kiosk) (i : Slot) (f : ScanRecord → ScanRecord) (s : State) :
    discardFrames k i (modScan i f s) = modScan i f (discardFrames k i s) := by
  cases k <;> rfl

/-! ### What an engine makes of an outcome (R124) -/

/-- The transaction of a setup write. -/
def SetupStep.write : SetupStep → TxnName
  | .sset => .sset
  | .sgo => .sgo

/-- What a setup write that ended OK makes of the record: SSET owes SGO, SGO starts the scan (R122). -/
def SetupStep.written (x : SetupStep) (r : ScanRecord) : ScanRecord :=
  match x with
  | .sset => { r with setup := some .sgo }
  | .sgo => { r with setup := none, state := .running }

section
variable {s : State} {i : Slot} {o : BusOutcome} {d : List Byte}

/-! #### The setup writes (R122) -/

theorem setupFailed_scanEnded : setupFailed i (scanEnded i s) =
    latch? (s.scans[i]).kiosk .scanFailed { s with
      scans := upd s.scans i fun q => { q with
        outstanding := none, state := .idle, lastOutcome := .unitFault, ownerClaim := none, kiosk := none, credit := 0
        setup := none } } := by
  unfold setupFailed
  rw [scanEnded_scan, modScan_scanEnded]
  rfl

/-- Both setup writes act in the same way, each in its own step. -/
theorem scanAct_setup (x : SetupStep) : scanAct i x.write o d s =
    if (s.scans[i]).state = .preparing ∧ (s.scans[i]).setup = some x then
      if o = .ok then modScan i x.written (scanEnded i s) else setupFailed i (scanEnded i s)
    else scanEnded i s := by
  have record := scanEnded_scan i s
  cases x <;>
    simp only [SetupStep.write, scanAct, actSset, actSgo, record, Bool.and_eq_true, decide_eq_true_eq] <;> rfl

section
variable {x : SetupStep} (preparing : (s.scans[i]).state = .preparing) (setup : (s.scans[i]).setup = some x)
include preparing setup

theorem scanAct_setup_ok : scanAct i x.write .ok d s =
    modScan i (fun q => x.written { q with outstanding := none }) s := by
  rw [scanAct_setup, if_pos ⟨preparing, setup⟩, if_pos rfl]
  exact modScan_scanEnded ..

theorem scanAct_setup_failed (failed : o ≠ .ok) : scanAct i x.write o d s =
    latch? (s.scans[i]).kiosk .scanFailed { s with
      scans := upd s.scans i fun q => { q with
        outstanding := none, state := .idle, lastOutcome := .unitFault, ownerClaim := none, kiosk := none, credit := 0
        setup := none } } := by
  rw [scanAct_setup, if_pos ⟨preparing, setup⟩, if_neg failed]
  exact setupFailed_scanEnded

end

theorem scanAct_setup_other (x : SetupStep)
    (other : (s.scans[i]).state ≠ .preparing ∨ (s.scans[i]).setup ≠ some x) :
    scanAct i x.write o d s = scanEnded i s := by
  rw [scanAct_setup]
  exact if_neg fun ⟨preparing, setup⟩ => other.elim (fun away => away preparing) fun away => away setup

/-! #### The SSTATE read (R127) and the SHALT (R129) -/

theorem scanAct_sstate_ok (running : (s.scans[i]).state = .running) (long : 3 ≤ d.length) :
    scanAct i .sstate .ok d s = modScan i (fun q => { q with
      outstanding := none, total := some (halfAt d 1), stateWanted := false, state := .ending
      availWanted := true }) s := by
  show actSstate i .ok d (scanEnded i s) = _
  unfold actSstate
  rw [scanEnded_scan, if_pos (by simp only [running, long, decide_true, Bool.and_self])]
  exact modScan_scanEnded ..

theorem scanAct_sstate_other (other : (s.scans[i]).state ≠ .running ∨ o ≠ .ok) :
    scanAct i .sstate o d s = scanEnded i s := by
  show actSstate i o d (scanEnded i s) = _
  unfold actSstate
  rw [scanEnded_scan]
  refine if_neg ?_
  simp only [Bool.and_eq_true, decide_eq_true_eq]
  rintro ⟨⟨running, isOk⟩, -⟩
  exact other.elim (fun away => away running) fun failed => failed isOk

theorem scanAct_shalt_halts (halting : (s.scans[i]).state = .halting) : scanAct i .shalt o d s =
    { discardFrames (s.scans[i]).kiosk i s with
      scans := upd s.scans i fun q => { q with
        outstanding := none, state := .idle, lastOutcome := q.haltOutcome.getD .none, haltOutcome := none
        ownerClaim := none, kiosk := none, credit := 0, available := 0, availWanted := false
        stateWanted := false } } := by
  show actShalt i (scanEnded i s) = _
  unfold actShalt endHalt
  rw [scanEnded_scan, if_pos halting]
  dsimp only
  rw [scanEnded, discardFrames_modScan, modScan_modScan, modScan, discardFrames_scans]

theorem scanAct_shalt_other (away : (s.scans[i]).state ≠ .halting) : scanAct i .shalt o d s = scanEnded i s := by
  show actShalt i (scanEnded i s) = _
  unfold actShalt
  rw [scanEnded_scan]
  exact if_neg away

/-! #### The AVAIL reads (R126, R127) and the PULLs (R126) -/

theorem scanAct_avail_ok (goesOn : (s.scans[i]).state = .running ∨ (s.scans[i]).state = .ending ∧ byteAt d 0 ≠ 0) :
    scanAct i .avail .ok d s = modScan i (fun q => { q with outstanding := none, available := (byteAt d 0).toNat, availWanted := false }) s := by
  have pulling : (s.scans[i]).state.pulling = true :=
    (ScanState.pulling_iff _).mpr (goesOn.imp_right fun ⟨ending, _⟩ => ending)
  have notDone : ¬((s.scans[i]).state = .ending ∧ (byteAt d 0).toNat = 0) := by
    rintro ⟨ending, zero⟩
    obtain running | ⟨-, left⟩ := goesOn
    · exact absurd (running.symm.trans ending) nofun
    · exact left (BitVec.eq_of_toNat_eq zero)
  show actAvail i .ok d (scanEnded i s) = _
  unfold actAvail
  rw [scanEnded_scan, if_pos (by simp only [pulling, decide_true, Bool.and_self])]
  dsimp only
  rw [if_neg (by simpa only [Bool.and_eq_true, decide_eq_true_eq] using notDone)]
  exact modScan_scanEnded ..

theorem scanAct_avail_done (ending : (s.scans[i]).state = .ending) (zero : byteAt d 0 = 0) : scanAct i .avail .ok d s =
    latch? (s.scans[i]).kiosk .scanDone { s with
      scans := upd s.scans i fun q => { q with
        outstanding := none, available := 0, availWanted := false, state := .idle, lastOutcome := .done
        ownerClaim := none, kiosk := none, credit := 0 } } := by
  show actAvail i .ok d (scanEnded i s) = _
  unfold actAvail
  rw [scanEnded_scan, zero, if_pos (by simp only [ending, ScanState.pulling, decide_true, Bool.and_self])]
  dsimp only
  rw [if_pos (by rw [ending]; rfl), modScan_scanEnded, scanDone, modScan_modScan, modScan_scans, upd_get_self]
  rfl

theorem scanAct_avail_other
    (other : (s.scans[i]).state ≠ .running ∧ (s.scans[i]).state ≠ .ending ∨ o ≠ .ok) :
    scanAct i .avail o d s = scanEnded i s := by
  show actAvail i o d (scanEnded i s) = _
  unfold actAvail
  rw [scanEnded_scan]
  refine if_neg ?_
  simp only [Bool.and_eq_true, decide_eq_true_eq, ScanState.pulling_iff]
  rintro ⟨pulling, isOk⟩
  exact other.elim (fun ⟨notRunning, notEnding⟩ => pulling.elim notRunning notEnding) fun failed => failed isOk

theorem scanAct_pull_ok {k : Kiosk} (pulling : (s.scans[i]).state = .running ∨ (s.scans[i]).state = .ending)
    (kiosk : (s.scans[i]).kiosk = some k) : scanAct i .pull .ok d s =
    { s with
      kiosks := upd s.kiosks k fun q => { q with
        scan := q.scan ++ [{ slot := i, seq := (s.scans[i]).nextSeq, data := d }] }
      scans := upd s.scans i fun q => { q with
        outstanding := none, credit := q.credit - 1, available := q.available - 1, nextSeq := q.nextSeq + 1
        delivered := q.delivered + 1
        availWanted := q.availWanted || (decide (q.state = .ending) && decide (q.available - 1 = 0)) } } := by
  show actPull i .ok d (scanEnded i s) = _
  unfold actPull
  dsimp only
  rw [scanEnded_scan, if_pos ((ScanState.pulling_iff _).mpr pulling)]
  simp only [kiosk, Option.elim_some, modKiosk, scanEnded, modScan, upd_upd]

theorem scanAct_pull_refused (pulling : (s.scans[i]).state = .running ∨ (s.scans[i]).state = .ending) :
    scanAct i .pull .refused d s = modScan i (fun q => { q with
      outstanding := none, available := 0, availWanted := q.availWanted || decide (q.state = .ending) }) s := by
  show actPull i .refused d (scanEnded i s) = _
  unfold actPull
  dsimp only
  rw [scanEnded_scan, if_pos ((ScanState.pulling_iff _).mpr pulling)]
  exact modScan_scanEnded ..

theorem scanAct_pull_other
    (other : ((s.scans[i]).state ≠ .running ∧ (s.scans[i]).state ≠ .ending) ∨ o ≠ .ok ∧ o ≠ .refused) :
    scanAct i .pull o d s = scanEnded i s := by
  show actPull i o d (scanEnded i s) = _
  unfold actPull
  dsimp only
  rw [scanEnded_scan]
  split_ifs with pulling
  · obtain ⟨notRunning, notEnding⟩ | ⟨notOk, notRefused⟩ := other
    · exact absurd ((ScanState.pulling_iff _).mp pulling) (not_or.mpr ⟨notRunning, notEnding⟩)
    · cases o <;> first | rfl | contradiction
  · rfl

end

/-! ### The end of an engine's transaction (R124, R162) -/

section
variable {s : State} {t : Txn} {i : Slot} {w : TxnName} {a : UnitAnswer}

theorem engineAct_scanner {u : State} (h : EngineTxn s t i w .scanner) (units : u.units = s.units) (o : BusOutcome)
    (d : List Byte) : engineAct i w o d u = scanAct i w o d u := by
  obtain ⟨-, -, -, -, -, -, kind⟩ := h
  exact engineAct_kind.2.1 ((definedKind_congr units i).trans kind)

theorem scan_endsOk {u : State} {d : List Byte} (h : EngineTxn s t i w .scanner) (ok : EndsOk t a d)
    (act : scanAct i w .ok d (busFreed s) = u) : completion w a s = .next (countedOk i u) :=
  completion_ok h ok ((engineAct_scanner (u := busFreed s) h rfl .ok d).trans act)

theorem scan_endsRefused {u : State} (h : EngineTxn s t i w .scanner) (refused : wireOutcome t a = .refused)
    (act : ∀ d, scanAct i w .refused d (busFreed s) = u) : completion w a s = .next (countedRefused i u) :=
  completion_refused h refused fun d => (engineAct_scanner (u := busFreed s) h rfl .refused d).trans (act d)

theorem scan_endsWith {c : UnitAnswer → Instr} {o : BusOutcome} {f : State → State} (h : EngineTxn s t i w .scanner)
    (failed : o ≠ .ok) (completes : ∀ a, exec (c a) s = completion w a s)
    (act : ∀ b, scanAct i w o [] { s with bus := b } = f { s with bus := b }) : EndsWith c s t i o f :=
  endsWith_engine h failed completes fun b =>
    (engineAct_scanner (u := { s with bus := b }) h rfl o []).trans (act b)

end

end Sys2Proof.Machine

open Sys2Proof Sys2Proof.Machine

/-- Settles O51: each transaction's end is the engine's equation for the outcome and the state of the scan. -/
theorem scanSteps : Obligations.ScanSteps := by
  unfold Obligations.ScanSteps
  refine ⟨fun s t i a d txn preparing setup => ⟨fun ok => ?_, fun refused => ?_⟩,
    fun s t i a d txn preparing setup => ⟨fun ok => ?_, fun refused => ?_⟩,
    fun s t i a d txn ok => ⟨fun running long => ?_, fun away => ?_⟩,
    fun s t i a d ok u ended => ?_, fun s t i o failure ended failed halted hended hfailed hhalted => ?_,
    fun s t i a d txn halting u halted => ?_⟩
  case refine_1 => exact scan_endsOk txn ok (scanAct_setup_ok (x := .sset) preparing setup)
  case refine_2 => exact scan_endsRefused txn refused fun _ => scanAct_setup_failed (x := .sset) preparing setup nofun
  case refine_3 => exact scan_endsOk txn ok (scanAct_setup_ok (x := .sgo) preparing setup)
  case refine_4 => exact scan_endsRefused txn refused fun _ => scanAct_setup_failed (x := .sgo) preparing setup nofun
  case refine_5 => exact scan_endsOk txn ok (scanAct_sstate_ok running long)
  case refine_6 => exact scan_endsOk txn ok (scanAct_sstate_other (.inl away))
  case refine_7 =>
    subst ended
    exact ⟨fun txn other => scan_endsOk txn ok (scanAct_setup_other .sset other),
      fun txn other => scan_endsOk txn ok (scanAct_setup_other .sgo other),
      fun txn away => scan_endsOk txn ok (scanAct_shalt_other away)⟩
  case refine_8 =>
    subst hended hfailed hhalted
    refine ⟨fun txn => ⟨fun preparing setup => ?_, fun other => ?_⟩,
      fun txn => ⟨fun preparing setup => ?_, fun other => ?_⟩, fun txn => ?_, fun txn => ⟨fun halting => ?_, fun away => ?_⟩⟩
    · exact scan_endsWith txn failure (fun _ => rfl) fun _ => scanAct_setup_failed (x := .sset) preparing setup failure
    · exact scan_endsWith txn failure (fun _ => rfl) fun _ => scanAct_setup_other .sset other
    · exact scan_endsWith txn failure (fun _ => rfl) fun _ => scanAct_setup_failed (x := .sgo) preparing setup failure
    · exact scan_endsWith txn failure (fun _ => rfl) fun _ => scanAct_setup_other .sgo other
    · exact scan_endsWith txn failure (fun _ => rfl) fun _ => scanAct_sstate_other (.inr failure)
    · exact scan_endsWith txn failure (fun _ => rfl) fun _ => scanAct_shalt_halts halting
    · exact scan_endsWith txn failure (fun _ => rfl) fun _ => scanAct_shalt_other away
  case refine_9 =>
    subst halted
    exact ⟨fun ok => scan_endsOk txn ok (scanAct_shalt_halts halting),
      fun refused => scan_endsRefused txn refused fun _ => scanAct_shalt_halts halting⟩

/-- Settles O52: as O51, for the AVAIL reads and the PULLs. -/
theorem scanData : Obligations.ScanData := by
  unfold Obligations.ScanData
  refine ⟨fun s t i a d txn ok => ⟨fun goesOn => ?_, fun ending zero => ?_, fun notRunning notEnding => ?_⟩,
    fun s t i o failed ended hended => ⟨fun txn => ?_, fun txn => ⟨fun pulling refused => ?_, fun other => ?_⟩⟩,
    fun s t i a d txn => ⟨fun pulling => ⟨fun k ok kiosk => ?_, fun refused => ?_⟩, fun notRunning notEnding ok => ?_⟩⟩
  case refine_1 => exact scan_endsOk txn ok (scanAct_avail_ok goesOn)
  case refine_2 => exact scan_endsOk txn ok (scanAct_avail_done ending zero)
  case refine_3 => exact scan_endsOk txn ok (scanAct_avail_other (.inl ⟨notRunning, notEnding⟩))
  case refine_4 =>
    subst hended
    exact scan_endsWith txn failed (fun _ => rfl) fun _ => scanAct_avail_other (.inr failed)
  case refine_5 =>
    subst refused
    exact scan_endsWith txn failed (fun _ => rfl) fun _ => scanAct_pull_refused pulling
  case refine_6 =>
    subst hended
    exact scan_endsWith txn failed (fun _ => rfl) fun _ =>
      scanAct_pull_other (other.imp_right fun notRefused => ⟨failed, notRefused⟩)
  case refine_7 => exact scan_endsOk txn ok (scanAct_pull_ok pulling kiosk)
  case refine_8 => exact scan_endsRefused txn refused fun _ => scanAct_pull_refused pulling
  case refine_9 => exact scan_endsOk txn ok (scanAct_pull_other (.inl ⟨notRunning, notEnding⟩))
end

section
/-!
PROOFS. The laws of counts and of credit (R120, R135, R164, R166) against the step: the part of the state they are about, and
the operations, blocks and events that leave it as it is.
-/

namespace Sys2Proof.Machine

/-! ### The part of the state the laws of counts and of credit are about -/

/-- The scan frame queue of a kiosk link, and nothing else of it. -/
def KioskLink.framesAlone (q : KioskLink) : KioskLink := { KioskLink.reset with scan := q.scan }

/-- The kind a slot is defined with and its failure count, and nothing else of it. -/
def UnitSlot.countAlone (u : UnitSlot) : UnitSlot := { u.kindAlone with failures := u.failures }

/-- The state with every field at its reset value but the kinds and failure counts of the slots, the scan records and frames,
the board and the state of the controller. -/
def busPart (s : State) : State :=
  { State.reset with
    units := mapAll s.units UnitSlot.countAlone, scans := s.scans, kiosks := mapAll s.kiosks KioskLink.framesAlone
    board := s.board, bus := s.bus }

/-- An operation that can change only what a mask blanks leaves this part alone, when the mask does. -/
theorem busPart_of_frame (mask : State → State → State) {s t : State} (h : ∀ base, mask base t = mask base s)
    (blind : ∀ base u, busPart (mask base u) = busPart u := by exact fun _ _ => rfl) : busPart t = busPart s :=
  frame_of (blind s) (h s)

/-! ### Operations that leave this part as it is -/

@[simp] theorem busPart_modAttn (i : Slot) (f : Attention → Attention) (s : State) :
    busPart (modAttn i f s) = busPart s := rfl

@[simp] theorem busPart_modPanel (i : Slot) (f : PanelEngine → PanelEngine) (s : State) :
    busPart (modPanel i f s) = busPart s := rfl

@[simp] theorem busPart_modFeed (i : Slot) (f : FeedEngine → FeedEngine) (s : State) :
    busPart (modFeed i f s) = busPart s := rfl

@[simp] theorem busPart_modQuota (k : Kiosk) (f : KioskSpool → KioskSpool) (s : State) :
    busPart (modQuota k f s) = busPart s := rfl

@[simp] theorem busPart_dropClaim (id : Nat) (s : State) : busPart (dropClaim id s) = busPart s := rfl

@[simp] theorem busPart_setContact (n : ContactNo) (c : Option Contact) (s : State) :
    busPart (setContact n c s) = busPart s := rfl

@[simp] theorem busPart_ignore (i : Slot) (id : RawId) (s : State) : busPart (ignore i id s) = busPart s := rfl

@[simp] theorem busPart_unignore (i : Slot) (id : RawId) (s : State) : busPart (unignore i id s) = busPart s := rfl

@[simp] theorem busPart_clearNotices (k : Kiosk) (s : State) : busPart (clearNotices k s) = busPart s := rfl

@[simp] theorem busPart_latch (k : Kiosk) (c : NoticeClass) (s : State) : busPart (latch k c s) = busPart s := rfl

@[simp] theorem busPart_latchOpt (k : Option Kiosk) (c : NoticeClass) (s : State) :
    busPart (latch? k c s) = busPart s := busPart_of_frame offNotices fun b => latchOpt_frame b k c s

@[simp] theorem busPart_latchAll (c : NoticeClass) (s : State) : busPart (latchAll c s) = busPart s :=
  busPart_of_frame offNotices fun b => latchAll_frame b c s

@[simp] theorem busPart_levelRule (i : Slot) (s : State) : busPart (levelRule i s) = busPart s :=
  busPart_of_frame offAttn fun b => levelRule_frame b i s

@[simp] theorem busPart_levelRules (s : State) : busPart (levelRules s) = busPart s :=
  busPart_of_frame offAttn fun b => levelRules_frame b s

@[simp] theorem busPart_queueReply (l : Link) (r : ReqSlot) (p : List Byte) (s : State) :
    busPart (queueReply l r p s) = busPart s := by
  unfold queueReply
  split <;> rfl

@[simp] theorem busPart_rawAct (t : Txn) (o : BusOutcome) (s : State) : busPart (rawAct t o s) = busPart s := by
  unfold rawAct
  cases s.busRaw with
  | none => rfl
  | some r => exact (busPart_queueReply ..).trans rfl

/-- A change of a kiosk link that keeps its scan frames. -/
theorem busPart_modKiosk (k : Kiosk) {f : KioskLink → KioskLink} (s : State)
    (frames : ∀ q, (f q).scan = q.scan := by exact fun _ => rfl) : busPart (modKiosk k f s) = busPart s := by
  have alone (q : KioskLink) : (f q).framesAlone = q.framesAlone := by
    unfold KioskLink.framesAlone
    rw [frames]
  unfold busPart
  rw [modKiosk_kiosks, mapAll_upd_same _ _ alone]
  rfl

/-- A change of a slot that keeps its kind and its failure count. -/
theorem busPart_modUnit (i : Slot) {f : UnitSlot → UnitSlot} (s : State)
    (kind : ∀ u, (f u).definition.map UnitDef.kind = u.definition.map UnitDef.kind := by exact fun _ => rfl)
    (failures : ∀ u, (f u).failures = u.failures := by exact fun _ => rfl) : busPart (modUnit i f s) = busPart s := by
  have alone (u : UnitSlot) : (f u).countAlone = u.countAlone := by
    unfold UnitSlot.countAlone
    rw [kindAlone_eq (kind u), failures]
  unfold busPart
  rw [modUnit_units, mapAll_upd_same _ _ alone]
  rfl

@[simp] theorem busPart_setLost (i : Slot) (s : State) : busPart (setLost i s) = busPart s :=
  busPart_modUnit i s (setUnitState_kind .lost)

/-! ### The Spooler and the Feed Engines -/

@[simp] theorem busPart_feedAct (i : Slot) (w : TxnName) (o : BusOutcome) (d : List Byte) (s : State) :
    busPart (feedAct i w o d s) = busPart s := busPart_of_frame offFeed fun b => feedAct_frame b i w o d s

@[simp] theorem busPart_printerCause (i : Slot) (b : Byte) (s : State) : busPart (printerCause i b s) = busPart s :=
  busPart_of_frame offFeed fun base => printerCause_frame base i b s

@[simp] theorem busPart_printerLost (i : Slot) (s : State) : busPart (printerLost i s) = busPart s :=
  busPart_of_frame offFeed fun b => printerGone_frame b i .unitLost s

@[simp] theorem busPart_printerRemoved (i : Slot) (s : State) : busPart (printerRemoved i s) = busPart s :=
  busPart_of_frame offFeed fun b => printerRemoved_frame b i s

@[simp] theorem busPart_cancelJob (j : Job) (s : State) : busPart (cancelJob j s) = busPart s :=
  busPart_of_frame offFeed fun b => cancelJob_frame b j s

@[simp] theorem busPart_stallJob (j : Job) (s : State) : busPart (stallJob j s) = busPart s :=
  busPart_of_frame offFeed fun b => stallJob_frame b j s

@[simp] theorem busPart_clearJobs (k : Kiosk) (s : State) : busPart (clearJobs k s) = busPart s :=
  busPart_of_frame offFeed fun b => clearJobs_frame b k s

@[simp] theorem busPart_wantRoomTest (k : Kiosk) (s : State) : busPart (wantRoomTest k s) = busPart s :=
  busPart_of_frame offRoom fun b => wantRoomTest_frame b k s

@[simp] theorem busPart_reportStarted (i : Slot) (s : State) : busPart (reportStarted i s) = busPart s := by
  unfold reportStarted
  repeat' split
  all_goals rfl

@[simp] theorem busPart_createJob (k : Kiosk) (any : Bool) (i : Slot) (s : State) :
    busPart (createJob k any i s).2 = busPart s := by
  have reclaimed : busPart (reclaim s) = busPart s := by
    unfold reclaim
    repeat' split
    all_goals rfl
  exact Eq.trans rfl reclaimed

/-! ### The Contact Tracker -/

@[simp] theorem busPart_deliver (k : Kiosk) (e : TouchEvent) (s : State) : busPart (deliver k e s) = busPart s :=
  busPart_modKiosk k s fun q => by
    unfold enqueueTouch
    split_ifs <;> rfl

@[simp] theorem busPart_produce (n : ContactNo) (c : Contact) (ph : Phase) (p : Produced) (t : Time) (s : State) :
    busPart (produce n c ph p t s) = busPart s := by
  unfold produce
  split <;> simp

@[simp] theorem busPart_produceCancel (n : ContactNo) (c : Contact) (s : State) :
    busPart (produceCancel n c s) = busPart s := by
  unfold produceCancel
  split <;> simp

@[simp] theorem busPart_muteContacts (fits : Contact → Bool) (cancel : Bool) (s : State) :
    busPart (muteContacts fits cancel s) = busPart s := by
  have muted (n : ContactNo) (t : State) : busPart (muteEntry fits cancel n t) = busPart t := by
    unfold muteEntry
    split
    · rfl
    · dsimp only
      split_ifs <;> simp
  exact forEach_frame busPart muted (indices 40) s

@[simp] theorem busPart_ownerChange (x : Resource) (cancel : Bool) (s : State) :
    busPart (ownerChange x cancel s) = busPart s := by
  cases x with
  | scanner i => rfl
  | zone z => exact busPart_muteContacts (fun c => decide (c.zone = some z)) cancel s

@[simp] theorem busPart_panelGone (i : Slot) (s : State) : busPart (panelGone i s) = busPart s := by
  have freed (n : ContactNo) (t : State) : busPart (freeOfPanel i n t) = busPart t := by
    unfold freeOfPanel
    split
    · rfl
    · dsimp only
      split_ifs <;> simp
  have all := forEach_frame busPart freed (indices 40) s
  unfold panelGone
  generalize forEach (indices 40) (freeOfPanel i) s = t at all
  exact Eq.trans rfl all

@[simp] theorem busPart_captureContact (i : Slot) (id : RawId) (x y : Nat) (t : Time) (s : State) :
    busPart (captureContact i id x y t s) = busPart s := by
  unfold captureContact
  dsimp only
  split
  · rw [busPart_ignore, busPart_unignore]
  · split
    · rw [busPart_produce, busPart_setContact, busPart_unignore]
    · rw [busPart_setContact, busPart_unignore]

@[simp] theorem busPart_contactDown (i : Slot) (id : RawId) (x y : Nat) (t : Time) (s : State) :
    busPart (contactDown i id x y t s) = busPart s := by
  unfold contactDown
  split
  · exact busPart_captureContact ..
  · split
    · exact busPart_captureContact ..
    · refine (busPart_captureContact ..).trans ?_
      split_ifs <;> simp

@[simp] theorem busPart_contactMove (i : Slot) (id : RawId) (x y : Nat) (t : Time) (s : State) :
    busPart (contactMove i id x y t s) = busPart s := by
  unfold contactMove contactMoveEntry
  dsimp only
  repeat' split
  all_goals simp

@[simp] theorem busPart_contactUp (i : Slot) (id : RawId) (x y : Nat) (t : Time) (s : State) :
    busPart (contactUp i id x y t s) = busPart s := by
  unfold contactUp
  dsimp only
  repeat' split
  all_goals simp

@[simp] theorem busPart_processRecord (i : Slot) (t : Time) (q : ContactRecord) (s : State) :
    busPart (processRecord i t q s) = busPart s := by
  unfold processRecord
  repeat' split
  all_goals simp

@[simp] theorem busPart_panelAct (i : Slot) (o : BusOutcome) (d : List Byte) (s : State) :
    busPart (panelAct i o d s) = busPart s := by
  have processed (t : State) : busPart (processContacts i d t) = busPart t := by
    unfold processContacts
    dsimp only
    split_ifs <;> simp [forEach_frame busPart (busPart_processRecord i _)]
  unfold panelAct
  dsimp only
  split_ifs <;> simp [processed]

@[simp] theorem busPart_panelCause (i : Slot) (b : Byte) (capture : Time) (s : State) :
    busPart (panelCause i b capture s) = busPart s := by
  have muted : busPart (if (panelCauses b).fault then mutePanel i s else s) = busPart s := by
    split_ifs
    · exact busPart_muteContacts ..
    · rfl
  unfold panelCause
  dsimp only
  generalize (if (panelCauses b).fault then mutePanel i s else s) = t at muted ⊢
  split_ifs
  · exact muted
  · exact muted

/-! ### Blocks that leave this part as it is -/

@[simp] theorem busPart_forKiosk {l : Link} {f : Kiosk → State → State × List Byte}
    (h : ∀ k s, busPart (f k s).1 = busPart s) (s : State) : busPart (forKiosk l f s).1 = busPart s := by
  unfold forKiosk
  split
  · exact h _ s
  · rfl

@[simp] theorem busPart_onJob {id : Half} {k : Kiosk} {s : State} {f : Job → State × List Byte}
    (h : ∀ j, busPart (f j).1 = busPart s) : busPart (onJob id k s f).1 = busPart s := by
  unfold onJob
  repeat' split
  · rfl
  · rfl
  · exact h _

@[simp] theorem busPart_linkStatusBlock (l : Link) (named : Option Byte) (s : State) :
    busPart (linkStatusBlock l named s).1 = busPart s := by
  unfold linkStatusBlock
  split <;> rfl

@[simp] theorem busPart_maintainBlock (kiosk : Byte) (on : Bool) (s : State) :
    busPart (maintainBlock kiosk on s).1 = busPart s := by
  unfold maintainBlock
  split
  · rfl
  · exact busPart_modKiosk _ s

@[simp] theorem busPart_maintainAny (p : List Byte) (s : State) : busPart (maintainAny p s).1 = busPart s := by
  unfold maintainAny
  split_ifs <;> simp

@[simp] theorem busPart_claimBlock (kind number : Byte) (lease wait : Word) (k : Kiosk) (s : State) :
    busPart (claimBlock kind number lease wait k s).1 = busPart s := by
  have created (x : Resource) (held : Bool) (m n : Nat) : busPart (createClaim k x held m n s).2 = busPart s := rfl
  unfold claimBlock
  dsimp only
  repeat' split
  all_goals simp [created]

@[simp] theorem busPart_renewBlock (id : Byte) (k : Kiosk) (s : State) : busPart (renewBlock id k s).1 = busPart s := by
  unfold renewBlock
  repeat' split
  all_goals rfl

@[simp] theorem busPart_openOn (k : Kiosk) (any : Bool) (i : Slot) (s : State) :
    busPart (openOn k any i s).1 = busPart s := by
  unfold openOn
  split <;> simp

@[simp] theorem busPart_printOpenBlock (target : Byte) (k : Kiosk) (s : State) :
    busPart (printOpenBlock target k s).1 = busPart s := by
  unfold printOpenBlock
  repeat' split
  all_goals simp

@[simp] theorem busPart_printDataBlock (id : Half) (data : List Byte) (k : Kiosk) (s : State) :
    busPart (printDataBlock id data k s).1 = busPart s :=
  busPart_onJob fun j => by
    dsimp only
    split_ifs <;> rfl

@[simp] theorem busPart_printCloseBlock (id : Half) (k : Kiosk) (s : State) :
    busPart (printCloseBlock id k s).1 = busPart s := busPart_onJob fun j => by split <;> rfl

@[simp] theorem busPart_printCancelBlock (id : Half) (k : Kiosk) (s : State) :
    busPart (printCancelBlock id k s).1 = busPart s := busPart_onJob fun j => by split <;> simp

@[simp] theorem busPart_jobStatusBlock (l : Link) (id : Half) (collect : Byte) (s : State) :
    busPart (jobStatusBlock l id collect s).1 = busPart s := by
  unfold jobStatusBlock
  repeat' split
  · rfl
  · rfl
  · dsimp only
    split_ifs <;> rfl

@[simp] theorem busPart_quotaSetBlock (kiosk : Byte) (quota : Half) (s : State) :
    busPart (quotaSetBlock kiosk quota s).1 = busPart s := by
  unfold quotaSetBlock
  split <;> simp

@[simp] theorem busPart_fillLimitBlock (limit : Word) (s : State) : busPart (fillLimitBlock limit s).1 = busPart s := rfl

@[simp] theorem busPart_attnSetBlock (slot mode enable : Byte) (s : State) :
    busPart (attnSetBlock slot mode enable s).1 = busPart s := by
  have set (i : Slot) (m : AttnMode) (on : Bool) : busPart (setAttention i m on s) = busPart s := by
    unfold setAttention
    dsimp only
    split
    · exact (busPart_levelRule ..).trans ((busPart_modAttn ..).trans (busPart_modUnit i s))
    · exact busPart_modUnit i s
  unfold attnSetBlock
  repeat' split
  · rfl
  · exact set ..
  · rfl

@[simp] theorem busPart_busRawBlock (kind : Option BusKind) (address command : Byte) (data : List Byte) (r : ReqSlot)
    (s : State) : busPart (busRawBlock kind address command data r s).1 = busPart s := by
  unfold busRawBlock
  repeat' split
  all_goals rfl

@[simp] theorem busPart_changeEnabled (f : ClassSet → ClassSet → ClassSet) (classes : Half) (k : Kiosk) (s : State) :
    busPart (changeEnabled f classes k s).1 = busPart s := by
  unfold changeEnabled
  split <;> rfl

@[simp] theorem busPart_noticeArmBlock (classes : Half) (k : Kiosk) (s : State) :
    busPart (noticeArmBlock classes k s).1 = busPart s := busPart_changeEnabled ..

@[simp] theorem busPart_noticeDisarmBlock (classes : Half) (k : Kiosk) (s : State) :
    busPart (noticeDisarmBlock classes k s).1 = busPart s := busPart_changeEnabled ..

@[simp] theorem busPart_setHold (h : Bool) (k : Kiosk) (s : State) : busPart (setHold h k s).1 = busPart s := by
  unfold setHold
  rfl

@[simp] theorem busPart_noticeTakeBlock (k : Kiosk) (s : State) : busPart (noticeTakeBlock k s).1 = busPart s := by
  unfold noticeTakeBlock
  rfl

@[simp] theorem busPart_maintainMaskBlock (kiosk : Byte) (classes : Half) (s : State) :
    busPart (maintainMaskBlock kiosk classes s).1 = busPart s := by
  unfold maintainMaskBlock
  split <;> rfl

@[simp] theorem busPart_forceNoticeBlock (kiosk : Byte) (classes word : Half) (s : State) :
    busPart (forceNoticeBlock kiosk classes word s).1 = busPart s := by
  unfold forceNoticeBlock
  repeat' split
  all_goals rfl

/-! ### Events that leave this part as it is -/

@[simp] theorem busPart_expireFill (id : Half) (s : State) : busPart (expireFill id s) = busPart s := by
  unfold expireFill
  repeat' split
  all_goals simp

@[simp] theorem busPart_attentionChange (i : Slot) (high : Bool) (s : State) :
    busPart (attentionChange i high s) = busPart s := by
  unfold attentionChange lineChange
  dsimp only
  repeat' split
  all_goals rfl

@[simp] theorem busPart_frameSent (l : Link) (s : State) : busPart (frameSent l s) = busPart s := by
  unfold frameSent
  split <;> rfl

@[simp] theorem busPart_characterFault (l : Link) (s : State) : busPart (characterFault l s) = busPart s := by
  unfold characterFault
  split <;> rfl

@[simp] theorem busPart_finishFull (s : State) : busPart (finishFull s) = busPart s := by
  unfold finishFull
  split <;> rfl

end Sys2Proof.Machine
end

section
/-!
PROOFS. What the laws of counts and of credit survive (R120, R135, R164, R166): a step that posts no work of a Scan Engine,
puts in flight only what was posted, and takes nothing from the credit of a scan.
-/

namespace Sys2Proof.Machine

variable {s t u : State} {i : Slot}

/-! ### The transactions of an engine -/

/-- The transaction of the engine in a place of the board. -/
def postedTxns (place : Option Posting) : List TxnName :=
  (place.filter fun p => decide (p.owner = .engine)).toList.map fun p => engineName p.command p.data

/-- The transaction of a slot's engine in flight, unless it is orphaned. -/
def flyingTxns (bus : BusState) (i : Slot) : List TxnName :=
  match bus with
  | .running t => if t.owner = .engine ∧ t.slot = some i ∧ t.orphaned = false then [t.name] else []
  | _ => []

theorem engineTxns_eq (s : State) (i : Slot) : engineTxns s i = postedTxns s.board[i] ++ flyingTxns s.bus i := by
  unfold engineTxns flyingTxns
  cases s.bus <;> rfl

theorem engineTxns_congr (board : t.board[i] = s.board[i]) (bus : t.bus = s.bus) : engineTxns t i = engineTxns s i := by
  rw [engineTxns_eq, engineTxns_eq, board, bus]

theorem postedTxns_other {p : Posting} (other : p.owner ≠ .engine) : postedTxns (some p) = [] := by
  simp [postedTxns, other]

theorem postedTxns_engine {p : Posting} (own : p.owner = .engine) :
    postedTxns (some p) = [engineName p.command p.data] := by
  simp [postedTxns, own]

theorem flyingTxns_running {x : Txn} (own : x.owner = .engine) (slot : x.slot = some i) (lives : x.orphaned = false) :
    flyingTxns (.running x) i = [x.name] := if_pos ⟨own, slot, lives⟩

/-- No transaction of the slot is in flight, but perhaps an orphaned one. -/
def NotInFlight (b : BusState) (i : Slot) : Prop := ∀ x, b = .running x → x.slot = some i → x.orphaned = true

theorem flyingTxns_nil {b : BusState} (away : NotInFlight b i) : flyingTxns b i = [] := by
  unfold flyingTxns
  split
  · next x => exact if_neg fun ⟨_, slot, lives⟩ => Bool.false_ne_true (lives.symm.trans (away x rfl slot))
  · rfl

/-- Nothing of the slot is on the unit bus: its place is empty, and no transaction of it is in flight but an orphaned one. -/
structure OffBus (s : State) (i : Slot) : Prop where
  place : s.board[i] = none
  flight : NotInFlight s.bus i

theorem OffBus.engineTxns (off : OffBus s i) : engineTxns s i = [] := by
  rw [engineTxns_eq, off.place, flyingTxns_nil off.flight]
  rfl

theorem OffBus.congr (off : OffBus s i) (board : t.board = s.board) (bus : t.bus = s.bus) : OffBus t i :=
  ⟨board ▸ off.place, bus ▸ off.flight⟩

/-! ### A step that eases the bus -/

/-- A posting of t stood on the board of s with no higher count, or is a new one of a defined slot. -/
def Stood (s : State) (i : Slot) (p : Posting) : Prop :=
  (∃ q, s.board[i] = some q ∧ p.rank = q.rank ∧ (q.aging ≤ 16 → p.aging ≤ 16)) ∨
    p.aging ≤ 16 ∧ p.rank ≠ .service ∧ definedKind s i ≠ none

/-- From s to t the slots keep their kinds, failure counts and postings keep their ranges, and what is posted or in flight is
of a slot that was defined, posted or in flight. -/
structure BusEased (s t : State) : Prop where
  kind : ∀ i : Slot, definedKind t i = definedKind s i
  failures : ∀ i : Slot, (s.units[i]).failures ≤ 3 → (t.units[i]).failures ≤ 3
  board : ∀ (i : Slot) p, t.board[i] = some p → Stood s i p
  bus : ∀ x i, t.bus = .running x → x.slot = some i → x.orphaned = false →
    s.bus = .running x ∨ s.board[i] ≠ none ∨ definedKind s i ≠ none

/-- From s to t the scan of a slot keeps its credit, its kiosk and its outstanding transaction, does not start to pull, and
gains neither a transaction nor a frame. -/
structure ScanEased (i : Slot) (s t : State) : Prop where
  txns : definedKind s i = some .scanner → (engineTxns t i).Sublist (engineTxns s i)
  outstanding : (t.scans[i]).outstanding = (s.scans[i]).outstanding
  credit : (t.scans[i]).credit = (s.scans[i]).credit
  kiosk : (t.scans[i]).kiosk = (s.scans[i]).kiosk
  pulling : (t.scans[i]).state.pulling = true → (s.scans[i]).state.pulling = true
  frames : ∀ k, framesWaiting t k i ≤ framesWaiting s k i

/-- Both, for every slot. -/
structure Eased (s t : State) : Prop extends BusEased s t where
  scans : ∀ i : Slot, ScanEased i s t

theorem Stood.placed {p : Posting} (stood : Stood s i p) : s.board[i] ≠ none ∨ definedKind s i ≠ none := by
  obtain ⟨q, waits, -⟩ | ⟨-, -, defined⟩ := stood
  · exact .inl (waits ▸ Option.some_ne_none q)
  · exact .inr defined

theorem BusEased.trans (first : BusEased s t) (second : BusEased t u) : BusEased s u where
  kind i := (second.kind i).trans (first.kind i)
  failures i := second.failures i ∘ first.failures i
  board i p waits := by
    obtain ⟨q, stood, rank, aging⟩ | ⟨aging, rank, defined⟩ := second.board i p waits
    · obtain ⟨r, stood, rank', aging'⟩ | ⟨aging', rank', defined⟩ := first.board i q stood
      · exact .inl ⟨r, stood, rank.trans rank', aging ∘ aging'⟩
      · exact .inr ⟨aging aging', rank ▸ rank', defined⟩
    · exact .inr ⟨aging, rank, first.kind i ▸ defined⟩
  bus x i running slot lives := by
    obtain same | waits | defined := second.bus x i running slot lives
    · exact first.bus x i same slot lives
    · obtain ⟨p, waits⟩ := Option.ne_none_iff_exists'.mp waits
      exact .inr (first.board i p waits).placed
    · exact .inr (.inr (first.kind i ▸ defined))

theorem ScanEased.trans (kind : definedKind t i = definedKind s i) (first : ScanEased i s t) (second : ScanEased i t u) :
    ScanEased i s u where
  txns scanner := (second.txns (kind.trans scanner)).trans (first.txns scanner)
  outstanding := second.outstanding.trans first.outstanding
  credit := second.credit.trans first.credit
  kiosk := second.kiosk.trans first.kiosk
  pulling := first.pulling ∘ second.pulling
  frames k := (second.frames k).trans (first.frames k)

theorem Eased.trans (first : Eased s t) (second : Eased t u) : Eased s u :=
  { first.toBusEased.trans second.toBusEased with
    scans := fun i => (first.scans i).trans (first.kind i) (second.scans i) }

/-! ### Steps that ease -/

theorem stood_same {p : Posting} (waits : s.board[i] = some p) : Stood s i p := .inl ⟨p, waits, rfl, id⟩

/-- The bus is eased when the board and the controller stay as they are. -/
theorem BusEased.of_fields (kind : ∀ i : Slot, definedKind t i = definedKind s i)
    (failures : ∀ i : Slot, (s.units[i]).failures ≤ 3 → (t.units[i]).failures ≤ 3) (board : t.board = s.board)
    (bus : t.bus = s.bus) : BusEased s t where
  kind := kind
  failures := failures
  board _ _ waits := stood_same (board ▸ waits)
  bus _ _ running _ _ := .inl (bus ▸ running)

theorem BusEased.of_same (units : t.units = s.units) (board : t.board = s.board) (bus : t.bus = s.bus) :
    BusEased s t :=
  .of_fields (definedKind_congr units) (fun i => by rw [units]; exact id) board bus

theorem framesWaiting_congr {k : Kiosk} (queue : (t.kiosks[k]).scan = (s.kiosks[k]).scan) (i : Slot) :
    framesWaiting t k i = framesWaiting s k i := by
  unfold framesWaiting
  rw [queue]

/-- A scan is eased when its record and the frames stay as they are and it gains no transaction. -/
theorem ScanEased.of_txns (scan : t.scans[i] = s.scans[i])
    (frames : ∀ k, framesWaiting t k i ≤ framesWaiting s k i)
    (txns : definedKind s i = some .scanner → (engineTxns t i).Sublist (engineTxns s i)) : ScanEased i s t where
  txns := txns
  outstanding := congrArg ScanRecord.outstanding scan
  credit := congrArg ScanRecord.credit scan
  kiosk := congrArg ScanRecord.kiosk scan
  pulling := by rw [scan]; exact id
  frames := frames

theorem definedKind_busPart (s : State) (i : Slot) : definedKind (busPart s) i = definedKind s i := by
  simp [definedKind, busPart, UnitSlot.countAlone, kindAlone_kind]

theorem failures_busPart (s : State) (i : Slot) : ((busPart s).units[i]).failures = (s.units[i]).failures := by
  simp [busPart, UnitSlot.countAlone]

theorem framesWaiting_busPart (s : State) (k : Kiosk) (i : Slot) : framesWaiting (busPart s) k i = framesWaiting s k i :=
  framesWaiting_congr (by simp [busPart, KioskLink.framesAlone]) i

/-- What leaves this part of the state as it is eases it. -/
theorem Eased.of_part (same : busPart t = busPart s) : Eased s t := by
  have board : t.board = s.board := (congrArg State.board same :)
  have bus : t.bus = s.bus := (congrArg State.bus same :)
  have scans : t.scans = s.scans := (congrArg State.scans same :)
  refine { BusEased.of_fields (fun i => ?_) (fun i => ?_) board bus with
    scans := fun i => .of_txns (congrArg (fun v => v[i]) scans) (fun k => ?_) fun _ => ?_ }
  · rw [← definedKind_busPart t, same, definedKind_busPart]
  · rw [← failures_busPart t, same, failures_busPart]
    exact id
  · rw [← framesWaiting_busPart t, same, framesWaiting_busPart]
  · rw [engineTxns_congr (congrArg (fun v => v[i]) board) bus]

theorem Eased.refl (s : State) : Eased s s := .of_part rfl

/-- Nothing is posted but what is not the work of a Scan Engine, at a defined slot. -/
theorem Eased.place {p : Posting} (aging : p.aging ≤ 16) (rank : p.rank ≠ .service) (defined : definedKind s i ≠ none)
    (work : definedKind s i = some .scanner → p.owner ≠ .engine) : Eased s (place i p s) where
  kind _ := rfl
  failures _ := id
  board j q waits := by
    by_cases here : i = j
    · subst here
      obtain rfl : p = q := Option.some.inj ((upd_get_self ..).symm.trans waits)
      exact .inr ⟨aging, rank, defined⟩
    · exact stood_same ((upd_get_ne _ _ _ _ here).symm.trans waits)
  bus _ _ running _ _ := .inl running
  scans j := .of_txns rfl (fun _ => le_refl _) fun scanner => by
    by_cases here : i = j
    · subst here
      have filled : (Machine.place i p s).board[i] = some p := upd_get_self ..
      rw [engineTxns_eq, engineTxns_eq, filled, postedTxns_other (work scanner)]
      exact List.sublist_append_right ..
    · have same : engineTxns (Machine.place i p s) j = engineTxns s j := engineTxns_congr (upd_get_ne _ _ _ _ here) rfl
      rw [same]

theorem Eased.withdraw (i : Slot) (s : State) : Eased s (withdraw i s) where
  kind _ := rfl
  failures _ := id
  board j q waits := by
    by_cases here : i = j
    · subst here
      cases (upd_get_self ..).symm.trans waits
    · exact stood_same ((upd_get_ne _ _ _ _ here).symm.trans waits)
  bus _ _ running _ _ := .inl running
  scans j := .of_txns rfl (fun _ => le_refl _) fun _ => by
    by_cases here : i = j
    · subst here
      have empty : (Machine.withdraw i s).board[i] = none := upd_get_self ..
      rw [engineTxns_eq, engineTxns_eq, empty]
      exact List.sublist_append_right ..
    · have same : engineTxns (Machine.withdraw i s) j = engineTxns s j := engineTxns_congr (upd_get_ne _ _ _ _ here) rfl
      rw [same]

/-- The controller is left with no transaction in flight, or with an orphaned one. -/
theorem Eased.freed {b : BusState} (away : ∀ x, b = .running x → x.orphaned = true) : Eased s { s with bus := b } where
  kind _ := rfl
  failures _ := id
  board _ _ := stood_same
  bus x _ running _ lives := absurd (lives.symm.trans (away x running)) Bool.false_ne_true
  scans i := .of_txns rfl (fun _ => le_refl _) fun _ => by
    have nothing : flyingTxns b i = [] := flyingTxns_nil fun x running _ => away x running
    rw [engineTxns_eq, engineTxns_eq, show ({ s with bus := b } : State).bus = b from rfl, nothing]
    exact List.Sublist.append_left (List.nil_sublist _) _

/-- The record of a scan changes in what is not its credit, kiosk or outstanding transaction, and does not start to pull. -/
theorem Eased.modScan (i : Slot) {f : ScanRecord → ScanRecord} (s : State)
    (outstanding : (f s.scans[i]).outstanding = (s.scans[i]).outstanding := by rfl)
    (credit : (f s.scans[i]).credit = (s.scans[i]).credit := by rfl)
    (kiosk : (f s.scans[i]).kiosk = (s.scans[i]).kiosk := by rfl)
    (pulling : (f s.scans[i]).state.pulling = true → (s.scans[i]).state.pulling = true := by exact id) :
    Eased s (modScan i f s) where
  toBusEased := .of_same rfl rfl rfl
  scans j := by
    by_cases here : i = j
    · subst here
      have record : (Machine.modScan i f s).scans[i] = f s.scans[i] := upd_get_self ..
      exact ⟨fun _ => .refl _, record ▸ outstanding, record ▸ credit, record ▸ kiosk, record ▸ pulling,
        fun _ => le_refl _⟩
    · exact .of_txns (upd_get_ne _ _ _ _ here) (fun _ => le_refl _) fun _ => .refl _

theorem Eased.modUnit (i : Slot) {f : UnitSlot → UnitSlot} (s : State)
    (kind : ∀ u, (f u).definition.map UnitDef.kind = u.definition.map UnitDef.kind := by exact fun _ => rfl)
    (failures : ∀ u, u.failures ≤ 3 → (f u).failures ≤ 3) : Eased s (modUnit i f s) where
  toBusEased := by
    refine .of_fields (fun j => ?_) (fun j => ?_) rfl rfl
    · unfold definedKind
      rw [modUnit_units, upd_get]
      split_ifs
      · exact kind _
      · rfl
    · rw [modUnit_units, upd_get]
      split_ifs
      · exact failures _
      · exact id
  scans _ := .of_txns rfl (fun _ => le_refl _) fun _ => .refl _

/-- Scan frames leave the queue of a kiosk link. -/
theorem Eased.framesLeave (k : Kiosk) {f : KioskLink → KioskLink} (s : State)
    (fewer : ∀ q, (f q).scan.Sublist q.scan) : Eased s (modKiosk k f s) where
  toBusEased := .of_same rfl rfl rfl
  scans i := by
    refine .of_txns rfl (fun m => ?_) fun _ => .refl _
    unfold framesWaiting
    rw [modKiosk_kiosks, upd_get]
    split_ifs
    · exact ((fewer _).filter _).length_le
    · exact le_refl _

/-! ### The grant (R165) -/

/-- A grant leaves the state, or takes the service posting, or takes a posting from its slot's place. -/
theorem grant_postings (s : State) : grant s = s ∨ (∃ p, grant s = grantService p s) ∨
    ∃ r i p, s.bus = .idle ∧ s.board[i] = some p ∧ grant s = grantSlot r i p s := by
  unfold grant
  split
  · next idle =>
    split
    · next p _ => exact .inr (.inl ⟨p, rfl⟩)
    · split
      · exact .inl rfl
      · next r i _ =>
        split
        · exact .inl rfl
        · next p waits => exact .inr (.inr ⟨r, i, p, idle, waits, rfl⟩)
  · exact .inl rfl

/-- A posting that stays at a grant (R166). -/
def Posting.aged (p : Posting) : Posting := { p with aging := min 16 (p.aging + 1) }

theorem ageBoard_get (b : Vector (Option Posting) 12) (i : Slot) : (ageBoard b)[i] = (b[i]).map Posting.aged :=
  mapAll_get ..

theorem postedTxns_aged (place : Option Posting) : postedTxns (place.map Posting.aged) = postedTxns place := by
  cases place with
  | none => rfl
  | some p =>
    by_cases own : p.owner = .engine
    · exact (postedTxns_engine (p := p.aged) own).trans (postedTxns_engine own).symm
    · exact (postedTxns_other (p := p.aged) own).trans (postedTxns_other own).symm

theorem stood_aged {p : Posting} (waits : (ageBoard s.board)[i] = some p) : Stood s i p := by
  rw [ageBoard_get] at waits
  obtain ⟨q, stood, rfl⟩ := Option.map_eq_some_iff.mp waits
  exact .inl ⟨q, stood, rfl, fun _ => Nat.min_le_left ..⟩

theorem Eased.grantService (p : Posting) (s : State) : Eased s (grantService p s) where
  kind _ := rfl
  failures _ := id
  board _ _ := stood_aged
  bus x i running slot _ := by
    obtain rfl := BusState.running.inj running
    cases slot
  scans i := .of_txns rfl (fun _ => le_refl _) fun _ => by
    have nothing : flyingTxns (Machine.grantService p s).bus i = [] := flyingTxns_nil fun x running slot => by
      obtain rfl := BusState.running.inj running
      cases slot
    have aged : (Machine.grantService p s).board[i] = (ageBoard s.board)[i] := rfl
    rw [engineTxns_eq, engineTxns_eq, nothing, aged, ageBoard_get, postedTxns_aged]
    exact List.Sublist.append_left (List.nil_sublist _) _

theorem grantSlot_board (r : Rank) (i : Slot) (p : Posting) (s : State) :
    (grantSlot r i p s).board = ageBoard (upd s.board i fun _ => none) := by
  unfold grantSlot
  dsimp only
  split <;> rfl

theorem grantSlot_frame (base : State) (r : Rank) (i : Slot) (p : Posting) (s : State) :
    offGrant base (grantSlot r i p s) = offGrant base s := by
  unfold grantSlot
  dsimp only
  split <;> rfl

theorem grantSlot_field {α : Type} (field : State → α) (r : Rank) (i : Slot) (p : Posting) (s : State)
    (blind : ∀ base u, field (offGrant base u) = field u := by exact fun _ _ => rfl) :
    field (grantSlot r i p s) = field s := field_of_frame field offGrant (grantSlot_frame s r i p s) blind

/-- The granted posting leaves its place; every other one ages. -/
theorem grantSlot_place (r : Rank) (i : Slot) (p : Posting) (s : State) (j : Slot) : (grantSlot r i p s).board[j] =
    if i = j then none else (s.board[j]).map Posting.aged := by
  rw [grantSlot_board, ageBoard_get, upd_get]
  split_ifs <;> rfl

theorem start_name (p : Posting) (capture now : Time) (own : p.owner = .engine) :
    (p.start (some i) capture now).name = engineName p.command p.data := by
  unfold Txn.name Posting.start
  rw [own]

theorem Eased.grantSlot {r : Rank} {p : Posting} (idle : s.bus = .idle) (waits : s.board[i] = some p) :
    Eased s (grantSlot r i p s) where
  kind j := definedKind_congr (grantSlot_field State.units r i p s) j
  failures j := by rw [grantSlot_field State.units]; exact id
  board j q placed := by
    rw [grantSlot_place] at placed
    split_ifs at placed
    exact stood_aged ((ageBoard_get s.board j).trans placed)
  bus x j running slot _ := by
    rw [grantSlot_bus] at running
    obtain rfl := BusState.running.inj running
    cases slot
    exact .inr (.inl (waits ▸ Option.some_ne_none p))
  scans j := by
    refine .of_txns (grantSlot_field (fun u => u.scans[j]) r i p s)
      (fun k => le_of_eq (grantSlot_field (framesWaiting · k j) r i p s)) fun _ => ?_
    have nothing : flyingTxns s.bus j = [] := by rw [idle]; rfl
    rw [engineTxns_eq, engineTxns_eq, grantSlot_place, nothing, grantSlot_bus, List.append_nil]
    by_cases here : i = j
    · subst here
      rw [if_pos rfl, waits]
      by_cases own : p.owner = .engine
      · rw [postedTxns_engine own, flyingTxns_running own rfl rfl, start_name _ _ _ own]
        exact .refl _
      · have away : flyingTxns (.running (p.start (some i) (if p.owner = .cause then (s.attn[i]).capture else 0) s.hubTime))
            i = [] := if_neg fun ⟨isOwn, _⟩ => own isOwn
        rw [away]
        exact List.nil_sublist _
    · have away : flyingTxns (.running (p.start (some i) (if p.owner = .cause then (s.attn[i]).capture else 0) s.hubTime))
          j = [] := if_neg fun ⟨_, slot, _⟩ => here (Option.some.inj slot)
      rw [if_neg here, postedTxns_aged, away, List.append_nil]

theorem Eased.grant (s : State) : Eased s (grant s) := by
  obtain same | ⟨p, taken⟩ | ⟨r, i, p, idle, waits, taken⟩ := grant_postings s
  · rw [same]
    exact .refl s
  · rw [taken]
    exact .grantService p s
  · rw [taken]
    exact .grantSlot idle waits

end Sys2Proof.Machine
end

section
/-!
PROOFS. The operations of the Scan Engines, the Claim Manager, the Zone Map, the Unit Table and the transmitters that ease the
unit bus and the scans.
-/

namespace Sys2Proof.Machine

variable {s t : State} {i : Slot}

theorem Eased.forEach {α : Type} {f : α → State → State} (l : List α) (each : ∀ a t, Eased t (f a t)) (s : State) :
    Eased s (forEach l f s) :=
  forEach_keeps (P := Eased s) (fun a _ t before => before.trans (each a t)) (.refl s)

theorem Eased.then_part {u : State} (first : Eased s t) (same : busPart u = busPart t) : Eased s u :=
  first.trans (.of_part same)

/-! ### The Scan Engines -/

theorem ScanRecord.ownerEnded_outstanding (lapse : Bool) (r : ScanRecord) :
    (r.ownerEnded lapse).outstanding = r.outstanding := by unfold ownerEnded; split_ifs <;> rfl

theorem ScanRecord.ownerEnded_credit (lapse : Bool) (r : ScanRecord) : (r.ownerEnded lapse).credit = r.credit := by
  unfold ownerEnded; split_ifs <;> rfl

theorem ScanRecord.ownerEnded_kiosk (lapse : Bool) (r : ScanRecord) : (r.ownerEnded lapse).kiosk = r.kiosk := by
  unfold ownerEnded; split_ifs <;> rfl

theorem ScanRecord.ownerEnded_pulling (lapse : Bool) (r : ScanRecord) (pulling : (r.ownerEnded lapse).state.pulling = true) :
    r.state.pulling = true := by
  unfold ownerEnded at pulling
  split at pulling
  · cases pulling
  · split at pulling
    · exact pulling
    · exact pulling

theorem Eased.tellScan (c : Claim) (lapse : Bool) (s : State) : Eased s (tellScan c lapse s) := by
  cases resource : c.resource with
  | zone z => rw [tellScan_zone resource]; exact .refl s
  | scanner i =>
    by_cases owner : (s.scans[i]).ownerClaim = some c.id
    · rw [tellScan_owner resource owner]
      exact (Eased.modScan i s (ScanRecord.ownerEnded_outstanding ..) (ScanRecord.ownerEnded_credit ..)
        (ScanRecord.ownerEnded_kiosk ..) (ScanRecord.ownerEnded_pulling lapse _)).then_part (busPart_latchOpt ..)
    · rw [tellScan_other resource owner]
      exact .refl s

theorem Eased.haltScan (i : Slot) (o : ScanOutcome) (s : State) : Eased s (haltScan i o s) :=
  .modScan i s (pulling := nofun)

theorem Eased.scannerCause (i : Slot) (b : Byte) (s : State) : Eased s (scannerCause i b s) := by
  have whether {p : Prop} [Decidable p] {f : State → State} (each : ∀ t, Eased t (f t)) (t : State) :
      Eased t (if p then f t else t) := by
    split_ifs
    · exact each t
    · exact .refl t
  unfold Machine.scannerCause
  refine Eased.trans (Eased.trans ?_ (whether (fun t => ?_) _)) (whether (fun t => ?_) _)
  · split_ifs
    · exact (Eased.haltScan i .unitFault s).then_part (busPart_latchOpt ..)
    · exact .refl s
  · exact .modScan i t
  · exact .modScan i t

theorem Eased.scanStopBlock (slot : Byte) (k : Kiosk) (s : State) : Eased s (scanStopBlock slot k s).1 := by
  unfold Machine.scanStopBlock onScan
  split
  · exact .refl s
  · split_ifs
    · exact .refl s
    · exact .refl s
    · exact .refl s
    · dsimp only
      split_ifs
      · exact .refl s
      · exact .haltScan _ .cancelled s

/-! ### The Claim Manager and the Zone Map -/

theorem busPart_grantHead (x : Resource) (s : State) : busPart (grantHead x s) = busPart s := by
  unfold grantHead
  repeat' split
  · rfl
  · rfl
  · exact (busPart_ownerChange ..).trans rfl

theorem busPart_removeWaiting (c : Claim) (lost : Bool) (s : State) : busPart (removeWaiting c lost s) = busPart s := by
  cases lost <;> rfl

theorem Eased.removeHeld (c : Claim) (why : Removal) (s : State) : Eased s (removeHeld c why s) := by
  have told (lapse : Bool) : Eased s (Machine.tellScan c lapse
      (ownerChange c.resource (decide (why ≠ .clearKiosk)) (dropClaim c.id s))) :=
    (Eased.of_part ((busPart_ownerChange ..).trans (busPart_dropClaim ..))).trans (.tellScan ..)
  cases why with
  | release => exact (told false).then_part (busPart_grantHead ..)
  | clearKiosk => exact (told false).then_part (busPart_grantHead ..)
  | lapse => exact (told true).then_part ((busPart_grantHead ..).trans (busPart_latch ..))
  | resourceGone => exact (told false).then_part (busPart_latch ..)

theorem Eased.removeResource (x : Resource) (s : State) : Eased s (removeResource x s) := by
  have held : Eased s ((holder? s x).elim s fun c => Machine.removeHeld c .resourceGone s) := by
    cases holder? s x with
    | none => exact .refl s
    | some c => exact .removeHeld c .resourceGone s
  refine held.trans (Eased.forEach _ (fun id t => ?_) _)
  cases claim? t id with
  | none => exact .refl t
  | some c => exact .of_part (busPart_removeWaiting c true t)

theorem Eased.clearClaims (k : Kiosk) (s : State) : Eased s (clearClaims k s) :=
  (Eased.forEach _ (fun _ _ => .of_part (busPart_removeWaiting ..)) s).trans (Eased.forEach _ (fun _ _ => .removeHeld ..) _)

theorem Eased.changeZone (z : ZoneIx) (entry : Option Zone) (s : State) : Eased s (changeZone z entry s) := by
  have muted : Eased s (muteZone z true s) := .of_part (busPart_muteContacts ..)
  have claims : Eased s (if Zone.isOpen s.zones[z] && !Zone.isOpen entry then
      Machine.removeResource (.zone z) (muteZone z true s) else muteZone z true s) := by
    split_ifs
    · exact muted.trans (.removeResource ..)
    · exact muted
  unfold Machine.changeZone
  dsimp only
  generalize (if Zone.isOpen s.zones[z] && !Zone.isOpen entry then
    Machine.removeResource (.zone z) (muteZone z true s) else muteZone z true s) = t at claims ⊢
  refine claims.then_part ?_
  unfold zoneChanged
  dsimp only
  split_ifs
  · exact (busPart_latchOpt ..).trans rfl
  · exact (busPart_latchOpt ..).trans ((busPart_latchOpt ..).trans rfl)

theorem Eased.applyRecord (q : ZoneRecord) (s : State) : Eased s (applyRecord q s) := by
  unfold Machine.applyRecord
  cases zoneOf q with
  | none => exact .refl s
  | some p =>
    simp only [Option.elim_some]
    unfold applyZone
    split
    · exact .changeZone ..
    · split_ifs
      · exact .of_part rfl
      · exact .changeZone ..

theorem Eased.clearZone (z : ZoneIx) (s : State) : Eased s (clearZone z s) := by
  unfold Machine.clearZone
  split_ifs
  · exact .refl s
  · exact .changeZone ..

theorem Eased.clearPanelZones (i : Slot) (s : State) : Eased s (clearPanelZones i s) :=
  Eased.forEach _ (fun z t => by
    unfold clearZoneOf
    split_ifs
    · exact .clearZone z t
    · exact .refl t) s

theorem Eased.zoneSetBlock (records : List ZoneRecord) (s : State) : Eased s (zoneSetBlock records s).1 := by
  unfold Machine.zoneSetBlock
  split
  · exact .refl s
  · exact Eased.forEach _ .applyRecord s

theorem Eased.zoneClearBlock (l : List Byte) (s : State) : Eased s (zoneClearBlock l s).1 := by
  unfold Machine.zoneClearBlock
  split
  · exact .refl s
  · refine Eased.forEach _ (fun b t => ?_) s
    cases index? 32 b.toNat with
    | none => exact .refl t
    | some z => exact .clearZone z t

theorem Eased.releaseBlock (id : Byte) (k : Kiosk) (s : State) : Eased s (releaseBlock id k s).1 := by
  unfold Machine.releaseBlock
  split
  · exact .refl s
  · next c _ =>
    split_ifs
    · exact .refl s
    · exact .removeHeld c .release s
    · exact .of_part (busPart_removeWaiting c false s)

theorem Eased.forceReleaseBlock (id : Byte) (s : State) : Eased s (forceReleaseBlock id s).1 := by
  unfold Machine.forceReleaseBlock
  split
  · exact .refl s
  · dsimp only
    split_ifs
    · exact .removeHeld ..
    · exact .of_part (busPart_removeWaiting ..)

theorem Eased.expireLease (id : Byte) (s : State) : Eased s (expireLease id s) := by
  unfold Machine.expireLease
  split
  · exact .refl s
  · split_ifs
    · exact .removeHeld ..
    · exact .refl s

theorem Eased.expireWait (id : Byte) (s : State) : Eased s (expireWait id s) := by
  unfold Machine.expireWait
  split
  · exact .refl s
  · split_ifs
    · exact .of_part (busPart_removeWaiting ..)
    · exact .refl s

theorem Eased.clearKioskBlock (l : Link) (named : Option Byte) (s : State) : Eased s (clearKioskBlock l named s).1 := by
  unfold Machine.clearKioskBlock
  split
  · exact .refl s
  · next k _ =>
    have jobs : Eased s (clearJobs k (muteKiosk k (Machine.clearClaims k s))) :=
      (Eased.clearClaims k s).then_part ((busPart_clearJobs ..).trans (busPart_muteContacts ..))
    exact (jobs.trans (.framesLeave k _ fun _ => List.nil_sublist _)).then_part (busPart_clearNotices ..)

/-! ### Postings -/

theorem Eased.postProbe (p : ProbeStep) (defined : definedKind s i ≠ none) : Eased s (postProbe i p s) :=
  .place (Nat.zero_le _) nofun defined fun _ => nofun

theorem kindRank_ne_service (k : UnitKind) : kindRank k ≠ .service := by cases k <;> nofun

theorem Eased.postCause (k : UnitKind) (defined : definedKind s i ≠ none) : Eased s (postCause i k s) :=
  .place (Nat.zero_le _) (kindRank_ne_service k) defined fun _ => nofun

theorem Eased.chooseFeed (kind : definedKind s i = some .printer) : Eased s (chooseFeed i s) := by
  have post {u : State} (same : busPart u = busPart s) (w : TxnName) (data : List Byte) (address : State) :
      Eased s (Machine.place i (posting address i .engine .printer w data) u) := by
    have kept : definedKind u i = some .printer := ((Eased.of_part same).kind i).trans kind
    exact (Eased.of_part same).trans (.place (Nat.zero_le _) nofun (by rw [kept]; nofun) (by rw [kept]; nofun))
  unfold Machine.chooseFeed
  split_ifs
  · exact .refl s
  · cases feedWork s.feeds[i] (headJob? s i) with
    | none => exact .refl s
    | some w =>
      dsimp only
      split_ifs
      · exact post ((busPart_reportStarted ..).trans (busPart_modFeed ..)) ..
      · exact post (busPart_modFeed ..) ..

theorem Eased.choosePanel (kind : definedKind s i = some .panel) : Eased s (choosePanel i s) := by
  unfold Machine.choosePanel
  split_ifs
  · refine (Eased.of_part (busPart_modPanel ..)).trans (.place (Nat.zero_le _) nofun ?_ ?_)
    · exact kind.trans_ne nofun
    · exact fun scanner => nomatch scanner.symm.trans kind
  · exact .refl s

/-! ### The Unit Table -/

theorem Eased.becomeReady (i : Slot) (s : State) : Eased s (becomeReady i s) := by
  have ready : Eased s (Machine.modUnit i (fun u => { setUnitState .ready u with failures := 0, reprobe := none }) s) :=
    .modUnit i s (setUnitState_kind .ready) fun _ _ => Nat.zero_le _
  refine ready.then_part ?_
  rw [Machine.becomeReady, busPart_modPanel, busPart_latchAll, busPart_levelRule, busPart_modAttn]

theorem Eased.identified (i : Slot) (d : List Byte) (s : State) : Eased s (identified i d s) := by
  have noted : Eased s (Machine.modUnit i (fun u => { u with ident := some (identOf d), probe := none }) s) :=
    .of_part (busPart_modUnit i s)
  unfold Machine.identified
  dsimp only
  split_ifs
  · exact noted
  · exact noted.trans (.becomeReady ..)
  · exact noted.then_part (busPart_modUnit i _ (setUnitState_kind .mismatch))

theorem Eased.orphan (i : Slot) (s : State) : Eased s (orphan i s) := by
  unfold Machine.orphan
  split
  · split_ifs
    · exact .freed fun x running => by rw [← BusState.running.inj running]
    · exact .refl s
  · exact .refl s

theorem Eased.expireReprobe (i : Slot) (s : State) : Eased s (expireReprobe i s) := by
  unfold Machine.expireReprobe
  split
  · next lost _ =>
    split_ifs
    · have stopped : Eased s (Machine.modUnit i (fun u => { u with reprobe := none, probe := some .ping }) s) :=
        .of_part (busPart_modUnit i s)
      refine stopped.trans (.postProbe .ping ?_)
      rw [stopped.kind]
      unfold definedKind
      unfold unitState at lost
      cases defined : (s.units[i]).definition with
      | none => rw [defined] at lost; cases lost
      | some d => nofun
    · exact .refl s
  · exact .refl s

theorem Eased.finishSoft (s : State) : Eased s (finishSoft s) := by
  have first (i : Slot) (t : State) : Eased t (postFirstPing i t) := by
    unfold postFirstPing
    split_ifs with defined
    · refine .postProbe .ping fun none => ?_
      unfold definedKind at none
      unfold unitState at defined
      rw [Option.map_eq_none_iff.mp none] at defined
      cases defined
    · exact .refl t
  unfold Machine.finishSoft
  cases softDone? s with
  | none => exact .refl s
  | some r =>
    have answered : Eased s (queueReply serviceLink r (reply .ok []) { s with phase := .running }) :=
      .of_part ((busPart_queueReply serviceLink r _ { s with phase := .running }).trans rfl)
    rw [Option.elim_some]
    exact answered.trans (Eased.forEach (indices 12) first _)

/-! ### The controller and the transmitters -/

theorem Eased.endRecovery (s : State) : Eased s (endRecovery s) :=
  (Eased.freed (b := .idle) nofun).then_part rfl

theorem Eased.endRelease (s : State) : Eased s (endRelease s) := by
  unfold Machine.endRelease
  split
  · exact .endRecovery s
  · exact .refl s

theorem Eased.giveUpRelease (s : State) : Eased s (giveUpRelease s) := by
  unfold Machine.giveUpRelease
  split
  · split_ifs
    · exact .endRecovery s
    · exact .refl s
  · exact .refl s

theorem Eased.transmit (l : Link) (s : State) : Eased s (transmit l s) := by
  have sent (slot : Option ReqSlot) (bytes : List Byte) (t : State) : busPart (send l slot bytes t) = busPart t := rfl
  have scan (k : Kiosk) (f : ScanFrame) : Eased s (sendScan l k f s) :=
    (Eased.framesLeave k s (f := fun q => { q with scan := q.scan.tail, streak := 0 }) fun q => q.scan.tail_sublist).then_part
      (sent ..)
  unfold Machine.transmit
  split_ifs
  · exact .refl s
  · split
    · exact .of_part rfl
    · cases kioskOf l with
      | none => exact .refl s
      | some k =>
        rw [Option.elim_some]
        unfold chooseUnasked
        dsimp only
        split
        · exact .of_part rfl
        · split_ifs
          · exact .of_part rfl
          · split
            · exact scan ..
            · exact .of_part ((sent ..).trans (busPart_modKiosk k s))
            · exact scan ..
            · exact .refl s

end Sys2Proof.Machine
end

section
/-!
PROOFS. A law of the board, the units and the scans is kept by every step when it survives what eases the bus, and the few
operations that do not: the walk through the end of an event, the outcomes of the unit bus, the requests and the commands.
-/

namespace Sys2Proof.Machine

/-- What a UNIT REMOVE makes of a slot once its work is torn down (R142). -/
def undefineSlot (i : Slot) (s : State) : State :=
  modUnit i (fun u => { u with definition := none, ident := none, failures := 0, probe := none, enable := false })
    (freshEngines i s)

/-- What a law of the board, the units and the scans has to survive to be kept by every step. -/
structure BusKept (P : State → Prop) : Prop where
  /-- What eases the unit bus and every scan. -/
  eased : ∀ {s t}, Eased s t → P s → P t
  /-- Both resets (R134, R150, R151, R169, R170). -/
  full : ∀ s, P (fullReset s)
  soft : ∀ {s} r, P s → P (softReset r s)
  /-- A Scan Engine chooses its work (R123). -/
  chooseScan : ∀ {s} i, definedKind s i = some .scanner → P s → P (chooseScan i s)
  /-- The next probe step is posted once the one in flight has ended (R138). -/
  probeNext : ∀ {s t b i} p, s.bus = .running t → t.slot = some i → t.orphaned = false → (∀ x, b ≠ .running x) →
    P s → P (probeNext i p { s with bus := b })
  /-- A Scan Engine acts once its transaction in flight has ended (R124). -/
  scanAct : ∀ {s t b i} o d, s.bus = .running t → t.owner = .engine → t.slot = some i → t.orphaned = false →
    definedKind s i = some .scanner → (∀ x, b ≠ .running x) → P s → P (scanAct i t.name o d { s with bus := b })
  /-- A scanner lost or removed (R132). -/
  scannerGone : ∀ {s} i, OffBus s i → P s → P (scannerGone i s)
  /-- A slot removed, or an UNDEFINED one defined (R137, R142). -/
  undefined : ∀ {s} i, OffBus s i → P s → P (undefineSlot i s)
  defined : ∀ {s} i address k m enable, definedKind s i = none → P s → P (defineSlot i address k m enable s)
  /-- SCAN START and SCAN CREDIT (R122, R128). -/
  start : ∀ {s} slot g k, P s → P (scanStartBlock slot g k s).1
  credit : ∀ {s} slot n k, P s → P (scanCreditBlock slot n k s).1

/-! ### The board and the controller where they stay -/

theorem clearPanelZones_board (i : Slot) (s : State) : (clearPanelZones i s).board = s.board :=
  field_of_frame State.board offZones (clearPanelZones_frame s i s)

theorem clearPanelZones_bus (i : Slot) (s : State) : (clearPanelZones i s).bus = s.bus :=
  field_of_frame State.bus offZones (clearPanelZones_frame s i s)

theorem removeResource_board (r : Resource) (s : State) : (removeResource r s).board = s.board :=
  field_of_frame State.board offClaims (removeResource_frame s r s)

theorem removeResource_bus (r : Resource) (s : State) : (removeResource r s).bus = s.bus :=
  field_of_frame State.bus offClaims (removeResource_frame s r s)

theorem scannerGone_board (i : Slot) (s : State) : (scannerGone i s).board = s.board :=
  field_of_frame State.board offScan (scannerGone_frame s i s)

theorem scannerGone_bus (i : Slot) (s : State) : (scannerGone i s).bus = s.bus :=
  field_of_frame State.bus offScan (scannerGone_frame s i s)

theorem scannerCause_bus (i : Slot) (b : Byte) (s : State) : (scannerCause i b s).bus = s.bus :=
  (congrArg State.bus (scannerCause_frame s i b s) :)

theorem bus_of_part {s t : State} (same : busPart t = busPart s) : t.bus = s.bus := (congrArg State.bus same :)

theorem board_of_part {s t : State} (same : busPart t = busPart s) : t.board = s.board := (congrArg State.board same :)

theorem causeAct_bus (i : Slot) (o : BusOutcome) (d : List Byte) (capture : Time) (s : State) :
    (causeAct i o d capture s).bus = s.bus := by
  unfold causeAct
  refine (bus_of_part (busPart_levelRule ..)).trans ?_
  split_ifs
  · unfold causeToEngine
    split
    · exact bus_of_part (busPart_printerCause ..)
    · exact scannerCause_bus ..
    · exact bus_of_part (busPart_panelCause ..)
    · rfl
  · rfl

theorem engineAct_bus (i : Slot) (w : TxnName) (o : BusOutcome) (d : List Byte) (s : State) :
    (engineAct i w o d s).bus = s.bus := by
  unfold engineAct
  split
  · exact bus_of_part (busPart_feedAct ..)
  · exact (congrArg State.bus (scanAct_frame s i w o d s) :)
  · exact bus_of_part (busPart_panelAct ..)
  · rfl

theorem fillPlace_bus (i : Slot) (s : State) : (fillPlace i s).bus = s.bus := fillPlace_field State.bus i s

namespace BusKept

variable {P : State → Prop} (kept : BusKept P) {s : State}
include kept

theorem part {t : State} (same : busPart t = busPart s) (h : P s) : P t := kept.eased (.of_part same) h

/-! ### The end of an event -/

theorem fillPlace (i : Slot) (h : P s) : P (Machine.fillPlace i s) := by
  unfold Machine.fillPlace
  split
  · exact h
  · next d definition =>
    have kind : definedKind s i = some d.kind := congrArg (Option.map UnitDef.kind) definition
    split_ifs
    · exact kept.eased (.postCause d.kind (kind.trans_ne nofun)) h
    · unfold chooseWork
      cases same : d.kind with
      | printer => exact kept.eased (.chooseFeed (same ▸ kind)) h
      | scanner => exact kept.chooseScan i (same ▸ kind) h
      | panel => exact kept.eased (.choosePanel (same ▸ kind)) h
    · exact h

theorem settle (h : P s) : P (Machine.settle s) := by
  have filled {t : State} (ht : P t) : P (fillPlaces t) := forEach_keeps (fun i _ _ => kept.fillPlace i) ht
  unfold Machine.settle
  split
  · exact h
  · exact kept.part (busPart_levelRules s) h
  · refine kept.eased (.forEach _ .transmit _) ?_
    rw [settleBus_eq]
    exact filled (kept.eased (.grant _) (filled (kept.part (busPart_levelRules s) h)))

/-! ### Outcomes of the unit bus (R141, R162) -/

theorem causeAct (i : Slot) (o : BusOutcome) (d : List Byte) (capture : Time) (h : P s) :
    P (Machine.causeAct i o d capture s) := by
  unfold Machine.causeAct
  refine kept.part (busPart_levelRule ..) ?_
  split_ifs
  · unfold causeToEngine
    split
    · exact kept.part (busPart_printerCause ..) h
    · exact kept.eased (.scannerCause ..) h
    · exact kept.part (busPart_panelCause ..) h
    · exact h
  · exact kept.part (busPart_modAttn ..) h

theorem slotLost (i : Slot) (free : ∀ x, s.bus ≠ .running x) (h : P s) : P (Machine.slotLost i s) := by
  have lost : P (withdraw i (setLost i s)) := kept.eased (.withdraw ..) (kept.part (busPart_setLost ..) h)
  have off : OffBus (withdraw i (setLost i s)) i := ⟨upd_get_self .., fun x running => absurd running (free x)⟩
  unfold Machine.slotLost
  refine kept.part (busPart_latchAll ..) ?_
  unfold tearDown
  split
  · exact kept.part (busPart_printerLost ..) lost
  · exact kept.scannerGone i off lost
  · exact kept.part (busPart_panelGone ..) lost
  · exact lost

theorem countFailure (i : Slot) (o : BusOutcome) (free : ∀ x, s.bus ≠ .running x) (h : P s) :
    P (Machine.countFailure i o s) := by
  have raised : P (raiseFailures i s) := by
    have more : P (modUnit i (fun u => { u with failures := min 3 (u.failures + 1) }) s) :=
      kept.eased (.modUnit i s (failures := fun _ _ => Nat.min_le_left ..)) h
    unfold raiseFailures
    dsimp only
    split_ifs
    · exact kept.slotLost i free more
    · exact more
  unfold Machine.countFailure
  split_ifs
  · split
    · exact kept.eased (.modUnit i s (failures := fun _ _ => Nat.zero_le _)) h
    · exact h
    · exact h
    · exact raised
  · exact h

/-- A transaction has ended with an outcome, and the controller holds none (R162). -/
theorem handOn {t : Txn} {b : BusState} (running : s.bus = .running t) (p : Progress) (o : BusOutcome)
    (free : ∀ x, b ≠ .running x) (h : P s) : P (Machine.handOn { t with progress := p } o { s with bus := b }) := by
  have freed : P { s with bus := b } := kept.eased (.freed fun x held => absurd held (free x)) h
  unfold Machine.handOn
  split_ifs with orphaned
  · exact freed
  · have lives : t.orphaned = false := by simpa using orphaned
    split
    · next i _ _ =>
      refine kept.countFailure i o (fun x => ?_) (kept.fillPlace i (kept.causeAct i o _ _ freed))
      rw [fillPlace_bus, causeAct_bus]
      exact free x
    · next i owner slot =>
      have acted : P (engineAct i t.name o (okData { t with progress := p } o) { s with bus := b }) := by
        unfold engineAct
        split
        · exact kept.part (busPart_feedAct ..) freed
        · next kind => exact kept.scanAct o _ running owner slot lives kind free h
        · exact kept.part (busPart_panelAct ..) freed
        · exact freed
      refine kept.countFailure i o (fun x => ?_) (kept.fillPlace i acted)
      rw [fillPlace_bus, engineAct_bus]
      exact free x
    · next i _ slot =>
      unfold probeAct
      split_ifs
      · split
        · exact kept.probeNext .restart running slot lives free h
        · exact kept.probeNext .ident running slot lives free h
        · exact kept.eased (.identified ..) freed
      · exact kept.part (busPart_setLost ..) freed
    · exact kept.part (busPart_rawAct ..) freed
    · exact freed

theorem endTransaction {t : Txn} (running : s.bus = .running t) (p : Progress) (o : BusOutcome) (h : P s) :
    P (Machine.endTransaction { t with progress := p } o s) :=
  kept.handOn running p o (fun x => by cases o <;> nofun) h

theorem complete (w : TxnName) (a : UnitAnswer) (h : P s) : P (Machine.complete w a s) := by
  unfold Machine.complete
  split
  · next running =>
    split_ifs
    · exact kept.endTransaction running _ _ h
    · exact h
  · exact h

theorem completeRaw (a : UnitAnswer) (h : P s) : P (Machine.completeRaw a s) := by
  unfold Machine.completeRaw
  split
  · next running =>
    split_ifs
    · exact kept.endTransaction running _ _ h
    · exact h
  · exact h

theorem expireStall (sent : Nat) (received : List Byte) (h : P s) : P (Machine.expireStall sent received s) := by
  unfold Machine.expireStall
  split
  · next running =>
    split_ifs
    · exact kept.endTransaction running _ _ h
    · exact h
  · exact h

theorem busAbortBlock (h : P s) : P (Machine.busAbortBlock s).1 := by
  unfold Machine.busAbortBlock
  split
  · next running =>
    exact kept.endTransaction (s := { s with freeDrawn := s.freeDrawn + 1 }) running _ _ (kept.part (s := s) rfl h)
  · exact h

/-! ### The blocks of the requests -/

theorem removeSlot (i : Slot) (k : UnitKind) (h : P s) : P (Machine.removeSlot i k s) := by
  unfold Machine.removeSlot
  dsimp only
  refine kept.part ((busPart_latchAll ..).trans (busPart_modAttn ..)) ?_
  have start : P (orphan i (withdraw i (modUnit i (fun u => { u with reprobe := none }) s))) :=
    kept.eased (.orphan ..) (kept.eased (.withdraw ..) (kept.part (busPart_modUnit i s) h))
  have off : OffBus (orphan i (withdraw i (modUnit i (fun u => { u with reprobe := none }) s))) i := by
    generalize modUnit i (fun u => { u with reprobe := none }) s = t
    have place : (withdraw i t).board[i] = none := upd_get_self ..
    unfold orphan
    split
    · next x running =>
      split_ifs with slot
      · exact ⟨place, fun y flies _ => by rw [← BusState.running.inj flies]⟩
      · exact ⟨place, fun y flies other => absurd (BusState.running.inj (running.symm.trans flies) ▸ other) slot⟩
    · next idle => exact ⟨place, fun y flies => absurd flies (idle y)⟩
  generalize orphan i (withdraw i (modUnit i (fun u => { u with reprobe := none }) s)) = t at start off
  have torn {u : State} (hu : P u) (board : u.board = t.board) (bus : u.bus = t.bus) : P (undefineSlot i u) :=
    kept.undefined i (off.congr board bus) hu
  cases k with
  | panel =>
    have gone : P (panelGone i t) := kept.part (busPart_panelGone ..) start
    exact torn (kept.eased (.clearPanelZones ..) gone)
      ((clearPanelZones_board ..).trans (board_of_part (busPart_panelGone ..)))
      ((clearPanelZones_bus ..).trans (bus_of_part (busPart_panelGone ..)))
  | printer =>
    exact torn (kept.part (busPart_printerRemoved ..) start) (board_of_part (busPart_printerRemoved ..))
      (bus_of_part (busPart_printerRemoved ..))
  | scanner =>
    exact torn (kept.eased (.removeResource ..) (kept.scannerGone i off start))
      ((removeResource_board ..).trans (scannerGone_board ..)) ((removeResource_bus ..).trans (scannerGone_bus ..))

theorem unitRemoveBlock (slot : Byte) (h : P s) : P (Machine.unitRemoveBlock slot s).1 := by
  unfold Machine.unitRemoveBlock
  split
  · exact h
  · split
    · exact h
    · exact kept.removeSlot _ _ h

theorem unitDefineBlock (slot address kind mode enable : Byte) (h : P s) :
    P (Machine.unitDefineBlock slot address kind mode enable s).1 := by
  unfold Machine.unitDefineBlock
  split
  · exact h
  · next i _ =>
    split_ifs with defined
    · exact h
    · exact h
    · split
      · exact h
      · split
        · exact h
        · exact h
        · exact kept.defined i _ _ _ _ (by simpa [unitState, definedKind] using defined) h

theorem resetBlock (kind : Byte) (r : ReqSlot) (h : P s) : P (Machine.resetBlock kind r s).1 := by
  unfold Machine.resetBlock
  split_ifs
  · exact kept.full s
  · exact kept.soft r h
  · exact h

/-- The block of every request kind keeps the law. -/
theorem blockOf (kind : ReqKind) (l : Link) (p : List Byte) (r : ReqSlot) (h : P s) :
    P (Machine.blockOf kind l p r s).1 := by
  have forKiosk {f : Kiosk → State → State × List Byte} (hf : ∀ k, P (f k s).1) : P (Machine.forKiosk l f s).1 := by
    unfold Machine.forKiosk
    split
    · exact hf _
    · exact h
  cases kind with
  | clearKiosk => exact kept.eased (.clearKioskBlock ..) h
  | reset => exact kept.resetBlock _ r h
  | zoneSet => exact kept.eased (.zoneSetBlock ..) h
  | zoneClear => exact kept.eased (.zoneClearBlock ..) h
  | release => exact forKiosk fun k => kept.eased (.releaseBlock ..) h
  | forceRelease => exact kept.eased (.forceReleaseBlock ..) h
  | scanStart => exact forKiosk fun k => kept.start _ _ k h
  | scanCredit => exact forKiosk fun k => kept.credit _ _ k h
  | scanStop => exact forKiosk fun k => kept.eased (.scanStopBlock ..) h
  | unitDefine => exact kept.unitDefineBlock _ _ _ _ _ h
  | unitRemove => exact kept.unitRemoveBlock _ h
  | busAbort => exact kept.busAbortBlock h
  | _ => -- the blocks of the other kinds leave this part of the state alone
    exact kept.part (by simp [Machine.blockOf]) h

/-! ### The commands -/

theorem arrive (a : Arrival) {block : ReqSlot → State → State × BlockAnswer}
    (hb : ∀ r t, P t → P (block r t).1) (h : P s) : P (Machine.arrive a block s) := by
  unfold Machine.arrive
  split_ifs
  · exact h
  · exact kept.part (s := s) rfl h
  · split
    · exact kept.part (s := s) rfl h
    · next r _ =>
      have holds : P (holdSlot a r s) := kept.part (s := s) rfl h
      unfold dispatch
      split
      · exact kept.part (busPart_queueReply ..) holds
      · have acted := hb r _ holds
        split
        · next answered =>
          rw [answered] at acted
          exact kept.part (busPart_queueReply ..) acted
        · next answered => rwa [answered] at acted

theorem event {t : State} (h : P t) : Answers P (.next (Machine.settle t)) := by
  rintro u ⟨⟩
  exact kept.settle h

theorem request (a : Arrival) {block : ReqSlot → State → State × BlockAnswer}
    (hb : ∀ r t, P t → P (block r t).1) (h : P s) : Answers P (Machine.request a block s) :=
  kept.event (kept.arrive a hb h)

/-- A request whose block leaves this part of the state alone. -/
theorem otherRequest (a : Arrival) {block : ReqSlot → State → State × BlockAnswer}
    (hb : ∀ r t, busPart (block r t).1 = busPart t) (h : P s) : Answers P (Machine.request a block s) :=
  kept.request a (fun r t => kept.part (hb r t)) h

/-- A request whose block eases the bus and the scans. -/
theorem easedRequest (a : Arrival) {f : State → State × List Byte} (eases : ∀ t, Eased t (f t).1) (h : P s) :
    Answers P (Machine.request a (atOnce f) s) :=
  kept.request a (fun _ t => kept.eased (eases t)) h

theorem kioskRequest (a : Arrival) {l : Link} {f : Kiosk → State → State × List Byte}
    (hf : ∀ k t, P t → P (f k t).1) (h : P s) : Answers P (Machine.request a (atOnce (forKiosk l f)) s) := by
  refine kept.request a (fun r t ht => ?_) h
  rw [atOnce_state]
  unfold forKiosk
  split
  · exact hf _ t ht
  · exact ht

theorem frameArrived (l : Link) (code tag : Byte) (p : List Byte) (h : P s) :
    P (Machine.frameArrived l code tag p s) := by
  unfold Machine.frameArrived
  split
  · exact kept.arrive _ (fun _ _ ht => ht) h
  · exact kept.arrive _ (fun r _ => kept.blockOf _ l p r) h

theorem byteReceived (l : Link) (b : Byte) (h : P s) : P (Machine.byteReceived l b s) := by
  have moved (r : Receiver) : P (setReceiver l r s) := kept.part (s := s) rfl h
  unfold Machine.byteReceived
  split_ifs
  · unfold receive
    split
    · split_ifs
      · exact moved _
      · exact h
    · split_ifs
      · exact kept.part (s := s) rfl h
      · exact moved _
    · split_ifs
      · exact moved _
      · unfold frameEnded
        dsimp only
        split_ifs
        · exact kept.frameArrived l _ _ _ (moved _)
        · exact kept.part (s := s) rfl h
  · exact h

theorem exec (i : Instr) (h : P s) : Answers P (Machine.exec i s) := by
  have easing {t : State} (eases : Eased s t) : Answers P (.next (Machine.settle t)) := kept.event (kept.eased eases h)
  cases i with
  | powerOn => exact kept.event (kept.part (s := Machine.fullReset s) rfl (kept.full s))
  | resetPinAssert => exact kept.event (kept.part (s := Machine.fullReset s) rfl (kept.full s))
  | fullResetComplete => exact easing (.of_part (busPart_finishFull s))
  | softResetComplete => exact easing (.finishSoft s)
  | resetFull => exact kept.request _ (fun r _ => kept.resetBlock 2 r) h
  | resetSoft => exact kept.request _ (fun r _ => kept.resetBlock 1 r) h
  | linkByteReceived l b => exact kept.event (kept.byteReceived l b h)
  | characterError l => exact easing (.of_part (busPart_characterFault l s))
  | transmitEnd l => exact easing (.of_part (busPart_frameSent l s))
  | clearKiosk l _ named => exact kept.easedRequest _ (.clearKioskBlock l named) h
  | zoneSet _ _ records => exact kept.easedRequest _ (.zoneSetBlock records) h
  | zoneClear _ _ list => exact kept.easedRequest _ (.zoneClearBlock list) h
  | release _ _ id => exact kept.kioskRequest _ (fun k t => kept.eased (.releaseBlock id k t)) h
  | forceRelease _ _ id => exact kept.easedRequest _ (.forceReleaseBlock id) h
  | leaseExpiry id => exact easing (.expireLease id s)
  | waitLimitExpiry id => exact easing (.expireWait id s)
  | fillStallExpiry id => exact easing (.of_part (busPart_expireFill id s))
  | scanStart _ _ slot x y w height resolution mode credit =>
    exact kept.kioskRequest _ (fun k _ => kept.start slot _ k) h
  | scanCredit _ _ slot n => exact kept.kioskRequest _ (fun k _ => kept.credit slot n k) h
  | scanStop _ _ slot => exact kept.kioskRequest _ (fun k t => kept.eased (.scanStopBlock slot k t)) h
  | unitDefine _ _ slot address kind mode enable =>
    exact kept.request _ (fun _ _ => kept.unitDefineBlock slot address kind mode enable) h
  | unitRemove _ _ slot => exact kept.request _ (fun _ _ => kept.unitRemoveBlock slot) h
  | reprobeTimerExpiry i => exact easing (.expireReprobe i s)
  | attnLineChange i high => exact easing (.of_part (busPart_attentionChange i high s))
  | busRawComplete a => exact kept.event (kept.completeRaw a h)
  | busAbort => exact kept.request _ (fun _ _ => kept.busAbortBlock) h
  | stallTimerExpiry sent received => exact kept.event (kept.expireStall sent received h)
  | releaseSequenceEnd => exact easing (.endRelease s)
  | releaseWaitTimeout => exact easing (.giveUpRelease s)
  | markStartComplete | creditReadComplete | feedComplete | markEndComplete | pstateReadComplete | markAbortComplete
  | ssetComplete | sgoComplete | availReadComplete | pullComplete | sstateReadComplete | shaltComplete
  | pingComplete | restartComplete | identComplete | causePollComplete | contactsReadComplete =>
    exact kept.event (kept.complete _ _ h)
  | _ => -- the blocks of the other requests leave this part of the state alone
    exact kept.otherRequest _ (by simp) h

theorem tick (h : P s) : P (Machine.tick s) := by
  unfold Machine.tick
  split_ifs
  · exact h
  · exact kept.part (s := s) rfl h
  · exact kept.part (s := Machine.settle s) rfl (kept.settle h)

/-- Every step keeps the law. -/
theorem keptByStep : KeptByStep P := by
  intro s t h hstep
  unfold step at hstep
  split at hstep
  · cases hstep
    exact kept.tick h
  · next c rest _ =>
    have front : P { s with pending := rest } := kept.part (s := s) rfl h
    exact kept.exec c front t hstep

end BusKept

end Sys2Proof.Machine
end

section
/-!
PROOFS. The law of counts and ranks (R135, R164, R166) survives what eases the bus, both resets, and the operations that do
not.
-/

namespace Sys2Proof.Machine

variable {s t : State} {i : Slot}

theorem BusEased.countLaw (eased : BusEased s t) (h : CountLaw s) : CountLaw t := by
  obtain ⟨posted, failed⟩ := h
  refine ⟨fun i p waits => ?_, fun i => eased.failures i (failed i)⟩
  obtain ⟨q, stood, rank, aging⟩ | ⟨aging, rank, -⟩ := eased.board i p waits
  · obtain ⟨low, below⟩ := posted i q stood
    exact ⟨aging low, rank ▸ below⟩
  · exact ⟨aging, rank⟩

theorem CountLaw.congr (h : CountLaw s) (board : t.board = s.board) (units : t.units = s.units) : CountLaw t := by
  unfold CountLaw
  rw [board, units]
  exact h

theorem CountLaw.place {p : Posting} (h : CountLaw s) (aging : p.aging ≤ 16) (rank : p.rank ≠ .service) :
    CountLaw (place i p s) := by
  obtain ⟨posted, failed⟩ := h
  refine ⟨fun j q waits => ?_, failed⟩
  by_cases here : i = j
  · subst here
    obtain rfl : p = q := Option.some.inj ((upd_get_self ..).symm.trans waits)
    exact ⟨aging, rank⟩
  · exact posted j q ((upd_get_ne _ _ _ _ here).symm.trans waits)

/-- The slot has a posting of the hub's own, whatever it was. -/
theorem CountLaw.posted {w : TxnName} {d : List Byte} {owner : Owner} {rank : Rank} (h : CountLaw s)
    (below : rank ≠ .service) (u : State) : CountLaw (Machine.place i (posting u i owner rank w d) s) :=
  h.place (Nat.zero_le _) below

theorem CountLaw.modUnit {f : UnitSlot → UnitSlot} (h : CountLaw s)
    (failures : ∀ u, u.failures ≤ 3 → (f u).failures ≤ 3) : CountLaw (modUnit i f s) := by
  obtain ⟨posted, failed⟩ := h
  refine ⟨posted, fun j => ?_⟩
  rw [modUnit_units, upd_get]
  split_ifs
  · exact failures _ (failed _)
  · exact failed j

theorem CountLaw.part (h : CountLaw s) (same : busPart t = busPart s) : CountLaw t := (Eased.of_part same).countLaw h

theorem busPart_freshEngines (i : Slot) (s : State) :
    busPart (freshEngines i s) = busPart (modScan i (fun _ => .reset) s) := by
  unfold freshEngines
  rfl

/-- The slot a UNIT DEFINE writes (R137). -/
def UnitSlot.defined (address : Nat) (k : UnitKind) (m : AttnMode) (enable : Bool) : UnitSlot :=
  { definition := some { address := address, kind := k, state := .probing }, mode := m, enable := enable
    failures := 0, probe := some .ping, reprobe := none, ident := none }

theorem defineSlot_eq (i : Slot) (address : Nat) (k : UnitKind) (m : AttnMode) (enable : Bool) (s : State) :
    defineSlot i address k m enable s =
      postProbe i .ping (freshEngines i (modAttn i (fun a => { a with pending := false })
        (modUnit i (fun _ => .defined address k m enable) s))) := by
  unfold defineSlot
  rfl

theorem UnitSlot.softReset_failures (u : UnitSlot) (low : u.failures ≤ 3) : u.softReset.failures ≤ 3 := by
  unfold UnitSlot.softReset
  split
  · exact low
  · exact Nat.zero_le _

/-! ### The requests of a scan, by what they leave (R121, R128) -/

theorem scanStartBlock_state (slot : Byte) (g : ScanSettings) (k : Kiosk) (s : State) :
    (scanStartBlock slot g k s).1 = s ∨ ∃ (i : Slot) (claim : Nat) (m : ScanMode), (s.scans[i]).state = .idle ∧
      framesWaiting s k i = 0 ∧
      (scanStartBlock slot g k s).1 = modScan i (fun _ => startRecord s.scans[i] claim k g m (bed s i)) s := by
  unfold scanStartBlock
  split
  · exact .inl rfl
  · next i _ =>
    split
    · exact .inl rfl
    · split
      · exact .inl rfl
      · next c _ =>
        split_ifs with _ away _ left
        · exact .inl rfl
        · exact .inl rfl
        · exact .inl rfl
        · exact .inl rfl
        · exact .inl rfl
        · exact .inr ⟨i, c.id, _, not_not.mp away, Nat.eq_zero_of_not_pos left, rfl⟩

theorem scanCreditBlock_state (slot n : Byte) (k : Kiosk) (s : State) :
    (scanCreditBlock slot n k s).1 = s ∨ ∃ i : Slot, (s.scans[i]).kiosk = some k ∧ (scanCreditBlock slot n k s).1 =
      modScan i (fun r => { r with credit := grantedCredit (s.scans[i]).credit n.toNat (framesWaiting s k i) }) s := by
  unfold scanCreditBlock onScan
  split
  · exact .inl rfl
  · next i _ =>
    split_ifs with _ _ own
    · exact .inl rfl
    · exact .inl rfl
    · exact .inl rfl
    · exact .inr ⟨i, not_not.mp own, rfl⟩

theorem countLaw_kept : BusKept CountLaw where
  eased eases := eases.countLaw
  full s := (countLaw_reset.congr rfl rfl : CountLaw (fullReset s))
  soft {s} r h := by
    refine ⟨countLaw_reset.1, fun i => ?_⟩
    have slot : (softReset r s).units[i] = (s.units[i]).softReset := mapAll_get ..
    rw [slot]
    exact UnitSlot.softReset_failures _ (h.2 i)
  chooseScan {s} i _ h := by
    unfold chooseScan
    split_ifs
    · exact h
    · split
      · exact h
      · next w _ =>
        have chosen : CountLaw (modScan i (scanPosted w) s) := h.congr rfl rfl
        exact chosen.posted (by decide) s
  probeNext {s t b i} p _ _ _ _ h := by
    have next : CountLaw (modUnit i (fun u => { u with probe := some p }) { s with bus := b }) :=
      CountLaw.modUnit (h.congr rfl rfl) fun _ low => low
    exact next.posted (by decide) _
  scanAct {s t b i} o d _ _ _ _ _ _ h := by
    have freed : CountLaw { s with bus := b } := h.congr rfl rfl
    exact freed.congr (field_of_frame State.board offScan (scanAct_frame _ i t.name o d _))
      (field_of_frame State.units offScan (scanAct_frame _ i t.name o d _))
  scannerGone i _ h :=
    h.congr (scannerGone_board ..) (field_of_frame State.units offScan (scannerGone_frame _ i _))
  undefined {s} i _ h := by
    have scan : CountLaw (modScan i (fun _ => .reset) s) := h.congr rfl rfl
    exact (scan.part (busPart_freshEngines i s)).modUnit fun _ _ => Nat.zero_le _
  defined {s i} address k m enable _ h := by
    rw [defineSlot_eq]
    have defined : CountLaw (modUnit i (fun _ => .defined address k m enable) s) := h.modUnit fun _ _ => Nat.zero_le _
    have fresh (u : State) (hu : CountLaw u) : CountLaw (freshEngines i u) :=
      CountLaw.part (s := modScan i (fun _ => .reset) u) (hu.congr rfl rfl) (busPart_freshEngines i u)
    exact (fresh _ (defined.part (busPart_modAttn ..))).posted (by decide) _
  start slot g k h := by
    obtain same | ⟨i, claim, m, -, -, started⟩ := scanStartBlock_state slot g k _
    · rwa [same]
    · rw [started]
      exact h.congr rfl rfl
  credit slot n k h := by
    obtain same | ⟨i, -, granted⟩ := scanCreditBlock_state slot n k _
    · rwa [same]
    · rw [granted]
      exact h.congr rfl rfl

end Sys2Proof.Machine
end

section
/-!
PROOFS. The law of credit (R120): what a single scan has to keep, and the step of a Scan Engine that ends its transaction.
-/

namespace Sys2Proof.Machine

variable {s t u : State} {i : Slot}

/-! ### The law, slot by slot -/

/-- What the law of credit says of one scan. -/
structure CreditFits (s : State) (i : Slot) : Prop where
  bound : ∀ k, (s.scans[i]).kiosk = some k → (s.scans[i]).credit + framesWaiting s k i ≤ 32
  txns : engineTxns s i = [] ∨ ∃ w, (s.scans[i]).outstanding = some w ∧ engineTxns s i = [w]
  pull : (s.scans[i]).outstanding = some .pull → (s.scans[i]).state.pulling = true → 1 ≤ (s.scans[i]).credit

theorem creditLaw_iff (s : State) :
    CreditLaw s ↔ SlotLaw s ∧ ∀ i : Slot, definedKind s i = some .scanner → CreditFits s i :=
  and_congr_right' <| forall₂_congr fun _ _ =>
    ⟨fun ⟨bound, txns, pull⟩ => ⟨bound, txns, pull⟩, fun ⟨bound, txns, pull⟩ => ⟨bound, txns, pull⟩⟩

/-- Nothing of an UNDEFINED slot is on the unit bus. -/
theorem slotLaw_iff (s : State) : SlotLaw s ↔ ∀ i : Slot, definedKind s i = none → OffBus s i := by
  have undefined (i : Slot) : definedKind s i = none ↔ (s.units[i]).definition = none := Option.map_eq_none_iff
  simp only [undefined]
  refine ⟨fun ⟨places, flights⟩ i blank => ⟨places i blank, fun x running slot => ?_⟩, fun off =>
    ⟨fun i blank => (off i blank).place, fun x i running slot lives blank => ?_⟩⟩
  · exact (Bool.not_eq_false _).mp fun lives => flights x i running slot lives blank
  · exact Bool.false_ne_true (lives.symm.trans ((off i blank).flight x running slot))

theorem BusEased.slotLaw (eased : BusEased s t) (h : SlotLaw s) : SlotLaw t := by
  rw [slotLaw_iff] at h ⊢
  intro i blank
  rw [eased.kind] at blank
  have off := h i blank
  have absent : ¬(s.board[i] ≠ none ∨ definedKind s i ≠ none) := fun some => some.elim (· off.place) (· blank)
  refine ⟨Option.eq_none_iff_forall_ne_some.mpr fun p waits => absent (eased.board i p waits).placed,
    fun x running slot => (Bool.not_eq_false _).mp fun lives => ?_⟩
  obtain same | other := eased.bus x i running slot lives
  · exact Bool.false_ne_true (lives.symm.trans (off.flight x same slot))
  · exact absent other

theorem ScanEased.fits (eased : ScanEased i s t) (scanner : definedKind s i = some .scanner) (h : CreditFits s i) :
    CreditFits t i where
  bound k own := by
    rw [eased.credit]
    exact (Nat.add_le_add_left (eased.frames k) _).trans (h.bound k (eased.kiosk ▸ own))
  txns := by
    rw [eased.outstanding]
    have fewer := eased.txns scanner
    obtain none | ⟨w, outstanding, one⟩ := h.txns
    · rw [none] at fewer
      exact .inl (List.sublist_nil.mp fewer)
    · rw [one] at fewer
      exact (List.sublist_singleton.mp fewer).imp_right fun same => ⟨w, outstanding, same⟩
  pull outstanding pulling := by
    rw [eased.credit]
    exact h.pull (eased.outstanding ▸ outstanding) (eased.pulling pulling)

/-- A step that changes one slot: the other scans are eased, and the slot's own still fits. -/
theorem CreditLaw.at_slot (h : CreditLaw s) (slots : SlotLaw t)
    (others : ∀ j : Slot, i ≠ j → definedKind t j = definedKind s j ∧ ScanEased j s t)
    (own : definedKind t i = some .scanner → CreditFits t i) : CreditLaw t := by
  rw [creditLaw_iff] at h ⊢
  refine ⟨slots, fun j scanner => ?_⟩
  by_cases here : i = j
  · exact here ▸ own (here ▸ scanner)
  · obtain ⟨kind, eased⟩ := others j here
    exact eased.fits (kind ▸ scanner) (h.2 j (kind ▸ scanner))

theorem Eased.creditLaw (eased : Eased s t) (h : CreditLaw s) : CreditLaw t := by
  rw [creditLaw_iff] at h ⊢
  refine ⟨eased.slotLaw h.1, fun i scanner => ?_⟩
  rw [eased.kind] at scanner
  exact (eased.scans i).fits scanner (h.2 i scanner)

/-! ### A Scan Engine whose transaction has ended (R124) -/

/-- From s to t the transaction of a scan has ended, and its credit and its frames come to no more. -/
structure ScanOver (i : Slot) (s t : State) : Prop extends BusEased s t where
  others : ∀ j : Slot, i ≠ j → ScanEased j s t
  txns : definedKind s i = some .scanner → (engineTxns t i).Sublist (engineTxns s i)
  outstanding : (t.scans[i]).outstanding = none
  bound : ∀ k, (t.scans[i]).kiosk = some k → (s.scans[i]).kiosk = some k ∧
    (t.scans[i]).credit + framesWaiting t k i ≤ (s.scans[i]).credit + framesWaiting s k i

theorem ScanOver.creditLaw (ended : ScanOver i s t) (idle : definedKind s i = some .scanner → engineTxns s i = [])
    (h : CreditLaw s) : CreditLaw t := by
  obtain ⟨slots, fits⟩ := (creditLaw_iff s).mp h
  refine h.at_slot (ended.slotLaw slots) (fun j other => ⟨ended.kind j, ended.others j other⟩) fun scanner => ?_
  rw [ended.kind] at scanner
  refine ⟨fun k own => ?_, .inl ?_, fun pulls => ?_⟩
  · obtain ⟨before, fewer⟩ := ended.bound k own
    exact fewer.trans ((fits i scanner).bound k before)
  · exact List.sublist_nil.mp (idle scanner ▸ ended.txns scanner)
  · exact nomatch ended.outstanding.symm.trans pulls

theorem ScanOver.then_eased (ended : ScanOver i s t) (eased : Eased t u) : ScanOver i s u where
  toBusEased := ended.toBusEased.trans eased.toBusEased
  others j other := (ended.others j other).trans (ended.kind j) (eased.scans j)
  txns scanner := ((eased.scans i).txns ((ended.kind i).trans scanner)).trans (ended.txns scanner)
  outstanding := (eased.scans i).outstanding.trans ended.outstanding
  bound k own := by
    obtain ⟨before, fewer⟩ := ended.bound k ((eased.scans i).kiosk ▸ own)
    rw [(eased.scans i).credit]
    exact ⟨before, (Nat.add_le_add_left ((eased.scans i).frames k) _).trans fewer⟩

theorem ScanOver.then_part (ended : ScanOver i s t) (same : busPart u = busPart t) : ScanOver i s u :=
  ended.then_eased (.of_part same)

/-- The record of the scan changes: its transaction is over, and its credit does not grow. -/
theorem ScanOver.modScan {f : ScanRecord → ScanRecord} (eased : Eased s t)
    (outstanding : (f t.scans[i]).outstanding = none)
    (bound : ∀ k, (f t.scans[i]).kiosk = some k →
      (t.scans[i]).kiosk = some k ∧ (f t.scans[i]).credit ≤ (t.scans[i]).credit) : ScanOver i s (modScan i f t) := by
  have record : (Machine.modScan i f t).scans[i] = f t.scans[i] := upd_get_self ..
  refine { eased.toBusEased.trans (.of_same rfl rfl rfl) with
    others := fun j other => (eased.scans j).trans (eased.kind j)
      (.of_txns (upd_get_ne _ _ _ _ other) (fun _ => le_refl _) fun _ => .refl _)
    txns := (eased.scans i).txns
    outstanding := record ▸ outstanding
    bound := fun k own => ?_ }
  rw [record] at own ⊢
  obtain ⟨before, fewer⟩ := bound k own
  refine ⟨(eased.scans i).kiosk ▸ before, Nat.add_le_add ?_ ((eased.scans i).frames k)⟩
  exact fewer.trans (eased.scans i).credit.le

theorem scanOver_ended (i : Slot) (s : State) : ScanOver i s (scanEnded i s) :=
  .modScan (.refl s) rfl fun _ own => ⟨own, le_refl _⟩

theorem ScanOver.trans (ended : ScanOver i s t) (next : ScanOver i t u) : ScanOver i s u where
  toBusEased := ended.toBusEased.trans next.toBusEased
  others j other := (ended.others j other).trans (ended.kind j) (next.others j other)
  txns scanner := (next.txns ((ended.kind i).trans scanner)).trans (ended.txns scanner)
  outstanding := next.outstanding
  bound k own := by
    obtain ⟨mid, fewer⟩ := next.bound k own
    obtain ⟨before, least⟩ := ended.bound k mid
    exact ⟨before, fewer.trans least⟩

/-- The record of a scan that is over changes again. -/
theorem ScanOver.again {f : ScanRecord → ScanRecord} (ended : ScanOver i s t)
    (outstanding : (f t.scans[i]).outstanding = (t.scans[i]).outstanding := by rfl)
    (bound : ∀ k, (f t.scans[i]).kiosk = some k →
      (t.scans[i]).kiosk = some k ∧ (f t.scans[i]).credit ≤ (t.scans[i]).credit := by
        exact fun _ own => ⟨own, le_refl _⟩) :
    ScanOver i s (Machine.modScan i f t) :=
  ended.trans (.modScan (.refl t) (outstanding.trans ended.outstanding) bound)

end Sys2Proof.Machine
end

section
/-!
PROOFS. The law of credit (R120) survives every operation of a Scan Engine and of the Unit Table.
-/

namespace Sys2Proof.Machine

variable {s t u : State} {i : Slot}

/-! ### The outcomes of a Scan Engine's transactions (R122, R124 to R127, R129) -/

theorem Eased.discardFrames (k : Option Kiosk) (i : Slot) (s : State) : Eased s (discardFrames k i s) := by
  cases k with
  | none => exact .refl s
  | some k => exact .framesLeave k s fun q => List.filter_sublist

section
variable (ended : ScanOver i s t) (o : BusOutcome) (d : List Byte)
include ended

theorem ScanOver.setupFailed : ScanOver i s (setupFailed i t) :=
  (ended.again (bound := by rintro _ ⟨⟩)).then_part (busPart_latchOpt ..)

theorem ScanOver.actSset : ScanOver i s (actSset i o t) := by
  unfold Machine.actSset
  split_ifs
  · exact ended.again
  · exact ended.setupFailed
  · exact ended

theorem ScanOver.actSgo : ScanOver i s (actSgo i o t) := by
  unfold Machine.actSgo
  split_ifs
  · exact ended.again
  · exact ended.setupFailed
  · exact ended

theorem ScanOver.actAvail : ScanOver i s (actAvail i o d t) := by
  have noted : ScanOver i s (Machine.modScan i (fun r => { r with available := (byteAt d 0).toNat, availWanted := false }) t) :=
    ended.again
  unfold Machine.actAvail
  dsimp only
  split_ifs
  · exact (noted.again (bound := by rintro _ ⟨⟩)).then_part (busPart_latchOpt ..)
  · exact noted
  · exact ended

theorem ScanOver.actSstate : ScanOver i s (actSstate i o d t) := by
  unfold Machine.actSstate
  split_ifs
  · exact ended.again
  · exact ended

theorem ScanOver.actShalt : ScanOver i s (actShalt i t) := by
  unfold Machine.actShalt endHalt
  split_ifs
  · exact (ended.then_eased (.discardFrames ..)).again (bound := by rintro _ ⟨⟩)
  · exact ended

/-- A frame joins the queue of its scan's kiosk, and a unit of credit pays for it (R126). -/
theorem ScanOver.frameJoins {k : Kiosk} {f : ScanFrame} {g : ScanRecord → ScanRecord} (slot : f.slot = i)
    (credit : 1 ≤ (t.scans[i]).credit)
    (outstanding : ∀ r, (g r).outstanding = r.outstanding) (own : ∀ r, (g r).kiosk = r.kiosk)
    (paid : ∀ r, (g r).credit = r.credit - 1) :
    ScanOver i s (Machine.modScan i g (modKiosk k (fun q => { q with scan := q.scan ++ [f] }) t)) := by
  refine ended.trans ?_
  have record : (Machine.modScan i g (modKiosk k (fun q => { q with scan := q.scan ++ [f] }) t)).scans[i] = g t.scans[i] :=
    upd_get_self ..
  have waiting (m : Kiosk) (j : Slot) :
      framesWaiting (Machine.modScan i g (modKiosk k (fun q => { q with scan := q.scan ++ [f] }) t)) m j =
        framesWaiting t m j + if k = m ∧ i = j then 1 else 0 := by
    unfold framesWaiting
    rw [modScan_kiosks, modKiosk_kiosks, upd_get]
    by_cases queue : k = m
    · by_cases here : i = j <;> simp [queue, here, slot]
    · simp [queue]
  refine { BusEased.of_same rfl rfl rfl with
    others := fun j other => .of_txns (upd_get_ne _ _ _ _ other) (fun m => ?_) fun _ => .refl _
    txns := fun _ => .refl _
    outstanding := ?_
    bound := fun m owns => ?_ }
  · rw [waiting, if_neg fun ⟨_, here⟩ => other here]
    exact le_refl _
  · rw [record, outstanding]
    exact ended.outstanding
  · rw [record, own] at owns
    refine ⟨owns, ?_⟩
    rw [waiting, record, paid]
    split_ifs <;> omega

theorem ScanOver.actPull (credit : (t.scans[i]).state.pulling = true → 1 ≤ (t.scans[i]).credit) :
    ScanOver i s (actPull i o d t) := by
  unfold Machine.actPull
  dsimp only
  split_ifs with pulling
  · split
    · cases (t.scans[i]).kiosk with
      | none =>
        rw [Option.elim_none]
        exact ended.again (bound := fun _ own => ⟨own, Nat.sub_le ..⟩)
      | some k =>
        rw [Option.elim_some]
        exact ended.frameJoins (g := fun r => { r with
          credit := r.credit - 1, available := r.available - 1, nextSeq := r.nextSeq + 1, delivered := r.delivered + 1
          availWanted := r.availWanted || (decide (r.state = .ending) && decide (r.available - 1 = 0)) })
          rfl (credit pulling) (fun _ => rfl) (fun _ => rfl) fun _ => rfl
    · exact ended.again
    · exact ended
  · exact ended

end

/-- A Scan Engine acts: its transaction is over, and no frame joins without a unit of credit. -/
theorem ScanOver.scanAct {w : TxnName} (o : BusOutcome) (d : List Byte)
    (credit : w = .pull → (s.scans[i]).state.pulling = true → 1 ≤ (s.scans[i]).credit) :
    ScanOver i s (scanAct i w o d s) := by
  have ended := scanOver_ended i s
  unfold Machine.scanAct
  dsimp only
  split
  · exact ended.actSset o
  · exact ended.actSgo o
  · exact ended.actAvail o d
  · refine ended.actPull o d ?_
    rw [scanEnded_scan]
    exact credit rfl
  · exact ended.actSstate o d
  · exact ended.actShalt
  · exact ended

theorem ScanOver.scannerGone (i : Slot) (s : State) : ScanOver i s (scannerGone i s) := by
  unfold Machine.scannerGone
  dsimp only
  split_ifs
  · exact (ScanOver.modScan (.discardFrames ..) rfl (by rintro _ ⟨⟩)).then_part (busPart_latchOpt ..)
  · exact .modScan (.discardFrames ..) rfl (by rintro _ ⟨⟩)
  · exact scanOver_ended i s

/-! ### The work of a Scan Engine (R123) -/

/-- The command and data of a work table line name its transaction, and a PULL has a unit of credit. -/
theorem scanWork_name {r : ScanRecord} {w : TxnName} (d : List Byte) (owed : scanWork r = some w) :
    engineName w.command d = w ∧ (w = .pull → 1 ≤ r.credit) := by
  unfold scanWork at owed
  split_ifs at owed with _ _ _ _ _ pulls
  iterate 5 obtain rfl := Option.some.inj owed; exact ⟨rfl, nofun⟩
  obtain rfl := Option.some.inj owed
  simp only [Bool.and_eq_true, decide_eq_true_eq] at pulls
  obtain ⟨-, credit⟩ := pulls
  exact ⟨rfl, fun _ => credit⟩

end Sys2Proof.Machine
end

section
/-!
PROOFS. The law of credit (R120) survives every operation, and every step keeps both laws.
-/

namespace Sys2Proof.Machine

variable {s t u : State} {i : Slot}

/-! ### A posting, a scan record or a slot that changes -/

theorem CreditLaw.part (h : CreditLaw s) (same : busPart t = busPart s) : CreditLaw t := (Eased.of_part same).creditLaw h

theorem CreditLaw.slots (h : CreditLaw s) : SlotLaw s := h.1

theorem CreditLaw.fits (h : CreditLaw s) (scanner : definedKind s i = some .scanner) : CreditFits s i :=
  ((creditLaw_iff s).mp h).2 i scanner

theorem SlotLaw.place {p : Posting} (h : SlotLaw s) (defined : definedKind s i ≠ none) : SlotLaw (place i p s) := by
  rw [slotLaw_iff] at h ⊢
  intro j blank
  have off := h j blank
  refine ⟨(upd_get_ne _ _ _ _ ?_).trans off.place, off.flight⟩
  rintro rfl
  exact defined blank

/-- A record of a scan changes, and what the law says of it is true of the new one. -/
theorem CreditLaw.modScan {f : ScanRecord → ScanRecord} (h : CreditLaw s)
    (own : definedKind s i = some .scanner → CreditFits (modScan i f s) i) : CreditLaw (modScan i f s) :=
  h.at_slot ((BusEased.of_same rfl rfl rfl).slotLaw h.slots)
    (fun _ other => ⟨rfl, .of_txns (upd_get_ne _ _ _ _ other) (fun _ => le_refl _) fun _ => .refl _⟩) own

/-- A record of a scan that has nothing on the bus takes its reset value. -/
theorem CreditLaw.scanReset (h : CreditLaw s) (off : OffBus s i) : CreditLaw (Machine.modScan i (fun _ => .reset) s) := by
  have record : (Machine.modScan i (fun _ => .reset) s).scans[i] = ScanRecord.reset := upd_get_self ..
  refine h.modScan fun _ => ⟨fun k own => ?_, .inl (off.congr rfl rfl).engineTxns, fun pulls => ?_⟩
  · rw [record] at own
    cases own
  · rw [record] at pulls
    cases pulls

theorem CreditLaw.freshEngines (h : CreditLaw s) (off : OffBus s i) : CreditLaw (Machine.freshEngines i s) :=
  (h.scanReset off).part (busPart_freshEngines i s)

/-- A slot with nothing on the bus changes, and is left without a scanner or with a scan of the reset value. -/
theorem CreditLaw.modUnit {f : UnitSlot → UnitSlot} (h : CreditLaw s) (off : OffBus s i)
    (scan : definedKind (modUnit i f s) i = some .scanner → s.scans[i] = .reset) : CreditLaw (modUnit i f s) := by
  have elsewhere (j : Slot) (other : i ≠ j) : definedKind (Machine.modUnit i f s) j = definedKind s j := by
    unfold definedKind
    rw [modUnit_units, upd_get_ne _ _ _ _ other]
  have slots := (slotLaw_iff s).mp h.slots
  refine h.at_slot ((slotLaw_iff _).mpr fun j blank => ?_)
    (fun j other => ⟨elsewhere j other, .of_txns rfl (fun _ => le_refl _) fun _ => .refl _⟩) fun scanner => ?_
  · by_cases here : i = j
    · exact here ▸ off.congr rfl rfl
    · exact (slots j (elsewhere j here ▸ blank)).congr rfl rfl
  · have record : (Machine.modUnit i f s).scans[i] = .reset := scan scanner
    refine ⟨fun k own => ?_, .inl (off.congr rfl rfl).engineTxns, fun pulls => ?_⟩
    · rw [record] at own
      cases own
    · rw [record] at pulls
      cases pulls

/-! ### A Scan Engine chooses its work (R123) -/

theorem scanPosted_fields (w : TxnName) (r : ScanRecord) : (scanPosted w r).outstanding = some w ∧
    (scanPosted w r).credit = r.credit ∧ (scanPosted w r).kiosk = r.kiosk := by
  cases w <;> exact ⟨rfl, rfl, rfl⟩

/-- An engine with no transaction outstanding posts one, a PULL only for a unit of credit. -/
theorem CreditLaw.scanPost {p : Posting} {w : TxnName} (h : CreditLaw s) (scanner : definedKind s i = some .scanner)
    (none : (s.scans[i]).outstanding = none) (own : p.owner = .engine) (name : engineName p.command p.data = w)
    (credit : w = .pull → 1 ≤ (s.scans[i]).credit) : CreditLaw (place i p (Machine.modScan i (scanPosted w) s)) := by
  generalize posted : Machine.place i p (Machine.modScan i (scanPosted w) s) = t
  obtain ⟨outstanding, same, kiosk⟩ := scanPosted_fields w s.scans[i]
  have record : t.scans[i] = scanPosted w s.scans[i] := posted ▸ upd_get_self ..
  have filled : t.board[i] = some p := posted ▸ upd_get_self ..
  have bus : t.bus = s.bus := posted ▸ rfl
  have fits := h.fits scanner
  have nothing : engineTxns s i = [] := fits.txns.resolve_right fun ⟨v, waits, _⟩ => nomatch none.symm.trans waits
  have slots : SlotLaw t := by
    have before : SlotLaw (Machine.modScan i (scanPosted w) s) := (BusEased.of_same rfl rfl rfl).slotLaw h.slots
    exact posted ▸ before.place (scanner.trans_ne nofun)
  refine h.at_slot (i := i) slots (fun j other => ?_) fun _ => ⟨fun k owns => ?_, .inr ⟨w, ?_, ?_⟩, fun pulls _ => ?_⟩
  · have alike : engineTxns t j = engineTxns s j := engineTxns_congr (posted ▸ upd_get_ne _ _ _ _ other) bus
    subst posted
    exact ⟨rfl, .of_txns (upd_get_ne _ _ _ _ other) (fun _ => le_refl _) fun _ => alike ▸ .refl _⟩
  · rw [record, kiosk] at owns
    have frames : framesWaiting t k i = framesWaiting s k i := posted ▸ rfl
    rw [record, same, frames]
    exact fits.bound k owns
  · rw [record, outstanding]
  · rw [engineTxns_eq] at nothing ⊢
    rw [bus, (List.append_eq_nil_iff.mp nothing).2, filled, postedTxns_engine own, name]
    rfl
  · rw [record, outstanding] at pulls
    rw [record, same]
    exact credit (Option.some.inj pulls)

theorem CreditLaw.chooseScan (scanner : definedKind s i = some .scanner) (h : CreditLaw s) : CreditLaw (chooseScan i s) := by
  unfold Machine.chooseScan
  split_ifs with waits
  · exact h
  · split
    · exact h
    · next w owed =>
      obtain ⟨name, credit⟩ := scanWork_name (scanData s.scans[i] w) owed
      exact h.scanPost scanner (by simpa using waits) rfl name credit

/-! ### The requests of a scan (R122, R128) -/

theorem CreditLaw.scanStart (slot : Byte) (g : ScanSettings) (k : Kiosk) (h : CreditLaw s) :
    CreditLaw (scanStartBlock slot g k s).1 := by
  obtain same | ⟨i, claim, m, idle, clear, started⟩ := scanStartBlock_state slot g k s
  · rwa [same]
  · rw [started]
    refine h.modScan fun scanner => ?_
    have record : (Machine.modScan i (fun _ => startRecord s.scans[i] claim k g m (bed s i)) s).scans[i] =
        startRecord s.scans[i] claim k g m (bed s i) := upd_get_self ..
    have fits := h.fits scanner
    refine ⟨fun j own => ?_, ?_, fun _ pulling => ?_⟩
    · rw [record] at own ⊢
      obtain rfl : k = j := Option.some.inj own
      exact (Nat.add_le_add_left clear.le _).trans (Nat.min_le_left ..)
    · rw [record]
      exact fits.txns
    · rw [record] at pulling
      cases pulling

theorem le_grantedCredit (credit n waiting : Nat) : min credit 1 ≤ grantedCredit credit n waiting := by
  unfold grantedCredit
  split_ifs <;> omega

theorem CreditLaw.scanCredit (slot n : Byte) (k : Kiosk) (h : CreditLaw s) : CreditLaw (scanCreditBlock slot n k s).1 := by
  obtain same | ⟨i, kiosk, granted⟩ := scanCreditBlock_state slot n k s
  · rwa [same]
  · rw [granted]
    refine h.modScan fun scanner => ?_
    generalize counted : grantedCredit (s.scans[i]).credit n.toNat (framesWaiting s k i) = c
    have record : (Machine.modScan i (fun r => { r with credit := c }) s).scans[i] = { s.scans[i] with credit := c } :=
      upd_get_self ..
    have fits := h.fits scanner
    refine ⟨fun j own => ?_, ?_, fun pulls pulling => ?_⟩
    · rw [record] at own ⊢
      obtain rfl : k = j := Option.some.inj (kiosk.symm.trans own)
      exact counted ▸ grantedCredit_bounded _ (fits.bound k kiosk)
    · rw [record]
      exact fits.txns
    · rw [record] at pulls pulling ⊢
      have paid := fits.pull pulls pulling
      have least := le_grantedCredit (s.scans[i]).credit n.toNat (framesWaiting s k i)
      rw [counted] at least
      exact (le_min paid (le_refl 1)).trans least

/-! ### The resets (R134, R151, R170) -/

theorem CreditLaw.of_empty (board : ∀ i : Slot, s.board[i] = none) (bus : ∀ x, s.bus ≠ .running x)
    (scans : ∀ i : Slot, s.scans[i] = .reset) : CreditLaw s := by
  have off (i : Slot) : OffBus s i := ⟨board i, fun x running => absurd running (bus x)⟩
  refine (creditLaw_iff s).mpr ⟨(slotLaw_iff s).mpr fun i _ => off i, fun i _ =>
    ⟨fun k own => ?_, .inl (off i).engineTxns, fun pulls => ?_⟩⟩
  · rw [scans] at own
    cases own
  · rw [scans] at pulls
    cases pulls

theorem reset_board (i : Slot) : State.reset.board[i] = none := by simp [State.reset]

theorem reset_scans (i : Slot) : State.reset.scans[i] = .reset := by simp [State.reset]

/-! ### Every operation -/

/-- A Scan Engine acts once its transaction in flight has ended (R124). -/
theorem CreditLaw.scanAct {x : Txn} {b : BusState} (o : BusOutcome) (d : List Byte) (running : s.bus = .running x)
    (own : x.owner = .engine) (slot : x.slot = some i) (lives : x.orphaned = false)
    (scanner : definedKind s i = some .scanner) (free : ∀ y, b ≠ .running y) (h : CreditLaw s) :
    CreditLaw (scanAct i x.name o d { s with bus := b }) := by
  have freed : CreditLaw { s with bus := b } := (Eased.freed fun y held => absurd held (free y)).creditLaw h
  have fits := h.fits scanner
  have txns : engineTxns s i = postedTxns s.board[i] ++ [x.name] := by
    rw [engineTxns_eq, running, flyingTxns_running own slot lives]
  -- the transaction in flight is the outstanding one, and the only one
  obtain ⟨outstanding, nothing⟩ : (s.scans[i]).outstanding = some x.name ∧ postedTxns s.board[i] = [] := by
    obtain none | ⟨w, outstanding, one⟩ := fits.txns
    · cases List.append_eq_nil_iff.mp (txns.symm.trans none) |>.2
    · obtain ⟨nothing, name⟩ := List.append_eq_singleton_iff.mp (txns.symm.trans one) |>.resolve_right nofun
      exact ⟨outstanding.trans (congrArg some (List.singleton_inj.mp name).symm), nothing⟩
  refine (ScanOver.scanAct o d fun pulls pulling => ?_).creditLaw (fun _ => ?_) freed
  · exact fits.pull (pulls ▸ outstanding) pulling
  · rw [engineTxns_eq, flyingTxns_nil fun y held => absurd held (free y)]
    exact (List.append_nil _).trans nothing

theorem creditLaw_kept : BusKept CreditLaw where
  eased eases := eases.creditLaw
  full s := .of_empty reset_board nofun reset_scans
  soft {s} r _ := .of_empty reset_board nofun reset_scans
  chooseScan _ scanner := CreditLaw.chooseScan scanner
  probeNext {s t b i} p running slot lives free h := by
    have freed : Eased s { s with bus := b } := .freed fun y held => absurd held (free y)
    have named : definedKind s i ≠ none := fun blank =>
      Bool.false_ne_true (lives.symm.trans (((slotLaw_iff s).mp h.slots i blank).flight t running slot))
    have next : Eased s (modUnit i (fun u => { u with probe := some p }) { s with bus := b }) :=
      freed.trans (.modUnit i _ (failures := fun _ low => low))
    exact (next.trans (.postProbe p (next.kind i ▸ named))).creditLaw h
  scanAct o d := CreditLaw.scanAct o d
  scannerGone i off h := (ScanOver.scannerGone i _).creditLaw (fun _ => off.engineTxns) h
  undefined {s} i off h := by
    have fresh := h.freshEngines off
    refine fresh.modUnit (off.congr rfl rfl) fun scanner => ?_
    exact upd_get_self ..
  defined {s i} address k m enable blank h := by
    have off : OffBus s i := (slotLaw_iff s).mp h.slots i blank
    have defined : CreditLaw (modUnit i (fun _ => .defined address k m enable) (modScan i (fun _ => .reset) s)) :=
      (h.scanReset off).modUnit (off.congr rfl rfl) fun _ => upd_get_self ..
    have fresh : busPart (freshEngines i (modAttn i (fun a => { a with pending := false })
        (modUnit i (fun _ => .defined address k m enable) s))) =
        busPart (modUnit i (fun _ => .defined address k m enable) (modScan i (fun _ => .reset) s)) :=
      (busPart_freshEngines ..).trans rfl
    have kind : definedKind (modUnit i (fun _ => .defined address k m enable) (modScan i (fun _ => .reset) s)) i = some k := by
      unfold definedKind
      rw [modUnit_units, upd_get_self]
      rfl
    have eased := Eased.of_part fresh
    rw [defineSlot_eq]
    exact (eased.trans (.postProbe .ping ((eased.kind i).trans kind |>.trans_ne nofun))).creditLaw defined
  start slot g k := CreditLaw.scanStart slot g k
  credit slot n k := CreditLaw.scanCredit slot n k

end Sys2Proof.Machine

open Sys2Proof Sys2Proof.Machine

/-- Settles O3: both laws survive what eases the bus and the few operations that do not, so every step keeps them. -/
theorem countsBounded : Obligations.CountsBounded := ⟨countLaw_kept.keptByStep, creditLaw_kept.keptByStep⟩
end

section
/-!
PROOFS. The grant (R165, R166): the rotation within a rank, the posting that wins, and what granting it leaves.
-/

namespace Sys2Proof.Machine

variable {s : State} {r : Rank} {i j : Slot} {p q : Posting}

/-! ### The rotation of a rank -/

theorem competes_iff : competes s r i = true ↔ ∃ p, s.board[i] = some p ∧ p.effectiveRank = r := by
  unfold competes
  simp only [Option.any_eq_true, decide_eq_true_eq]

/-- The slots above the pointer come before those at or below it, both in ascending number. -/
theorem turn_le_turn {pointer : Slot} (order : pointer < i ∧ (pointer < j → i ≤ j) ∨ i ≤ pointer ∧ j ≤ pointer ∧ i ≤ j) :
    turn pointer i ≤ turn pointer j := by
  unfold turn
  simp only [Fin.lt_def, Fin.le_def] at order
  omega

theorem turn_injective {pointer : Slot} (same : turn pointer i = turn pointer j) : i = j := by
  unfold turn at same
  exact Fin.ext (by omega)

/-- The pick of a rank competes in it, and none that competes has an earlier turn. -/
theorem rotationPick_first (pick : rotationPick s r = some i) (other : competes s r j = true) :
    turn (s.pointers.at r) i ≤ turn (s.pointers.at r) j := by
  unfold rotationPick at pick
  dsimp only at pick
  split at pick
  · next k above =>
    obtain rfl := Option.some.inj pick
    obtain ⟨fits, lowest⟩ := (find_indices_iff _ _).mp above
    simp only [Bool.and_eq_true, decide_eq_true_eq] at fits
    refine turn_le_turn (.inl ⟨fits.1, fun beyond => not_lt.mp fun lower => ?_⟩)
    simpa [beyond, other] using lowest j lower
  · next above =>
    obtain ⟨fits, lowest⟩ := (find_indices_iff _ _).mp pick
    simp only [Bool.and_eq_true, decide_eq_true_eq] at fits
    have within : j ≤ s.pointers.at r := not_lt.mp fun beyond => by
      simpa [beyond, other] using (find_indices_none _).mp above j
    refine turn_le_turn (.inr ⟨fits.1, within, not_lt.mp fun lower => ?_⟩)
    simpa [within, other] using lowest j lower

/-! ### The posting that wins -/

theorem CountLaw.slotRanks (h : CountLaw s) : SlotRanks s := fun i p waits => (h.1 i p waits).2

/-- A posting of a slot competes in one of the four ranks the grant looks through. -/
theorem SlotRanks.listed (ranks : SlotRanks s) (waits : s.board[i] = some p) :
    p.effectiveRank ∈ [Rank.panel, .scanner, .printer, .probe] := by
  have below := ranks i p waits
  unfold Posting.effectiveRank
  split_ifs
  · exact List.mem_cons_self
  · cases rank : p.rank with
    | service => exact absurd rank below
    | panel | scanner | printer | probe => decide

theorem wins_of_grantChoice (ranks : SlotRanks s) (choice : grantChoice s = some (r, i)) :
    ∃ p, Wins s i p ∧ p.effectiveRank = r := by
  obtain ⟨before, r', later, order, found, none⟩ := List.findSome?_eq_some_iff.mp choice
  obtain ⟨i', pick, same⟩ := Option.map_eq_some_iff.mp found
  obtain ⟨rfl, rfl⟩ := Prod.mk.inj same
  obtain ⟨p, waits, rank⟩ := competes_iff.mp (rotationPick_competes pick)
  refine ⟨p, ⟨waits, fun j q other => ?_⟩, rank⟩
  have competing : competes s q.effectiveRank j = true := competes_iff.mpr ⟨q, other, rfl⟩
  have descends : (before ++ r' :: later).Pairwise fun a b => a.level < b.level := order ▸ by decide
  rw [rank]
  obtain higher | rfl | lower := by simpa [order] using ranks.listed other
  · have idle := rotationPick_none (Option.map_eq_none_iff.mp (none _ higher)) j
    exact absurd (competing.symm.trans idle) nofun
  · exact .inr ⟨rfl, rotationPick_first pick competing⟩
  · exact .inl ((List.pairwise_cons.mp (List.pairwise_append.mp descends).2.1).1 _ lower)

/-- One slot's posting wins at most. -/
theorem Wins.unique (first : Wins s i p) (second : Wins s j q) : i = j ∧ p = q := by
  obtain ⟨waits, best⟩ := first
  obtain ⟨waits', best'⟩ := second
  have here : i = j := by
    obtain above | ⟨rank, early⟩ := best j q waits'
    · obtain below | ⟨same, -⟩ := best' i p waits
      · omega
      · rw [same] at above
        omega
    · obtain below | ⟨-, late⟩ := best' i p waits
      · rw [rank] at below
        omega
      · rw [← rank] at late
        exact turn_injective (le_antisymm early late)
  subst here
  exact ⟨rfl, Option.some.inj (waits.symm.trans waits')⟩

theorem exists_wins (ranks : SlotRanks s) (waits : s.board[i] ≠ none) : ∃ j p, Wins s j p := by
  cases choice : grantChoice s with
  | none => exact absurd (ranks.board_none choice i) waits
  | some found =>
    obtain ⟨p, wins, -⟩ := wins_of_grantChoice (r := found.1) (i := found.2) ranks choice
    exact ⟨found.2, p, wins⟩

theorem Wins.grantChoice (ranks : SlotRanks s) (wins : Wins s i p) : grantChoice s = some (p.effectiveRank, i) := by
  cases choice : Machine.grantChoice s with
  | none => exact absurd (ranks.board_none choice i) (wins.1 ▸ Option.some_ne_none p)
  | some found =>
    obtain ⟨q, first, rank⟩ := wins_of_grantChoice (r := found.1) (i := found.2) ranks choice
    obtain ⟨rfl, rfl⟩ := wins.unique first
    rw [rank]

/-! ### What a grant leaves (R165, R166, R147) -/

theorem grant_service (idle : s.bus = .idle) (service : s.servicePlace = some p) : grant s = grantService p s := by
  unfold grant
  rw [idle, service]

theorem grant_empty (service : s.servicePlace = none) (empty : ∀ i : Slot, s.board[i] = none) : grant s = s := by
  have choice : Machine.grantChoice s = none := Option.eq_none_iff_forall_ne_some.mpr fun found choice => by
    obtain ⟨p, waits⟩ := grantChoice_waits (r := found.1) (i := found.2) choice
    exact absurd (waits.symm.trans (empty _)) nofun
  unfold grant
  rw [service, choice]
  split <;> rfl

theorem grant_wins (ranks : SlotRanks s) (idle : s.bus = .idle) (service : s.servicePlace = none) (wins : Wins s i p) :
    grant s = grantSlot p.effectiveRank i p s := by
  unfold grant
  rw [idle, service, wins.grantChoice ranks]
  dsimp only
  rw [wins.1]

theorem grantSlot_pointers (r : Rank) (i : Slot) (p : Posting) (s : State) :
    (grantSlot r i p s).pointers = s.pointers.move r i := by
  unfold grantSlot
  dsimp only
  split <;> rfl

theorem grantSlot_attn (r : Rank) (i : Slot) (p : Posting) (s : State) : (grantSlot r i p s).attn =
    if p.owner = .cause then upd s.attn i fun a => { a with pending := false } else s.attn := by
  unfold grantSlot
  dsimp only
  split <;> rfl

theorem grantSlot_rest (r : Rank) (i : Slot) (p : Posting) (s : State) :
    { grantSlot r i p s with bus := s.bus, board := s.board, pointers := s.pointers, attn := s.attn } = s := by
  unfold grantSlot
  dsimp only
  split <;> rfl

end Sys2Proof.Machine

open Sys2Proof Sys2Proof.Machine

/-- Settles O19: the grant finds the posting that wins, and what it leaves is read off each field. -/
theorem grantChoice : Obligations.GrantChoice := by
  unfold Obligations.GrantChoice
  refine ⟨fun p slot capture now => rfl, fun p => ⟨fun old => if_pos old, fun young => if_neg young⟩,
    fun s => grant_busy, fun s => grant_empty, fun s p idle service => grant_service idle service,
    fun s counts idle service => ?_⟩
  have ranks := counts.slotRanks
  refine ⟨fun i waits => exists_wins ranks waits, fun i p wins => ?_⟩
  rw [grant_wins ranks idle service wins]
  refine ⟨grantSlot_bus .., ?_, fun j other => ?_, grantSlot_pointers .., fun poll => ?_, fun other => ?_, grantSlot_rest ..⟩
  · rw [grantSlot_place, if_pos rfl]
  · rw [grantSlot_place, if_neg other.symm]
    rfl
  · rw [grantSlot_attn, if_pos poll]
  · rw [grantSlot_attn, if_neg other]
end

section
/-!
PROOFS. The wires of the unit bus (R155 to R158): the check byte, the bytes the hub sends and reads, and the outcome.
-/

namespace Sys2Proof.Machine

variable {t : Txn} {a : UnitAnswer} {count check : Byte} {d rest : List Byte}

/-! ### The check byte (R158) -/

theorem crcSteps_eq_iterate {n : Nat} (poly : BitVec n) (k : Nat) (v : BitVec n) :
    crcSteps poly k v = (crcStep poly)^[k] v := by
  induction k generalizing v with
  | zero => rfl
  | succ k ih => exact ih _

/-- A byte's bit steps, each by the top bit of the value. -/
theorem crc8Byte_eq (v b : Byte) : crc8Byte v b = (List.range 8).foldl
    (fun (v : Byte) _ => if v.getLsbD 7 = true then (v <<< 1) ^^^ 0x31 else v <<< 1) (v ^^^ b) := by
  have top (v : Byte) : crcStep 0x31#8 v = if v.getLsbD 7 = true then (v <<< 1) ^^^ 0x31 else v <<< 1 := by
    unfold crcStep
    rw [BitVec.msb_eq_getLsbD_last]
    rfl
  unfold crc8Byte
  simp only [← top]
  rw [crcSteps_eq_iterate, List.foldl_const, List.length_range]

theorem crc8_append (p : List Byte) (b : Byte) : crc8 (p ++ [b]) = crc8Byte (crc8 p) b := List.foldl_append

/-! ### The bytes of an answer (R157) -/

theorem answerData_length (received : List Byte) (n : Nat) : (answerData received n).length = n := by
  rw [answerData, List.length_map, List.length_range]

/-- The data and the check of an answer that holds them. -/
theorem answerData_whole (length : d.length = count.toNat) :
    answerData (count :: (d ++ check :: rest)) count.toNat = d := by
  refine List.ext_getElem ((answerData_length ..).trans length.symm) fun k _ inside => ?_
  simp only [answerData, List.getElem_map, List.getElem_range, Nat.add_comm 1, List.getD_cons_succ]
  rw [List.getD_append _ _ _ _ inside, List.getD_eq_getElem _ _ inside]

theorem answerCheck_whole (length : d.length = count.toNat) :
    answerCheck (count :: (d ++ check :: rest)) count.toNat = check := by
  unfold answerCheck
  rw [Nat.add_comm, List.getD_cons_succ, ← length, List.getD_append_right _ _ _ _ (le_refl _), Nat.sub_self]
  rfl

/-- The count byte of an answer is in range. -/
def InRange (t : Txn) (count : Byte) : Prop := count.toNat ≤ 48 ∧ t.minCount ≤ count.toNat

theorem not_inRange_iff : ¬InRange t count ↔ 48 < count.toNat ∨ count.toNat < t.minCount := by
  unfold InRange
  omega

theorem answerReached_none (acked : a.nackAt = none) : answerReached a = true := by
  unfold answerReached
  rw [acked]

theorem readAnswer_refused (refused : answerReached a = false) : readAnswer t a = [] := by
  unfold readAnswer
  rw [refused]
  exact if_neg Bool.false_ne_true

theorem readAnswer_count (reached : answerReached a = true) (out : ¬InRange t (answerCount a.received)) :
    readAnswer t a = [answerCount a.received] := by
  unfold readAnswer
  rw [if_pos reached]
  exact if_pos (not_inRange_iff.mp out)

theorem readAnswer_whole (reached : answerReached a = true) (fits : InRange t (answerCount a.received)) :
    readAnswer t a = answerCount a.received :: (answerData a.received (answerCount a.received).toNat ++
      [answerCheck a.received (answerCount a.received).toNat]) := by
  unfold readAnswer
  rw [if_pos reached]
  exact if_neg fun out => not_inRange_iff.mpr out fits

/-- The hub reads a whole answer as the unit sends it. -/
theorem readAnswer_sent (reached : answerReached a = true) (received : a.received = count :: (d ++ [check]))
    (fits : InRange t count) (length : d.length = count.toNat) : readAnswer t a = count :: (d ++ [check]) := by
  have counted : answerCount a.received = count := by rw [received]; rfl
  rw [readAnswer_whole reached (counted ▸ fits), counted, received, answerData_whole length, answerCheck_whole length]

/-! ### The progress of a transaction that ended by itself (R153) -/

theorem wireProgress_received_other (other : t.kind ≠ .read) : (wireProgress t a).received = [] := by
  unfold wireProgress
  cases kind : t.kind with
  | read => exact absurd kind other
  | ping | write => rfl

theorem wireProgress_received_read (kind : t.kind = .read) : (wireProgress t a).received = readAnswer t a := by
  unfold wireProgress
  rw [kind]

theorem sentBytes_read (kind : t.kind = .read) :
    sentBytes t = [addressByte t.address false, t.command, addressByte t.address true] := by
  unfold sentBytes
  rw [kind]

/-- A READ that reached its answer sent every byte. -/
theorem wireProgress_sent (kind : t.kind = .read) (reached : answerReached a = true) :
    (wireProgress t a).sent = sentBytes t := by
  unfold wireProgress
  unfold answerReached at reached
  split at reached
  · dsimp only
  · next k nacked =>
    rw [sentBytes_read kind]
    exact List.take_of_length_le (by simpa using (of_decide_eq_true reached).trans (Nat.le_succ k))

theorem take_count (length : d.length = count.toNat) (rest : List Byte) :
    (count :: (d ++ rest)).take (1 + (answerCount (count :: (d ++ rest))).toNat) = count :: d := by
  show (count :: (d ++ rest)).take (1 + count.toNat) = _
  rw [Nat.add_comm, List.take_succ_cons, ← length, List.take_left]

/-- The check of a whole answer covers the bytes sent, the count and the data (R158). -/
theorem wireProgress_check (kind : t.kind = .read) (reached : answerReached a = true)
    (answer : readAnswer t a = count :: (d ++ rest)) (length : d.length = count.toNat) :
    (wireProgress t a).check = crc8 (sentBytes t ++ count :: d) := by
  have running : (wireProgress t a).check = crc8 ((wireProgress t a).sent ++
      (wireProgress t a).received.take (1 + (answerCount (wireProgress t a).received).toNat)) := rfl
  rw [running, wireProgress_sent kind reached, wireProgress_received_read kind, answer, take_count length]

theorem okData_read {p : Progress} (kind : t.kind = .read) (answer : p.received = count :: (d ++ rest))
    (length : d.length = count.toNat) : okData { t with progress := p } .ok = d := by
  unfold okData
  dsimp only
  rw [kind, answer]
  show (d ++ rest).take count.toNat = d
  rw [← length, List.take_left]

/-! ### The outcome (R155 to R157) -/

theorem wireOutcome_ping (kind : t.kind = .ping) : wireOutcome t a = pingOutcome a := by
  unfold wireOutcome
  rw [kind]

theorem wireOutcome_write (kind : t.kind = .write) : wireOutcome t a = writeOutcome t.data.length a := by
  unfold wireOutcome
  rw [kind]

theorem wireOutcome_read (kind : t.kind = .read) : wireOutcome t a = readOutcome t a := by
  unfold wireOutcome
  rw [kind]

theorem wireOutcome_noAnswer (address : a.nackAt = some 0) : wireOutcome t a = .noAnswer := by
  cases kind : t.kind with
  | ping => exact (wireOutcome_ping kind).trans (if_pos address)
  | write =>
    rw [wireOutcome_write kind]
    unfold writeOutcome
    rw [address]
    rfl
  | read => exact (wireOutcome_read kind).trans (if_pos address)

section
variable (kind : t.kind = .write)
include kind

theorem wireOutcome_write_ok (acked : a.nackAt = none) : wireOutcome t a = .ok := by
  rw [wireOutcome_write kind]
  unfold writeOutcome
  rw [acked]

theorem wireOutcome_write_refused {k : Nat} (nacked : a.nackAt = some k) (past : 1 ≤ k) (before : k ≤ t.data.length + 2) :
    wireOutcome t a = .refused := by
  rw [wireOutcome_write kind]
  unfold writeOutcome
  rw [nacked]
  dsimp only
  rw [if_neg (by omega), if_pos (by omega)]

theorem wireOutcome_write_checkFail (nacked : a.nackAt = some (t.data.length + 3)) : wireOutcome t a = .checkFail := by
  rw [wireOutcome_write kind]
  unfold writeOutcome
  rw [nacked]
  dsimp only
  rw [if_neg (by omega), if_neg (by omega), if_pos rfl]

end

section
variable (kind : t.kind = .read)
include kind

theorem wireOutcome_read_refused (address : a.nackAt ≠ some 0) (refused : answerReached a = false) :
    wireOutcome t a = .refused := by
  rw [wireOutcome_read kind]
  unfold readOutcome
  rw [if_neg address, refused]
  rfl

/-- A READ that reached its answer ends by the count and the check byte. -/
theorem wireOutcome_read_reached (reached : answerReached a = true) : wireOutcome t a =
    if 48 < (answerCount a.received).toNat then .overlong
    else if (answerCount a.received).toNat < t.minCount then .short
    else if crc8 (sentBytes t ++ answerCount a.received :: answerData a.received (answerCount a.received).toNat) =
        answerCheck a.received (answerCount a.received).toNat then .ok
    else .checkFail := by
  have address : a.nackAt ≠ some 0 := fun none => by
    unfold answerReached at reached
    rw [none] at reached
    cases reached
  rw [wireOutcome_read kind]
  unfold readOutcome
  rw [if_neg address, reached]
  rfl

/-- A READ that ended OK had a whole answer in range, with the right check. -/
theorem readAnswer_of_endsOk (ends : EndsOk t a d) : ∃ count : Byte, answerReached a = true ∧ InRange t count ∧
    d.length = count.toNat ∧ readAnswer t a = count :: (d ++ [crc8 (sentBytes t ++ count :: d)]) := by
  obtain ⟨ok, data⟩ := ends
  have reached : answerReached a = true := (Bool.not_eq_false _).mp fun refused => by
    by_cases address : a.nackAt = some 0
    · cases ok.symm.trans (wireOutcome_noAnswer address)
    · cases ok.symm.trans (wireOutcome_read_refused kind address refused)
  rw [wireOutcome_read_reached kind reached] at ok
  split_ifs at ok with long short right
  have fits : InRange t (answerCount a.received) := ⟨not_lt.mp long, not_lt.mp short⟩
  have answer := readAnswer_whole reached fits
  rw [okData_read kind ((wireProgress_received_read kind).trans answer) (answerData_length ..)] at data
  subst data
  exact ⟨answerCount a.received, reached, fits, answerData_length .., answer.trans (by rw [right])⟩

end

end Sys2Proof.Machine

open Sys2Proof Sys2Proof.Machine

/-- Settles O29: the check by its steps, the bytes of each kind of transaction, and the outcome by the byte not acknowledged or
by the answer. -/
theorem wireOutcomes : Obligations.WireOutcomes := by
  unfold Obligations.WireOutcomes
  refine ⟨⟨rfl, fun p b => (crc8_append p b).trans (crc8Byte_eq ..)⟩, ?_, fun t a => ⟨wireOutcome_noAnswer,
    fun kind address => (wireOutcome_ping kind).trans (if_neg address), wireOutcome_write_ok,
    fun kind k nacked past before => wireOutcome_write_refused kind nacked past before, wireOutcome_write_checkFail,
    ?_, ?_⟩⟩
  · rintro t w r rfl rfl
    refine ⟨fun kind => ?_, fun kind covered same => ?_, sentBytes_read⟩
    · unfold sentBytes
      rw [kind]
      rfl
    · subst same
      unfold sentBytes
      rw [kind]
      rfl
  · rintro kind (command | address)
    · exact wireOutcome_read_refused kind (by rw [command]; decide) (by rw [answerReached, command]; rfl)
    · exact wireOutcome_read_refused kind (by rw [address]; decide) (by rw [answerReached, address]; rfl)
  · intro kind acked count rest received
    have reached := answerReached_none acked
    have counted : answerCount a.received = count := by rw [received]; rfl
    have outcome := wireOutcome_read_reached kind reached
    rw [counted] at outcome
    refine ⟨fun long => outcome.trans (if_pos long), fun short small => ?_, fun small enough d check whole length => ?_⟩
    · rw [outcome, if_neg (not_lt.mpr small), if_pos short]
    · have data : answerData a.received count.toNat = d := by rw [received, whole, answerData_whole length]
      have last : answerCheck a.received count.toNat = check := by rw [received, whole, answerCheck_whole length]
      rw [if_neg (not_lt.mpr small), if_neg (not_lt.mpr enough), data, last] at outcome
      have answer := readAnswer_sent reached (received.trans (congrArg (count :: ·) whole)) ⟨small, enough⟩ length
      refine ⟨fun right => ⟨outcome.trans (if_pos right.symm), ?_⟩, fun wrong => outcome.trans (if_neg wrong.symm)⟩
      exact okData_read kind ((wireProgress_received_read kind).trans answer) length
end

section
/-!
PROOFS. BUS RAW (R167): its posting, the reply it leaves for each thing the unit can have sent, and the end of its transaction.
-/

namespace Sys2Proof.Machine

/-! ### The reply (R167) -/

section
variable {t : Txn} {o : BusOutcome} {count check : Byte} {d rest : List Byte}

/-- Nothing was received. -/
theorem rawReply_bare (received : t.progress.received = []) : rawReply t o = [0, BitVec.ofNat 8 o.code, 0, 0, 0, 0] := by
  unfold rawReply
  rw [received]
  rfl

/-- The reply when a count byte was received: flag 2 and the two checks are there when the check byte came. -/
theorem rawReply_cons (received : t.progress.received = count :: rest) : rawReply t o =
    u8 0 ++ u8 o.code ++
      u8 (packFlags [true, decide (count.toNat ≤ 48) && decide (rest.length + 1 = count.toNat + 2)]) ++ [count] ++
      (if (decide (count.toNat ≤ 48) && decide (rest.length + 1 = count.toNat + 2)) = true then
        [(count :: rest).getD (1 + count.toNat) 0, t.progress.check] else [0, 0]) ++
      rest.take (if count.toNat ≤ 48 then count.toNat else 0) := by
  unfold rawReply
  rw [received]
  rfl

/-- The check byte did not come: the count, and the data that did. -/
theorem rawReply_part (received : t.progress.received = count :: rest) (short : rest.length ≤ count.toNat)
    (fits : rest = [] ∨ count.toNat ≤ 48) : rawReply t o = [0, BitVec.ofNat 8 o.code, 1, count, 0, 0] ++ rest := by
  have noCheck : decide (rest.length + 1 = count.toNat + 2) = false := decide_eq_false (by omega)
  have data : rest.take (if count.toNat ≤ 48 then count.toNat else 0) = rest := by
    refine List.take_of_length_le ?_
    obtain rfl | small := fits
    · exact Nat.zero_le _
    · rwa [if_pos small]
  rw [rawReply_cons received, noCheck, data, Bool.and_false]
  rfl

/-- A whole answer: the count, both checks and the data. -/
theorem rawReply_whole (received : t.progress.received = count :: (d ++ [check])) (length : d.length = count.toNat)
    (small : count.toNat ≤ 48) :
    rawReply t o = [0, BitVec.ofNat 8 o.code, 3, count, check, t.progress.check] ++ d := by
  have whole : (d ++ [check]).length + 1 = count.toNat + 2 := by rw [List.length_append, length, List.length_singleton]
  have last : (count :: (d ++ [check])).getD (1 + count.toNat) 0 = check := by
    rw [Nat.add_comm, List.getD_cons_succ, ← length, List.getD_append_right _ _ _ _ (le_refl _), Nat.sub_self]
    rfl
  rw [rawReply_cons received, decide_eq_true whole, decide_eq_true small, last, if_pos small, ← length, List.take_left]
  rfl

end

/-! #### After a transaction that ended by itself -/

section
variable {t : Txn} {a : UnitAnswer} {o : BusOutcome} {count check : Byte} {d rest : List Byte}

theorem rawReply_wire_other (other : t.kind ≠ .read) :
    rawReply { t with progress := wireProgress t a } o = [0, BitVec.ofNat 8 o.code, 0, 0, 0, 0] :=
  rawReply_bare (wireProgress_received_other other)

variable (kind : t.kind = .read)
include kind

theorem rawReply_wire_refused (refused : answerReached a = false) :
    rawReply { t with progress := wireProgress t a } o = [0, BitVec.ofNat 8 o.code, 0, 0, 0, 0] :=
  rawReply_bare ((wireProgress_received_read kind).trans (readAnswer_refused refused))

theorem rawReply_wire_count (acked : a.nackAt = none) (received : a.received = count :: rest) (out : ¬InRange t count) :
    rawReply { t with progress := wireProgress t a } o = [0, BitVec.ofNat 8 o.code, 1, count, 0, 0] := by
  have counted : answerCount a.received = count := by rw [received]; rfl
  have answer : readAnswer t a = [count] := by
    rw [readAnswer_count (answerReached_none acked) (counted ▸ out), counted]
  exact rawReply_part ((wireProgress_received_read kind).trans answer) (Nat.zero_le _) (.inl rfl)

theorem rawReply_wire_whole (reached : answerReached a = true) (fits : InRange t count)
    (answer : readAnswer t a = count :: (d ++ [check])) (length : d.length = count.toNat) :
    rawReply { t with progress := wireProgress t a } o =
      [0, BitVec.ofNat 8 o.code, 3, count, check, crc8 (sentBytes t ++ count :: d)] ++ d := by
  rw [← wireProgress_check kind reached answer length]
  exact rawReply_whole ((wireProgress_received_read kind).trans answer) length fits.1

end

/-! #### After a transaction that was cut short (R160, R168) -/

section
variable {t : Txn} {o : BusOutcome} {sent : Nat} {received : List Byte} {count check : Byte} {d rest more : List Byte}

theorem cutProgress_bare (cut : t.kind ≠ .read ∨ sent < 3 ∨ received = []) : (cutProgress t sent received).received = [] := by
  unfold cutProgress
  dsimp only
  by_cases kind : t.kind = .read
  · obtain other | few | rfl := cut
    · exact absurd kind other
    · rw [sentBytes_read kind]
      refine if_neg ?_
      rw [List.length_take]
      simp only [List.length_cons, List.length_nil]
      omega
    · unfold cutReceived
      rw [kind]
      exact ite_self _
  · unfold cutReceived
    cases other : t.kind with
    | read => exact absurd other kind
    | ping | write => exact ite_self _

variable (kind : t.kind = .read) (enough : 3 ≤ sent)
include kind enough

theorem cutProgress_sent : (cutProgress t sent received).sent = sentBytes t := by
  unfold cutProgress
  dsimp only
  rw [sentBytes_read kind]
  exact List.take_of_length_le enough

theorem cutProgress_received : (cutProgress t sent received).received = cutReceived t received := by
  have all : (sentBytes t).take sent = sentBytes t := cutProgress_sent (received := received) kind enough
  unfold cutProgress
  dsimp only
  rw [all, if_pos rfl]

theorem cutProgress_count (out : ¬InRange t count) : (cutProgress t sent (count :: rest)).received = [count] := by
  rw [cutProgress_received kind enough]
  unfold cutReceived
  rw [kind]
  exact if_pos (not_inRange_iff.mp out)

theorem cutProgress_inRange (fits : InRange t count) :
    (cutProgress t sent (count :: rest)).received = count :: rest.take (count.toNat + 1) := by
  rw [cutProgress_received kind enough]
  unfold cutReceived
  rw [kind]
  exact if_neg fun out => not_inRange_iff.mpr out fits

theorem rawReply_cut_count (out : ¬InRange t count) :
    rawReply { t with progress := cutProgress t sent (count :: rest) } o = [0, BitVec.ofNat 8 o.code, 1, count, 0, 0] :=
  rawReply_part (cutProgress_count kind enough out) (Nat.zero_le _) (.inl rfl)

theorem rawReply_cut_part (fits : InRange t count) (short : rest.length ≤ count.toNat) :
    rawReply { t with progress := cutProgress t sent (count :: rest) } o =
      [0, BitVec.ofNat 8 o.code, 1, count, 0, 0] ++ rest := by
  have all := cutProgress_inRange (rest := rest) kind enough fits
  rw [List.take_of_length_le (short.trans (Nat.le_succ _))] at all
  exact rawReply_part all short (.inr fits.1)

theorem rawReply_cut_whole (fits : InRange t count) (length : d.length = count.toNat) :
    rawReply { t with progress := cutProgress t sent (count :: (d ++ check :: more)) } o =
      [0, BitVec.ofNat 8 o.code, 3, count, check, crc8 (sentBytes t ++ count :: d)] ++ d := by
  have whole : (cutProgress t sent (count :: (d ++ check :: more))).received = count :: (d ++ [check]) := by
    rw [cutProgress_inRange kind enough fits, ← length, List.take_length_add_append]
    rfl
  have checked : (cutProgress t sent (count :: (d ++ check :: more))).check = crc8 (sentBytes t ++ count :: d) := by
    have running (p : List Byte) : (cutProgress t sent p).check = crc8 ((cutProgress t sent p).sent ++
        (cutProgress t sent p).received.take (1 + (answerCount (cutProgress t sent p).received).toNat)) := rfl
    rw [running, cutProgress_sent kind enough, whole, take_count length]
  rw [← checked]
  exact rawReply_whole whole length fits.1

end

/-! ### The requests (R167) -/

section
variable {s : State} {r : ReqSlot} {tag address command first : Byte} {data : List Byte} {n : Nat} (k : BusKind)

/-- A BUS RAW that takes a slot is answered as its block says. -/
theorem busRaw_answered {u : State} {p : List Byte} (free : Takes s serviceLink r) (short : n ≤ 200)
    (agrees : lengthAgrees .busRaw true n first = true)
    (block : busRawBlock (some k) address command data r (taken serviceLink r .busRaw tag s) = (u, .now p)) :
    request (listed serviceLink tag .busRaw n first) (busRawBlock (some k) address command data) s =
      .next (answered serviceLink r p u) :=
  request_now free short rfl agrees (Bool.and_false _) block

theorem busRaw_busy (free : Takes s serviceLink r) (short : n ≤ 200) (agrees : lengthAgrees .busRaw true n first = true)
    (waits : s.busRaw ≠ none) :
    request (listed serviceLink tag .busRaw n first) (busRawBlock (some k) address command data) s =
      .next (answered serviceLink r (reply .busy [0]) (taken serviceLink r .busRaw tag s)) :=
  busRaw_answered k free short agrees (if_pos (Option.isSome_iff_ne_none.mpr waits))

variable (none : s.busRaw = none)
include none

theorem busRawBlock_free : busRawBlock (some k) address command data r (taken serviceLink r .busRaw tag s) =
    if 127 < address.toNat then (taken serviceLink r .busRaw tag s, .now (reply .badArg []))
    else ({ taken serviceLink r .busRaw tag s with
      servicePlace := some (rawPosting k address command data), busRaw := some r }, .later) := by
  have quiet : ¬(taken serviceLink r .busRaw tag s).busRaw.isSome = true := by
    show ¬s.busRaw.isSome = true
    rw [none]
    exact Bool.false_ne_true
  exact if_neg quiet

theorem busRaw_badArg (free : Takes s serviceLink r) (short : n ≤ 200) (agrees : lengthAgrees .busRaw true n first = true)
    (high : 127 < address.toNat) :
    request (listed serviceLink tag .busRaw n first) (busRawBlock (some k) address command data) s =
      .next (answered serviceLink r (reply .badArg []) (taken serviceLink r .busRaw tag s)) :=
  busRaw_answered k free short agrees ((busRawBlock_free k none).trans (if_pos high))

theorem busRaw_posted (free : Takes s serviceLink r) (short : n ≤ 200) (agrees : lengthAgrees .busRaw true n first = true)
    (low : address.toNat ≤ 127) :
    request (listed serviceLink tag .busRaw n first) (busRawBlock (some k) address command data) s =
      .next (settle { taken serviceLink r .busRaw tag s with
        busRaw := some r, servicePlace := some (rawPosting k address command data) }) :=
  request_later free short rfl agrees (Bool.and_false _) ((busRawBlock_free k none).trans (if_neg (not_lt.mpr low)))

end

/-! ### The end of its transaction (R162, R167) -/

section
variable {s : State} {t : Txn} {r : ReqSlot}

theorem handOn_service (o : BusOutcome) (own : t.owner = .service) (lives : t.orphaned = false) (waits : s.busRaw = some r) :
    handOn t o s = queueReply serviceLink r (rawReply t o) { s with busRaw := none } := by
  unfold handOn rawAct
  rw [lives, own, waits]
  rfl

theorem exec_busRawComplete (a : UnitAnswer) (running : s.bus = .running t) (own : t.owner = .service)
    (lives : t.orphaned = false) (waits : s.busRaw = some r) : exec (.busRawComplete a) s =
      .next (answered serviceLink r (rawReply { t with progress := wireProgress t a } (wireOutcome t a))
        { busFreed s with busRaw := none }) := by
  have ends : completeRaw a s = endTransaction { t with progress := wireProgress t a } (wireOutcome t a) s := by
    unfold completeRaw
    rw [running]
    exact if_pos own
  have completes : exec (.busRawComplete a) s = .next (settle (completeRaw a s)) := rfl
  rw [completes, ends, endTransaction, busAfter_ends (wireOutcome_ends t a)]
  exact congrArg (fun u => (.next (settle u) : Answer)) (handOn_service (s := busFreed s) _ own lives waits)

end

end Sys2Proof.Machine

open Sys2Proof Sys2Proof.Machine

/-- Settles O57: each request by its block, the end of the transaction by its outcome, and the reply by what was received. -/
theorem busRaw : Obligations.BusRaw := by
  unfold Obligations.BusRaw
  refine ⟨fun s r tag address command data free some few => ?_, fun s t a r running own lives waits => ?_,
    fun t a raw kind same => ?_, fun t o sent received raw same => ?_,
    fun s t o r own lives waits => handOn_service o own lives waits, rfl⟩
  case refine_1 =>
    have long : 3 + data.length ≤ 200 := by omega
    have agrees : lengthAgrees .busRaw true (3 + data.length) 3 = true := decide_eq_true (by omega)
    refine ⟨?_, fun none high => ?_, fun none low => ?_⟩
    · rintro waits u rfl
      exact ⟨busRaw_busy .ping free (by decide) rfl waits, busRaw_busy .read free (by decide) rfl waits,
        busRaw_busy .write free long agrees waits⟩
    · rintro u rfl
      exact ⟨busRaw_badArg .ping none free (by decide) rfl high, busRaw_badArg .read none free (by decide) rfl high,
        busRaw_badArg .write none free long agrees high⟩
    · exact ⟨busRaw_posted .ping none free (by decide) rfl low, busRaw_posted .read none free (by decide) rfl low,
        busRaw_posted .write none free long agrees low⟩
  case refine_2 =>
    refine ⟨exec_busRawComplete a running own lives waits, rawReply_wire_other, fun d kind ends => ?_⟩
    obtain ⟨count, reached, fits, length, answer⟩ := readAnswer_of_endsOk kind ends
    have counted : BitVec.ofNat 8 d.length = count := by rw [length, BitVec.ofNat_toNat, BitVec.setWidth_eq]
    rw [counted]
    exact rawReply_wire_whole kind reached fits answer length
  case refine_3 =>
    subst same
    refine ⟨?_, fun acked count rest received => ⟨fun out => ?_, fun d check small enough whole length => ?_⟩⟩
    · rintro (address | command | second)
      · exact rawReply_wire_refused kind (by rw [answerReached, address]; rfl)
      · exact rawReply_wire_refused kind (by rw [answerReached, command]; rfl)
      · exact rawReply_wire_refused kind (by rw [answerReached, second]; rfl)
    · exact rawReply_wire_count kind acked received (not_inRange_iff.mpr out)
    · have fits : InRange t count := ⟨small, enough⟩
      have answer := readAnswer_sent (answerReached_none acked) (received.trans (congrArg (count :: ·) whole)) fits length
      exact rawReply_wire_whole kind (answerReached_none acked) fits answer length
  case refine_4 =>
    subst same
    refine ⟨fun cut => rawReply_bare (cutProgress_bare cut), fun kind enough count rest received => ?_⟩
    subst received
    refine ⟨fun out => rawReply_cut_count kind enough (not_inRange_iff.mpr out), fun small least =>
      ⟨fun short => rawReply_cut_part kind enough ⟨small, least⟩ short, ?_⟩⟩
    rintro d check more rfl length
    exact rawReply_cut_whole kind enough ⟨small, least⟩ length
end
